-- ==== Sys2Proof/Word.lean ====
section
/-!
DEFINITION. The words of the part: the byte of the serial line (R173) and the running or stopped
timer that every block of the manual keeps.
-/

namespace Sys2Proof

/-- One byte of a request or reply frame (R173). -/
abbrev Byte := BitVec 8

/-- A timer: `none` while it is stopped, `some ms` while it runs, with the milliseconds since its start. -/
abbrev Timer := Option Nat

end Sys2Proof
end

