-- ==== Sys2Proof/Syntax.lean ====
section
/-!
DEFINITION. The names of the part (cavities, elements, relays, channels, switches) and the commands it
takes: one constructor of `Instr` per row of spec/opcode_table.json. A request carries the payload bytes of
its frame (R173, R183); an event carries what the manual says is new with it.
-/

namespace Sys2Proof

/-- The two cavities: A is the upper one, B the lower one. -/
inductive Cavity
  | a | b
deriving DecidableEq, Repr, Inhabited

/-- The other cavity. -/
def Cavity.other : Cavity → Cavity
  | .a => .b
  | .b => .a

/-- The four elements of a cavity; CAT is the catalyst heater, the other three are cavity elements. -/
inductive Heater
  | top | bottom | ring | cat
deriving DecidableEq, Repr, Inhabited

/-- One of the eight element identities, A.TOP to B.CAT. -/
structure Element where
  cavity : Cavity
  heater : Heater
deriving DecidableEq, Repr, Inhabited

/-- One of the nine relays: one per element, and the master in series with all of them. -/
inductive Relay
  | element (e : Element)
  | master
deriving DecidableEq, Repr, Inhabited

/-- The five sensor channels (R1): CAV_A, CAV_B, CAT_A, CAT_B and FRONT. -/
inductive Channel
  | cav (c : Cavity)
  | cat (c : Cavity)
  | front
deriving DecidableEq, Repr, Inhabited

/-- The three switches of a door lock (R51). -/
inductive Switch
  | doorShut | latchHome | latchSet
deriving DecidableEq, Repr, Inhabited

/-- Why a frame ends early in RECEIVING (R173). -/
inductive FramingCause
  | stopBitLow
  | lengthByte (n : Byte)
deriving DecidableEq, Repr

/-- The commands of the block, one constructor per row of spec/opcode_table.json. `payload` is the payload
of the request frame. -/
inductive Instr
  -- status requests (R180, R115, R170)
  | identify (payload : List Byte)
  | cavityStatus (payload : List Byte)
  | plantStatus (payload : List Byte)
  | readOutcome (payload : List Byte)
  | readEvents (payload : List Byte)
  -- band table, element table, budget, freeze (R45 to R50, R119, R120)
  | writeBand (payload : List Byte)
  | readBand (payload : List Byte)
  | setElement (payload : List Byte)
  | setBudget (payload : List Byte)
  | freeze (payload : List Byte)
  -- program store (R77 to R83)
  | appendSegment (payload : List Byte)
  | replaceSegment (payload : List Byte)
  | readSegment (payload : List Byte)
  | clearProgram (payload : List Byte)
  -- cycle engine (R88 to R111, R181)
  | start (payload : List Byte)
  | pause (payload : List Byte)
  | resume (payload : List Byte)
  | step (payload : List Byte)
  | abort (payload : List Byte)
  | allStop (broadcast : Bool) (payload : List Byte)
  -- door lock (R67)
  | lock (payload : List Byte)
  | unlock (payload : List Byte)
  -- service (R168, R146, R16)
  | clear (payload : List Byte)
  | relayTest (payload : List Byte)
  | sample (payload : List Byte)
  -- the line (R171 to R177, R182)
  | unknownRequest (kind : Byte) (payload : List Byte)
  | frameDiscarded (frame : List Byte)
  | lineBreak
  | lineFault
  | collision
  -- measurement (R7, R18, R12, R29)
  | scanConversionComplete (codeRtd codeRef : BitVec 16)
  | onDemandConversionComplete (codeRtd codeRef : BitVec 16)
  | stalenessTimerExpiry (ch : Channel)
  | rateTimerExpiry (c : Cavity)
  -- door lock events (R51, R53)
  | switchLevelChange (c : Cavity) (sw : Switch) (level : Bool)
  | motionTimerExpiry (c : Cavity)
  -- cycle engine events (R87, R105, R98, R101, R97)
  | tick (c : Cavity)
  | expired (c : Cavity)
  | undershoot (c : Cavity)
  | stalled (c : Cavity)
  | soakRemainingZero (c : Cavity)
  -- power allocator events (R124, R139)
  | windowStart
  | slotStart
  -- element drive events (R137, R140, R141, R147)
  | refreshVisit
  | senseLevelChange (r : Relay) (closed : Bool)
  | settleTimerExpiry (r : Relay)
  | mismatchTimerExpiry (r : Relay)
  | testStepReading
  | testStepEnd
  -- fan events (R156, R157)
  | tachoPulse
  | graceTimerExpiry
  | pulseTimerExpiry
  -- supervisor and reset (R166, R160)
  | overheatTimerExpiry (c : Cavity)
  | powerOnReset
  | externalReset
  -- receiver events (R171 to R173); the span is in units of 0.1 µs
  | breakEnd
  | lineFaultEnd
  | pacingCharacter (span : Nat) (stopBitHigh : Bool)
  | pacingTimeout
  | byteGapTimeout
  | framingError (cause : FramingCause)
deriving DecidableEq, Repr

end Sys2Proof
end

