-- ==== Sys2Proof/Decode.lean ====
section
/-!
DEFINITION. From bits to commands. The table gives no row any bits, so no word spells a command. What the manual
does encode is the request frame: its check byte (R174), its layout (R173), its address (R175) and its kind byte
(R182); `frameCommand` reads the command that a received frame is.
-/

namespace Sys2Proof

/-- The command a word spells by the table's bits: the table gives no bits for any row. -/
def decodeTableWord (_nbits _w : Nat) : Option Instr := none

/-- One shift of the check register (R174). -/
def crcShift (r : Byte) : Byte := if r.msb then (r <<< 1) ^^^ 0x07#8 else r <<< 1

/-- `n` shifts of the check register. -/
def crcShifts : Nat → Byte → Byte
  | 0, r => r
  | n + 1, r => crcShifts n (crcShift r)

/-- One byte into the check register (R174). -/
def crcByte (r b : Byte) : Byte := crcShifts 8 (r ^^^ b)

/-- The check of a list of bytes (R174). -/
def crc8 (bytes : List Byte) : Byte := bytes.foldl crcByte 0

/-- A received frame taken apart (R173): address, kind, length, payload and check byte. -/
structure Frame where
  address : Byte
  kind : Byte
  payload : List Byte
  check : Byte
deriving DecidableEq, Repr

/-- The bytes a frame's check is taken over (R174). -/
def Frame.checked (f : Frame) : List Byte :=
  f.address :: f.kind :: BitVec.ofNat 8 f.payload.length :: f.payload

/-- The bytes of a frame on the line, from the address to the check byte (R173). -/
def Frame.bytes (f : Frame) : List Byte := f.checked ++ [f.check]

/-- The check byte of a frame matches (R174). -/
def Frame.good (f : Frame) : Bool := decide (crc8 f.checked = f.check)

/-- A frame from its bytes: the length byte is from 0 to 24 and gives the number of payload bytes (R173). -/
def parseFrame (bytes : List Byte) : Option Frame :=
  match bytes with
  | address :: kind :: len :: rest =>
    let n := len.toNat
    if n ≤ 24 ∧ rest.length = n + 1 then
      some ⟨address, kind, rest.take n, (rest.drop n).headD 0⟩
    else none
  | _ => none

/-- The request a kind byte names (R182), with its payload, under the node's own address. -/
def requestOfKind (kind : Byte) (payload : List Byte) : Instr :=
  match kind.toNat with
  | 0x01 => .identify payload
  | 0x02 => .cavityStatus payload
  | 0x03 => .plantStatus payload
  | 0x04 => .readOutcome payload
  | 0x05 => .readEvents payload
  | 0x06 => .writeBand payload
  | 0x07 => .readBand payload
  | 0x08 => .setElement payload
  | 0x09 => .setBudget payload
  | 0x0A => .freeze payload
  | 0x0B => .appendSegment payload
  | 0x0C => .replaceSegment payload
  | 0x0D => .readSegment payload
  | 0x0E => .clearProgram payload
  | 0x0F => .start payload
  | 0x10 => .pause payload
  | 0x11 => .resume payload
  | 0x12 => .step payload
  | 0x13 => .abort payload
  | 0x14 => .allStop false payload
  | 0x15 => .lock payload
  | 0x16 => .unlock payload
  | 0x17 => .clear payload
  | 0x18 => .relayTest payload
  | 0x19 => .sample payload
  | _ => .unknownRequest kind payload

/-- The command a received frame is to a part with a node address from 1 to 4 (R174, R175, R182): the request it
carries, a broadcast ALL STOP of length 0, or a frame that is discarded or ignored. -/
def frameCommand (node : Nat) (bytes : List Byte) : Instr :=
  match parseFrame bytes with
  | some f =>
    if f.good then
      if f.address.toNat = node then requestOfKind f.kind f.payload
      else if f.address = 0 ∧ f.kind = 0x14 ∧ f.payload = [] then .allStop true []
      else .frameDiscarded bytes
    else .frameDiscarded bytes
  | none => .frameDiscarded bytes

/-! ## The frame of a request -/

/-- The payload a request carries; an event carries none. -/
def Instr.payload : Instr → List Byte
  | .identify p => p
  | .cavityStatus p => p
  | .plantStatus p => p
  | .readOutcome p => p
  | .readEvents p => p
  | .writeBand p => p
  | .readBand p => p
  | .setElement p => p
  | .setBudget p => p
  | .freeze p => p
  | .appendSegment p => p
  | .replaceSegment p => p
  | .readSegment p => p
  | .clearProgram p => p
  | .start p => p
  | .pause p => p
  | .resume p => p
  | .step p => p
  | .abort p => p
  | .allStop _ p => p
  | .lock p => p
  | .unlock p => p
  | .clear p => p
  | .relayTest p => p
  | .sample p => p
  | .unknownRequest _ p => p
  | .frameDiscarded _ => []
  | .lineBreak => []
  | .lineFault => []
  | .collision => []
  | .scanConversionComplete _ _ => []
  | .onDemandConversionComplete _ _ => []
  | .stalenessTimerExpiry _ => []
  | .rateTimerExpiry _ => []
  | .switchLevelChange _ _ _ => []
  | .motionTimerExpiry _ => []
  | .tick _ => []
  | .expired _ => []
  | .undershoot _ => []
  | .stalled _ => []
  | .soakRemainingZero _ => []
  | .windowStart => []
  | .slotStart => []
  | .refreshVisit => []
  | .senseLevelChange _ _ => []
  | .settleTimerExpiry _ => []
  | .mismatchTimerExpiry _ => []
  | .testStepReading => []
  | .testStepEnd => []
  | .tachoPulse => []
  | .graceTimerExpiry => []
  | .pulseTimerExpiry => []
  | .overheatTimerExpiry _ => []
  | .powerOnReset => []
  | .externalReset => []
  | .breakEnd => []
  | .lineFaultEnd => []
  | .pacingCharacter _ _ => []
  | .pacingTimeout => []
  | .byteGapTimeout => []
  | .framingError _ => []

/-- The kind byte of a request (R182), and of a request that names none; an event has none. -/
def Instr.kindByte : Instr → Option Byte
  | .identify _ => some 0x01#8
  | .cavityStatus _ => some 0x02#8
  | .plantStatus _ => some 0x03#8
  | .readOutcome _ => some 0x04#8
  | .readEvents _ => some 0x05#8
  | .writeBand _ => some 0x06#8
  | .readBand _ => some 0x07#8
  | .setElement _ => some 0x08#8
  | .setBudget _ => some 0x09#8
  | .freeze _ => some 0x0A#8
  | .appendSegment _ => some 0x0B#8
  | .replaceSegment _ => some 0x0C#8
  | .readSegment _ => some 0x0D#8
  | .clearProgram _ => some 0x0E#8
  | .start _ => some 0x0F#8
  | .pause _ => some 0x10#8
  | .resume _ => some 0x11#8
  | .step _ => some 0x12#8
  | .abort _ => some 0x13#8
  | .allStop _ _ => some 0x14#8
  | .lock _ => some 0x15#8
  | .unlock _ => some 0x16#8
  | .clear _ => some 0x17#8
  | .relayTest _ => some 0x18#8
  | .sample _ => some 0x19#8
  | .unknownRequest kind _ => some kind
  | .frameDiscarded _ => none
  | .lineBreak => none
  | .lineFault => none
  | .collision => none
  | .scanConversionComplete _ _ => none
  | .onDemandConversionComplete _ _ => none
  | .stalenessTimerExpiry _ => none
  | .rateTimerExpiry _ => none
  | .switchLevelChange _ _ _ => none
  | .motionTimerExpiry _ => none
  | .tick _ => none
  | .expired _ => none
  | .undershoot _ => none
  | .stalled _ => none
  | .soakRemainingZero _ => none
  | .windowStart => none
  | .slotStart => none
  | .refreshVisit => none
  | .senseLevelChange _ _ => none
  | .settleTimerExpiry _ => none
  | .mismatchTimerExpiry _ => none
  | .testStepReading => none
  | .testStepEnd => none
  | .tachoPulse => none
  | .graceTimerExpiry => none
  | .pulseTimerExpiry => none
  | .overheatTimerExpiry _ => none
  | .powerOnReset => none
  | .externalReset => none
  | .breakEnd => none
  | .lineFaultEnd => none
  | .pacingCharacter _ _ => none
  | .pacingTimeout => none
  | .byteGapTimeout => none
  | .framingError _ => none

/-- The address byte of a request to a node: 0 under broadcast (R175). -/
def Instr.addressByte (node : Nat) : Instr → Byte
  | .allStop true _ => 0
  | _ => BitVec.ofNat 8 node

/-- The bytes from the address to the check of the frame that carries a request to a node (R173 to R175, R182). -/
def requestFrame (node : Nat) (i : Instr) : Option (List Byte) :=
  i.kindByte.map fun kind =>
    let body := i.addressByte node :: kind :: BitVec.ofNat 8 i.payload.length :: i.payload
    body ++ [crc8 body]

end Sys2Proof
end

