-- ==== Sys2Proof/Config.lean ====
section
/-!
DEFINITION. What the manual fixes per part without giving its value, and the free values. Every constant
here is opaque: no proof can see it, so a claim holds whatever it is.
-/

namespace Sys2Proof.Config

/-- The vendor code of IDENTIFY, "fixed in the part" (R180); the manual gives no value. Log entry 5. -/
opaque vendorCode : BitVec 16

/-- The part code of IDENTIFY, "fixed in the part" (R180); the manual gives no value. Log entry 5. -/
opaque partCode : BitVec 16

/-- The silicon revision of IDENTIFY, "fixed in the part" (R180); the manual gives no value. Log entry 5. -/
opaque siliconRevision : BitVec 8

/-- What a 32-bit count of the Cycle Engine (segment elapsed, cycle seconds, soak seconds, R86) becomes at
the second after 4,294,967,295; the manual says only that they are 32-bit counts. Log entry 6. -/
opaque countPastEnd : Nat → BitVec 32

/-- One draw of the orders the manual leaves open, each coded in a number that is read digit by digit:
the order in which the readers of a channel are served (R13), the order in which the readers of a band
change are served (R40), the order in which records of different blocks reach the Event Queue (R169), the
order of a window start and an event that ends permission (R134), and the order in which timers that are
due together are taken. Log entry 3. -/
structure ArrivalOrder where
  readers : Nat
  bands : Nat
  records : Nat
  window : Nat
  timers : Nat
deriving DecidableEq, Repr, Inhabited

/-- The `n`-th draw of the open orders. -/
opaque arrivalOrder : Nat → ArrivalOrder

end Sys2Proof.Config
end

