-- ==== Sys2Proof/Machine/State.lean ====
section
/-!
DEFINITION. The state of the part as plain data: everything the manual's chapters give it, block by block,
the input pins, and the model's own queue of waiting commands and open arrival orders; and the state
right after a power-on reset.
-/

namespace Sys2Proof.Machine

open Sys2Proof

/-! ## Containers: one value per cavity, element, relay or channel -/

/-- One value per cavity. -/
structure PerCavity (α : Type) where
  a : α
  b : α
deriving DecidableEq, Repr

def PerCavity.get {α : Type} (p : PerCavity α) : Cavity → α
  | .a => p.a
  | .b => p.b

def PerCavity.set {α : Type} (p : PerCavity α) : Cavity → α → PerCavity α
  | .a, x => { p with a := x }
  | .b, x => { p with b := x }

/-- One value per element of a cavity. -/
structure PerHeater (α : Type) where
  top : α
  bottom : α
  ring : α
  cat : α
deriving DecidableEq, Repr

def PerHeater.get {α : Type} (p : PerHeater α) : Heater → α
  | .top => p.top
  | .bottom => p.bottom
  | .ring => p.ring
  | .cat => p.cat

def PerHeater.set {α : Type} (p : PerHeater α) : Heater → α → PerHeater α
  | .top, x => { p with top := x }
  | .bottom, x => { p with bottom := x }
  | .ring, x => { p with ring := x }
  | .cat, x => { p with cat := x }

/-- One value per element of the part. -/
structure PerElement (α : Type) where
  a : PerHeater α
  b : PerHeater α
deriving DecidableEq, Repr

def PerElement.get {α : Type} (p : PerElement α) (e : Element) : α :=
  match e.cavity with
  | .a => p.a.get e.heater
  | .b => p.b.get e.heater

def PerElement.set {α : Type} (p : PerElement α) (e : Element) (x : α) : PerElement α :=
  match e.cavity with
  | .a => { p with a := p.a.set e.heater x }
  | .b => { p with b := p.b.set e.heater x }

/-- One value per relay. -/
structure PerRelay (α : Type) where
  elements : PerElement α
  master : α
deriving DecidableEq, Repr

def PerRelay.get {α : Type} (p : PerRelay α) : Relay → α
  | .element e => p.elements.get e
  | .master => p.master

def PerRelay.set {α : Type} (p : PerRelay α) : Relay → α → PerRelay α
  | .element e, x => { p with elements := p.elements.set e x }
  | .master, x => { p with master := x }

/-- One value per sensor channel. -/
structure PerChannel (α : Type) where
  cav : PerCavity α
  cat : PerCavity α
  front : α
deriving DecidableEq, Repr

def PerChannel.get {α : Type} (p : PerChannel α) : Channel → α
  | .cav c => p.cav.get c
  | .cat c => p.cat.get c
  | .front => p.front

def PerChannel.set {α : Type} (p : PerChannel α) : Channel → α → PerChannel α
  | .cav c, x => { p with cav := p.cav.set c x }
  | .cat c, x => { p with cat := p.cat.set c x }
  | .front, x => { p with front := x }

def PerCavity.all {α : Type} (x : α) : PerCavity α := ⟨x, x⟩
def PerHeater.all {α : Type} (x : α) : PerHeater α := ⟨x, x, x, x⟩
def PerElement.all {α : Type} (x : α) : PerElement α := ⟨.all x, .all x⟩
def PerRelay.all {α : Type} (x : α) : PerRelay α := ⟨.all x, x⟩
def PerChannel.all {α : Type} (x : α) : PerChannel α := ⟨.all x, .all x, x⟩

/-! ## Chapter 1 and 2: the Measurement Unit -/

inductive ChannelState
  | warmup | valid | stale | failed
deriving DecidableEq, Repr

inductive FailCause
  | openCircuit | shortCircuit | erratic | reference
deriving DecidableEq, Repr

/-- The no-temperature classes of a conversion (R25). -/
inductive NoTempClass
  | reference | shortCircuit | openCircuit
deriving DecidableEq, Repr

/-- A channel entry (R2); the kind is fixed by the channel, and the rate history of a cavity channel
stands in `State.rates`. -/
structure ChannelEntry where
  state : ChannelState
  cause : Option FailCause
  previousRaw : Option Int
  staleness : Timer
  f : Option Int
  disagreements : Nat
  runClass : Option NoTempClass
  runCount : Nat
deriving DecidableEq, Repr

/-- The rate history of a cavity channel (R28). -/
structure RateHistory where
  mark : Option Int
  timer : Timer
  rate : Option Int
deriving DecidableEq, Repr

inductive Origin
  | scan | sample
deriving DecidableEq, Repr

/-- The converter (R4): the conversion in progress, the scan position (0 is entry 1 of the scan list of
R5) and the on-demand request held (R16). -/
structure Converter where
  channel : Channel
  origin : Origin
  elapsed : Nat
  scanPos : Fin 9
  onDemand : Option Channel
deriving DecidableEq, Repr

/-! ## Chapter 3: the Band Tables -/

inductive DoorPolicy
  | free | keep | interlock
deriving DecidableEq, Repr

inductive CatRequirement
  | none | hot
deriving DecidableEq, Repr

/-- A set of cavity elements. -/
structure ElementSet where
  top : Bool
  bottom : Bool
  ring : Bool
deriving DecidableEq, Repr

/-- A stored band record (R33). -/
structure BandRecord where
  limit : Int
  enabled : Bool
  policy : DoorPolicy
  fanFloor : Nat
  permitted : ElementSet
  catRequirement : CatRequirement
deriving DecidableEq, Repr

/-- The current band index (R33): a stored band (0 is band 1) or OVER. -/
inductive BandIndex
  | band (n : Fin 8)
  | over
deriving DecidableEq, Repr

/-! ## Chapter 4: the Door Lock Controllers -/

inductive LockState
  | released | engaging | engaged | releasing | returning | faulted | notAdopted
deriving DecidableEq, Repr

inductive Motor
  | stopped | forward | reverse
deriving DecidableEq, Repr

inductive MotionCause
  | engage | release | jamReturn | slipRedrive | slipReturn | adopted
deriving DecidableEq, Repr

structure Motion where
  cause : MotionCause
  elapsed : Nat
deriving DecidableEq, Repr

/-- Who asked the lock (R52). -/
inductive Requester
  | engine | host
deriving DecidableEq, Repr

inductive LockRequestKind
  | engage | release
deriving DecidableEq, Repr

structure LockRequest where
  kind : LockRequestKind
  requester : Requester
deriving DecidableEq, Repr

structure LockFaults where
  jam : Bool
  stuck : Bool
  breach : Bool
  slip : Bool
deriving DecidableEq, Repr

/-- One value per switch of a lock. -/
structure PerSwitch (α : Type) where
  doorShut : α
  latchHome : α
  latchSet : α
deriving DecidableEq, Repr

def PerSwitch.get {α : Type} (p : PerSwitch α) : Switch → α
  | .doorShut => p.doorShut
  | .latchHome => p.latchHome
  | .latchSet => p.latchSet

def PerSwitch.set {α : Type} (p : PerSwitch α) : Switch → α → PerSwitch α
  | .doorShut, x => { p with doorShut := x }
  | .latchHome, x => { p with latchHome := x }
  | .latchSet, x => { p with latchSet := x }

/-- A Door Lock Controller (R52). -/
structure LockCtl where
  state : LockState
  motor : Motor
  motion : Option Motion
  slot : Option LockRequest
  releasePending : Option Requester
  faults : LockFaults
  levels : PerSwitch (Option Bool)
deriving DecidableEq, Repr

/-! ## Chapter 5: the Program Stores -/

inductive SegmentKind
  | engage | catalyst | ramp | soak | cool | release
deriving DecidableEq, Repr

/-- The fields of a RAMP record (R73). -/
structure RampRecord where
  target : Int
  rate : Option Nat
  timeLimit : Option Nat
  elements : ElementSet
  bias : Nat
  band : Nat
deriving DecidableEq, Repr

/-- The fields of a SOAK record (R73). -/
structure SoakRecord where
  target : Int
  duration : Nat
  tolerance : Nat
  timeLimit : Option Nat
  elements : ElementSet
  bias : Nat
  band : Nat
deriving DecidableEq, Repr

/-- A completed segment record (R73, R76): its kind with exactly the fields that belong to it. -/
inductive SegmentRecord
  | engage
  | catalyst (target : Int) (timeLimit : Option Nat)
  | ramp (r : RampRecord)
  | soak (r : SoakRecord)
  | cool (target : Int) (timeLimit : Option Nat) (fanLevel : Nat)
  | release
deriving DecidableEq, Repr

/-! ## Chapter 6: the Cycle Engines -/

inductive EngineState
  | idle | running | paused | held | safeCool
deriving DecidableEq, Repr

inductive Condition
  | done | stalled | overshoot | undershoot | sensorLost | jammed | stuck | doorOpen
  | breach | hostAbort | system | expired
deriving DecidableEq, Repr

/-- The catalyst regulation command (R86, R117). -/
inductive CatRegulation
  | off
  | on (target : Int)
  | suspended (target : Int)
deriving DecidableEq, Repr

inductive CycleResult
  | completed | aborted
deriving DecidableEq, Repr

/-- The outcome record of the last finished cycle (R115). -/
structure OutcomeRecord where
  outcome : CycleResult
  segmentIndex : Nat
  condition : Condition
  peakF : Option Int
  cycleSeconds : Nat
  soakSeconds : Nat
  lockState : LockState
deriving DecidableEq, Repr

/-- A Cycle Engine (R86). -/
structure Engine where
  state : EngineState
  singleStep : Bool
  segmentIndex : Option Nat
  segmentElapsed : Nat
  setpoint : Option Int
  accumulator : Nat
  soakRemaining : Option Nat
  undershootCount : Nat
  engageWaiting : Bool
  holdCount : Option Nat
  ceiling : Option Int
  fanRequest : Nat
  catalyst : CatRegulation
  recorded : Option Condition
  peakF : Option Int
  cycleSeconds : Nat
  soakSeconds : Nat
  outcome : Option OutcomeRecord
  secondTimer : Timer
deriving DecidableEq, Repr

/-! ## Chapter 7: the Power Allocator -/

/-- The grants of one element in the window plan (R123): the slots granted at the window start, and the
slot in progress when they were withdrawn, if they were. -/
structure Grants where
  made : List Nat
  withdrawnAt : Option Nat
deriving DecidableEq, Repr

/-- The slot-use record of a cavity (R135). -/
structure SlotUse where
  heldThis : Bool
  heldLast : Bool
deriving DecidableEq, Repr

/-- The Power Allocator's own state (R119, R122, R123, R135). `slot` is the slot in progress, absent until the
first window starts; `slotElapsed` is the part of the window timer since that slot's start. -/
structure Alloc where
  budgetInForce : Nat
  lead : Cavity
  slot : Option Nat
  slotElapsed : Nat
  planRatings : PerElement Nat
  grants : PerElement Grants
  slotUse : PerCavity SlotUse
deriving DecidableEq, Repr

/-! ## Chapter 8: the Element Drive -/

inductive Health
  | ok | stuckOpen | welded
deriving DecidableEq, Repr

/-- A relay entry (R136), without the drive state, which element entries alone have (`Drive.driveState`).
`hold` is the time since the last refresh pulse of a relay still held closed by it (R137). -/
structure RelayEntry where
  testDrive : Bool
  sense : Option Bool
  expectedClosed : Bool
  settle : Timer
  mismatch : Timer
  health : Health
  hold : Timer
deriving DecidableEq, Repr

inductive TestState
  | pending | inProgress | complete | abandoned
deriving DecidableEq, Repr

inductive TestOrigin
  | startUp | request
deriving DecidableEq, Repr

inductive TestResult
  | pass | stuckOpen | welded | notVisited
deriving DecidableEq, Repr

/-- The current step of a relay test (R147): the relay, whether its contact was closed at the step start, the
reading at 100 ms once it is taken, and the time since the step start. -/
structure TestStep where
  relay : Relay
  closedAtStart : Bool
  reading : Option Bool
  elapsed : Nat
deriving DecidableEq, Repr

/-- The relay test record (R146). `todo` lists the relays of the visit list whose step has not begun. -/
structure RelayTest where
  state : TestState
  origin : TestOrigin
  visitList : List Relay
  step : Option TestStep
  todo : List Relay
  results : PerRelay TestResult
deriving DecidableEq, Repr

/-- The Element Drive (R136); `walkPos` 0 is position 1. -/
structure Drive where
  entries : PerRelay RelayEntry
  driveState : PerElement Bool
  elementOpen : PerElement Bool
  elementWelded : Bool
  masterWelded : Bool
  walkPos : Fin 9
  test : RelayTest
deriving DecidableEq, Repr

/-! ## Chapter 9: the Fan Controller -/

inductive TachoWatch
  | off | grace | watching | stalled
deriving DecidableEq, Repr

/-- The Fan Controller (R151) with its latched fault FAN_STALL (R157). -/
structure Fan where
  cavityDemand : PerCavity Nat
  frontInvalid : Nat
  frontHotDemand : Bool
  frontHotInhibit : Bool
  tripDemand : Nat
  level : Nat
  watch : TachoWatch
  grace : Timer
  pulse : Timer
  stall : Bool
deriving DecidableEq, Repr

/-! ## Chapter 10: the Supervisor and the Event Queue -/

/-- The sources of heat inhibit (R163). -/
structure InhibitSources where
  driveOff : Bool
  fanStall : Bool
  frontFailed : Bool
  frontHot : Bool
deriving DecidableEq, Repr

/-- Heat inhibit is set while one or more of its sources holds (R163). -/
def InhibitSources.any (i : InhibitSources) : Bool :=
  i.driveOff || i.fanStall || i.frontFailed || i.frontHot

/-- The Supervisor (R160). -/
structure Sup where
  readiness : Bool
  measured : PerChannel Bool
  adopted : PerCavity Bool
  startupDone : Bool
  driveEnable : Bool
  inhibit : InhibitSources
  overheat : PerCavity Bool
  overheatTimer : PerCavity Timer
  runaway : PerCavity Bool
  trip : Bool
deriving DecidableEq, Repr

/-- The fault codes of the fault table (chapter 10, R185). -/
inductive FaultCode
  | channelOpen | channelShort | channelErratic | channelReference
  | elementOpen | elementWelded | masterWelded | overheat | runaway | fanStall
  | lockJam | lockStuck | latchSlip | doorBreach | trip
deriving DecidableEq, Repr

/-- The channel or element a fault event names (R169). -/
inductive FaultSubject
  | channel (ch : Channel)
  | element (e : Element)
deriving DecidableEq, Repr

/-- What an event record says (R169), by its kind. -/
inductive EventBody
  | segmentEnded (c : Cavity) (index : Nat) (condition : Condition)
  | cycleEnded (c : Cavity) (outcome : CycleResult) (condition : Condition)
  | faultRaised (c : Option Cavity) (code : FaultCode) (subject : Option FaultSubject)
  | faultCleared (c : Option Cavity) (code : FaultCode) (subject : Option FaultSubject)
  | lockChanged (c : Cavity) (state : LockState)
  | ready
deriving DecidableEq, Repr

structure EventRecord where
  body : EventBody
  stamp : BitVec 32
deriving DecidableEq, Repr

/-- The block a record comes from: records of one block keep their order on the way to the queue (R169). -/
inductive Block
  | measurement
  | lock (c : Cavity)
  | engine (c : Cavity)
  | drive
  | fan
  | supervisor
deriving DecidableEq, Repr

/-- A record on its way to the Event Queue, with the block that queues it. -/
structure Outgoing where
  block : Block
  record : EventRecord
deriving DecidableEq, Repr

/-- The Event Queue (R169), oldest record first. `outbox` holds the records of the command in progress on
their way to the queue, in the order the blocks gave them up; it is empty between commands. -/
structure Events where
  queue : List EventRecord
  outbox : List Outgoing
deriving DecidableEq, Repr

/-! ## Chapter 11: the Link Interface -/

/-- The receiver states (R171). IN_BREAK holds the low timer, in units of 0.1 ms: how long the line has been low, 1.2 ms
when the break begins (log entry 41). RECEIVING holds the frame's bit time in units of 0.02 µs (the pacing span in units
of 0.1 µs is five bit times, R172). -/
inductive Receiver
  | waitBreak
  | inBreak (low : Nat)
  | pacing
  | receiving (bitTime : Nat)
  | lineFault
deriving DecidableEq, Repr

/-- The reason codes of a refusal (R176). -/
inductive Reason
  | busy | notIdle | notRunning | notReady | locked | frozen | full | empty | noSuch
  | badField | order | tooHot | doorOpen | fault | unknown | length
deriving DecidableEq, Repr

/-- The attention flags of a reply (R178). -/
structure AttentionFlags where
  eventsPending : Bool
  eventsLost : Bool
  collisionSeen : Bool
  faultActive : Bool
  notReady : Bool
  trip : Bool
deriving DecidableEq, Repr

/-- A reply (R176): DONE when `reason` is absent, REFUSED with it otherwise. -/
structure Reply where
  reason : Option Reason
  clamped : Bool
  flags : AttentionFlags
  payload : List Byte
deriving DecidableEq, Repr

/-- The transmitter (R176): idle, sending a reply, or waiting for the sample result. -/
inductive Transmitter
  | idle
  | sending (r : Reply)
  | waitingSample
deriving DecidableEq, Repr

/-- The Link Interface (R171, R175, R178). The other attention flags follow the state of their owners. -/
structure Link where
  receiver : Receiver
  transmitter : Transmitter
  eventsLost : Bool
  collisionSeen : Bool
  nodeAddress : Fin 4
deriving DecidableEq, Repr

/-! ## What the host writes: band tables, programs, element table, budget set, freeze -/

/-- Everything that requests alone write: the stored band records (R33), the programs (R72), the element table
(R120), the budget set (R119) and the freeze (R50). -/
structure Tables where
  bands : PerCavity (Vector BandRecord 8)
  programs : PerCavity (List SegmentRecord)
  ratings : PerElement Nat
  budgetSet : Nat
  frozen : Bool
deriving DecidableEq, Repr

/-! ## Input pins and running clocks -/

/-- A sampled input: the level on the pin and the last sample taken of it. -/
structure SampledPin where
  level : Bool
  lastSample : Bool
deriving DecidableEq, Repr

/-- The input pins: address straps, latch and door switches, contact sense, and the codes the front end gives for
each channel. Reset does not change a pin. Log entry 7. -/
structure Pins where
  straps : Fin 4
  switches : PerCavity (PerSwitch SampledPin)
  contacts : PerRelay SampledPin
  codes : PerChannel (BitVec 16 × BitVec 16)
deriving DecidableEq, Repr

/-- The running clocks: the second count of the event stamp (R169) with the milliseconds of the second, the time
since the last sample of the switches and contacts (every 8 ms, R51, R140) and since the last refresh visit
(every 2 ms, R137), which after a reset is 2 until the walk has made its first visit. -/
structure Clock where
  stamp : BitVec 32
  millis : Nat
  sinceSample : Nat
  sinceVisit : Nat
deriving DecidableEq, Repr

/-! ## The state -/

/-- The state of the part. `order`, `draws` and `pending` are the model's own: the open arrival orders of the
next command (log entry 3), how many have been drawn, and the queue of commands that wait. -/
structure State where
  tables : Tables
  tableLocks : PerCavity Bool
  bandIndex : PerCavity BandIndex
  channels : PerChannel ChannelEntry
  rates : PerCavity RateHistory
  converter : Converter
  locks : PerCavity LockCtl
  engines : PerCavity Engine
  alloc : Alloc
  drive : Drive
  fan : Fan
  sup : Sup
  events : Events
  link : Link
  pins : Pins
  clock : Clock
  order : Config.ArrivalOrder
  draws : Nat
  pending : List Instr
deriving DecidableEq, Repr

/-! ## Reset values -/

/-- A channel entry after either reset (R3). -/
def ChannelEntry.reset : ChannelEntry :=
  { state := .warmup, cause := none, previousRaw := none, staleness := none, f := none,
    disagreements := 0, runClass := none, runCount := 0 }

/-- The empty rate history (R28). -/
def RateHistory.empty : RateHistory := { mark := none, timer := none, rate := none }

/-- The converter at the end of either reset (R6): the conversion of scan entry 1 has started and the scan
position is entry 2. -/
def Converter.reset : Converter :=
  { channel := .cav .a, origin := .scan, elapsed := 0, scanPos := 1, onDemand := none }

def ElementSet.all : ElementSet := ⟨true, true, true⟩
def ElementSet.empty : ElementSet := ⟨false, false, false⟩

/-- A disabled band of the default table (R35, bands 5 to 8). -/
def BandRecord.disabled : BandRecord :=
  { limit := 6000, enabled := false, policy := .free, fanFloor := 0, permitted := .empty,
    catRequirement := .none }

/-- The band table after either reset (R35). -/
def defaultBands : Vector BandRecord 8 := #v[
  { limit := 700, enabled := true, policy := .free, fanFloor := 0, permitted := .all,
    catRequirement := .none },
  { limit := 2500, enabled := true, policy := .free, fanFloor := 1, permitted := .all,
    catRequirement := .none },
  { limit := 3200, enabled := true, policy := .keep, fanFloor := 2, permitted := .all,
    catRequirement := .none },
  { limit := 6000, enabled := true, policy := .interlock, fanFloor := 3, permitted := .all,
    catRequirement := .hot },
  .disabled, .disabled, .disabled, .disabled]

/-- The ratings of one cavity after either reset (R120). -/
def defaultRatings : PerHeater Nat := { top := 1200, bottom := 1000, ring := 2000, cat := 300 }

/-- What requests write, after either reset (R35, R72, R119, R120, R50). -/
def Tables.reset : Tables :=
  { bands := .all defaultBands, programs := .all [], ratings := ⟨defaultRatings, defaultRatings⟩,
    budgetSet := 3600, frozen := false }

def LockFaults.empty : LockFaults := ⟨false, false, false, false⟩

/-- A Door Lock Controller at the end of either reset (R69). -/
def LockCtl.reset : LockCtl :=
  { state := .notAdopted, motor := .stopped, motion := none, slot := none, releasePending := none,
    faults := .empty, levels := ⟨none, none, none⟩ }

/-- A Cycle Engine after either reset (R86). -/
def Engine.reset : Engine :=
  { state := .idle, singleStep := false, segmentIndex := none, segmentElapsed := 0, setpoint := none,
    accumulator := 0, soakRemaining := none, undershootCount := 0, engageWaiting := false,
    holdCount := none, ceiling := none, fanRequest := 0, catalyst := .off, recorded := none,
    peakF := none, cycleSeconds := 0, soakSeconds := 0, outcome := none, secondTimer := none }

def Grants.empty : Grants := { made := [], withdrawnAt := none }

/-- The Power Allocator after either reset (R119, R122, R123, R135); no window has started yet. -/
def Alloc.reset : Alloc :=
  { budgetInForce := 3600, lead := .b, slot := none, slotElapsed := 0,
    planRatings := ⟨defaultRatings, defaultRatings⟩, grants := .all .empty,
    slotUse := .all ⟨false, false⟩ }

/-- A relay entry after either reset (R136). -/
def RelayEntry.reset : RelayEntry :=
  { testDrive := false, sense := none, expectedClosed := false, settle := none, mismatch := none,
    health := .ok, hold := none }

/-- The relay test record after either reset (R146). -/
def RelayTest.reset : RelayTest :=
  { state := .pending, origin := .startUp, visitList := [], step := none, todo := [],
    results := .all .notVisited }

/-- The Element Drive after either reset (R136). -/
def Drive.reset : Drive :=
  { entries := .all .reset, driveState := .all false, elementOpen := .all false,
    elementWelded := false, masterWelded := false, walkPos := 0, test := .reset }

/-- The Fan Controller at the end of either reset (R151), with TRIP as the reset leaves it. -/
def Fan.reset (trip : Bool) : Fan :=
  { cavityDemand := .all 3, frontInvalid := 3, frontHotDemand := false, frontHotInhibit := false,
    tripDemand := if trip then 3 else 0, level := 3, watch := .grace, grace := some 0, pulse := none,
    stall := false }

/-- The Supervisor after either reset (R160), with TRIP as the reset leaves it. -/
def Sup.reset (trip : Bool) : Sup :=
  { readiness := false, measured := .all false, adopted := .all false, startupDone := false,
    driveEnable := false, inhibit := ⟨true, false, false, false⟩, overheat := .all false,
    overheatTimer := .all none, runaway := .all false, trip := trip }

/-- The Link Interface after either reset (R171, R175, R178). -/
def Link.reset (straps : Fin 4) : Link :=
  { receiver := .waitBreak, transmitter := .idle, eventsLost := false, collisionSeen := false,
    nodeAddress := straps }

/-- The pins at power-on: every level false or open, every code 0, the straps at node 1. Log entries 7
and 8. -/
def Pins.powerOn : Pins :=
  { straps := 0, switches := .all ⟨⟨false, false⟩, ⟨false, false⟩, ⟨false, false⟩⟩,
    contacts := .all ⟨false, false⟩, codes := .all (0, 0) }

/-- The clocks at the end of either reset; the first sample and the first visit fall at that moment (R51, R137,
R140). -/
def Clock.reset : Clock := { stamp := 0, millis := 0, sinceSample := 0, sinceVisit := 2 }

/-- The state right after a power-on reset (R3, R6, R35, R69, R72, R86, R117, R119 to R123, R135, R136,
R146, R151, R159, R160, R169, R171, R178), with nothing waiting. -/
def State.reset : State :=
  { tables := .reset, tableLocks := .all false, bandIndex := .all .over, channels := .all .reset,
    rates := .all .empty, converter := .reset, locks := .all .reset, engines := .all .reset,
    alloc := .reset, drive := .reset, fan := .reset false, sup := .reset false,
    events := ⟨[], []⟩, link := .reset 0, pins := .powerOn, clock := .reset,
    order := ⟨0, 0, 0, 0, 0⟩, draws := 0, pending := [] }

/-! ## Reasons a step can stop -/

/-- Faults of the model. There is none: the manual gives every command of the table an effect in every state,
so no meaning ends in a fault. -/
inductive Fault
deriving DecidableEq, Repr

/-- Refusals of the model. -/
inductive Refusal
  /-- Raised by the dispatch alone, for a command that has no meaning yet. It is safe: the machine
  stops where the part goes on. No arm answers it. -/
  | notModelled (mnemonic : String)
deriving DecidableEq, Repr

end Sys2Proof.Machine
end

