-- ==== Sys2Proof/Machine/Ops.lean ====
section
/-!
DEFINITION. The named operations over State that every block uses: reading and writing one cavity's or channel's
part of it, posting event records, drawing the open arrival orders, and closing a command.
-/

namespace Sys2Proof.Machine

open Sys2Proof

/-! ## Lists of names, in the order the manual fixes -/

def cavities : List Cavity := [.a, .b]

/-- TOP, BOTTOM, RING: the cavity elements in the order of R125. -/
def cavityHeaters : List Heater := [.top, .bottom, .ring]

/-- The eight elements in the order of the refresh walk (R137). -/
def allElements : List Element :=
  [⟨.a, .top⟩, ⟨.a, .bottom⟩, ⟨.a, .ring⟩, ⟨.a, .cat⟩,
   ⟨.b, .top⟩, ⟨.b, .bottom⟩, ⟨.b, .ring⟩, ⟨.b, .cat⟩]

/-- The nine relays in the order of the refresh walk (R137). -/
def allRelays : List Relay := allElements.map .element ++ [.master]

/-- The five channels in the order of R1. -/
def allChannels : List Channel := [.cav .a, .cav .b, .cat .a, .cat .b, .front]

/-- The cavity a channel belongs to; none for FRONT (R10). -/
def channelCavity : Channel → Option Cavity
  | .cav c => some c
  | .cat c => some c
  | .front => none

/-! ## Reading and writing one part of the state -/

namespace State

def channel (s : State) (ch : Channel) : ChannelEntry := s.channels.get ch
def rateOf (s : State) (c : Cavity) : RateHistory := s.rates.get c
def lock (s : State) (c : Cavity) : LockCtl := s.locks.get c
def engine (s : State) (c : Cavity) : Engine := s.engines.get c
def program (s : State) (c : Cavity) : List SegmentRecord := s.tables.programs.get c
def bandTable (s : State) (c : Cavity) : Vector BandRecord 8 := s.tables.bands.get c
def relay (s : State) (r : Relay) : RelayEntry := s.drive.entries.get r
def rating (s : State) (e : Element) : Nat := s.tables.ratings.get e

def setTables (t : Tables) (s : State) : State := { s with tables := t }
def setTableLock (c : Cavity) (x : Bool) (s : State) : State :=
  { s with tableLocks := s.tableLocks.set c x }
def setBandIndex (c : Cavity) (i : BandIndex) (s : State) : State :=
  { s with bandIndex := s.bandIndex.set c i }
def setChannel (ch : Channel) (e : ChannelEntry) (s : State) : State :=
  { s with channels := s.channels.set ch e }
def setRate (c : Cavity) (h : RateHistory) (s : State) : State := { s with rates := s.rates.set c h }
def setConverter (x : Converter) (s : State) : State := { s with converter := x }
def setLock (c : Cavity) (l : LockCtl) (s : State) : State := { s with locks := s.locks.set c l }
def setEngine (c : Cavity) (e : Engine) (s : State) : State :=
  { s with engines := s.engines.set c e }
def setAlloc (x : Alloc) (s : State) : State := { s with alloc := x }
def setDrive (x : Drive) (s : State) : State := { s with drive := x }
def setRelay (r : Relay) (x : RelayEntry) (s : State) : State :=
  { s with drive := { s.drive with entries := s.drive.entries.set r x } }
def setFan (x : Fan) (s : State) : State := { s with fan := x }
def setSup (x : Sup) (s : State) : State := { s with sup := x }
def setEvents (x : Events) (s : State) : State := { s with events := x }
def setLink (x : Link) (s : State) : State := { s with link := x }
def setPins (x : Pins) (s : State) : State := { s with pins := x }
def setClock (x : Clock) (s : State) : State := { s with clock := x }

/-- The filtered temperature of a channel (R2). -/
def f (s : State) (ch : Channel) : Option Int := (s.channel ch).f

/-- A channel is valid while its state is VALID (R13). -/
def isValid (s : State) (ch : Channel) : Bool := decide ((s.channel ch).state = .valid)

/-- A channel is failed while its state is FAILED (R13). -/
def isFailed (s : State) (ch : Channel) : Bool := decide ((s.channel ch).state = .failed)

/-- Both Cycle Engines are IDLE. -/
def bothIdle (s : State) : Bool :=
  decide ((s.engine .a).state = .idle) && decide ((s.engine .b).state = .idle)

/-- A relay test is in progress (R146). -/
def testing (s : State) : Bool := decide (s.drive.test.state = .inProgress)

/-- An element is fitted while its rating in the element table is above 0 (R120). -/
def fitted (s : State) (e : Element) : Bool := decide (0 < s.rating e)

/-- Heat inhibit is set (R163). -/
def heatInhibit (s : State) : Bool := s.sup.inhibit.any

end State

/-! ## Folding an operation over names -/

/-- Apply an operation for each name of a list, first to last. -/
def forEach {α : Type} (l : List α) (op : α → State → State) (s : State) : State :=
  l.foldl (fun s x => op x s) s

/-- Apply an operation where a condition holds. -/
def onlyIf (p : Bool) (op : State → State) (s : State) : State := if p then op s else s

/-! ## Open arrival orders (log entry 3) -/

/-- The arrangement of a list that a number codes: its digits, in the bases 1, 2, 3, …, give the place of each
element among those after it, and 0 codes the list as it stands. Every arrangement has a number. -/
def arrange {α : Type} : List α → Nat → List α
  | [], _ => []
  | x :: xs, n => (arrange xs (n / (xs.length + 1))).insertIdx (n % (xs.length + 1)) x

/-- Take the first record of a block out of a list. -/
def takeFirstOf (b : Block) : List Outgoing → Option (Outgoing × List Outgoing)
  | [] => none
  | o :: rest =>
    if o.block = b then some (o, rest)
    else (takeFirstOf b rest).map fun p => (p.1, o :: p.2)

/-- The interleaving of the records of different blocks that a number codes: at each turn a digit picks a record,
and the first record of the same block goes next, so that each block's records keep their order (R169).
0 codes the list as it stands. `fuel` is the number of records. -/
def interleave : Nat → Nat → List Outgoing → List Outgoing
  | 0, _, l => l
  | _ + 1, _, [] => []
  | fuel + 1, n, o :: rest =>
    let l := o :: rest
    let picked := (l[n % l.length]?).getD o
    match takeFirstOf picked.block l with
    | some (first, others) => first :: interleave fuel (n / l.length) others
    | none => l

/-! ## Event records -/

namespace State

/-- A block queues a record, stamped at this event (R169). -/
def post (b : Block) (body : EventBody) (s : State) : State :=
  s.setEvents { s.events with outbox := s.events.outbox ++ [⟨b, ⟨body, s.clock.stamp⟩⟩] }

/-- A record reaches the Event Queue: it joins the tail, or is discarded with EVENTS_LOST set when the queue
holds 16 records (R169). -/
def enqueue (r : EventRecord) (s : State) : State :=
  if s.events.queue.length < 16 then
    s.setEvents { s.events with queue := s.events.queue ++ [r] }
  else s.setLink { s.link with eventsLost := true }

/-- The records of the command in progress reach the queue, those of different blocks in an open order (R169). -/
def deliverRecords (s : State) : State :=
  let records := interleave s.events.outbox.length s.order.records s.events.outbox
  forEach (records.map (·.record)) enqueue (s.setEvents { s.events with outbox := [] })

/-- The next draw of the open arrival orders. -/
def drawOrder (s : State) : State :=
  { s with order := Config.arrivalOrder s.draws, draws := s.draws + 1 }

/-- The end of a command: its records reach the queue, and the orders of the next command are drawn. -/
def close (s : State) : State := s.deliverRecords.drawOrder

end State

/-! ## 32-bit counts -/

/-- The next value of a 32-bit count (R86); past its end it is a free value (log entry 6). -/
def bump32 (n : Nat) : Nat :=
  if n < 4294967295 then n + 1 else (Config.countPastEnd n).toNat

end Sys2Proof.Machine
end

