-- ==== Sys2Proof/Machine/Arith.lean ====
section
/-!
DEFINITION. Chapter 2, the arithmetic of a conversion: codes to resistance (R20, R21), the short and open classes
(R22), linearization (R23, R24), the filter (R26) and the rate (R29). `Int` division by a positive number
rounds toward minus infinity, as the manual's div does.
-/

namespace Sys2Proof.Machine

open Sys2Proof

/-- The manual's clamp. -/
def clampInt (x lo hi : Int) : Int := if x < lo then lo else if hi < x then hi else x

/-- The result class of a conversion (R25). -/
inductive ConvClass
  | temperature | reference | shortCircuit | openCircuit
deriving DecidableEq, Repr

inductive Qualifier
  | under | over
deriving DecidableEq, Repr

/-- The result of a conversion (R25). -/
structure ConvResult where
  cls : ConvClass
  resistance : Option Nat
  temperature : Option Int
  qualifier : Option Qualifier
deriving DecidableEq, Repr

/-- The reference check of R20. -/
def referenceGood (codeRef : Nat) : Bool := decide (20000 ≤ codeRef) && decide (codeRef ≤ 60000)

/-- The sensor resistance in 0.1 Ω (R21). -/
def resistance (codeRtd codeRef : Nat) : Nat := (codeRtd * 20000 + codeRef / 2) / codeRef

/-- The points (T, R) of the linearization table (R23). -/
def linearizationPoints : List (Int × Nat) :=
  [(-500, 8031), (0, 10000), (500, 11940), (1000, 13851), (1500, 15733), (2000, 17586), (2500, 19410),
   (3000, 21205), (3500, 22972), (4000, 24709), (4500, 26418), (5000, 28098), (5500, 29749),
   (6000, 31371)]

/-- Linear interpolation in the segment of the table that holds the resistance (R23). -/
def interpolate : List (Int × Nat) → Nat → Option Int
  | (t0, r0) :: (t1, r1) :: rest, r =>
    if r0 ≤ r ∧ r < r1 then
      some (t0 + (((r - r0) * 500 + (r1 - r0) / 2) / (r1 - r0) : Nat))
    else interpolate ((t1, r1) :: rest) r
  | _, _ => none

/-- The temperature and qualifier of a resistance that R22 left a temperature (R23, R24). -/
def linearize (r : Nat) : Int × Option Qualifier :=
  if r < 8031 then (-500, some .under)
  else if 31371 < r then (6000, some .over)
  else ((interpolate linearizationPoints r).getD 6000, none)

/-- The result of a conversion from its two codes (R20 to R25). -/
def convert (codeRtd codeRef : BitVec 16) : ConvResult :=
  if referenceGood codeRef.toNat then
    let r := resistance codeRtd.toNat codeRef.toNat
    if r < 7000 then ⟨.shortCircuit, some r, none, none⟩
    else if 35000 < r then ⟨.openCircuit, some r, none, none⟩
    else ⟨.temperature, some r, some (linearize r).1, (linearize r).2⟩
  else ⟨.reference, none, none, none⟩

/-- The filter at an acceptance in VALID (R26). -/
def filterF (fOld t : Int) : Int := (3 * fOld + t + 2) / 4

/-- The rate at an expiry of the rate timer (R29). -/
def rateFrom (fNow mark : Int) : Int := clampInt ((fNow - mark) * 10) (-9990) 9990

end Sys2Proof.Machine
end

