-- ==== Sys2Proof/Machine/Channels.lean ====
section
/-!
DEFINITION. Chapter 1, the judging of one scan conversion against its channel entry (R7 to R11), the staleness
expiry (R12), CLEAR of a channel (R15), and the choice of the next conversion (R4, R5).
-/

namespace Sys2Proof.Machine

open Sys2Proof

/-- The agreement window of a channel (R1). -/
def agreementWindow : Channel → Int
  | .cav _ => 30
  | .cat _ => 50
  | .front => 20

/-- The staleness limit of a channel in milliseconds (R1, R12). -/
def stalenessLimit : Channel → Nat
  | .cav _ => 1000
  | .cat _ => 2000
  | .front => 3000

/-- The scan list (R5); 0 is entry 1. -/
def scanList : Vector Channel 9 :=
  #v[.cav .a, .cav .b, .cat .a, .cav .a, .cav .b, .cat .b, .cav .a, .cav .b, .front]

/-- The difference of two temperatures without its sign is within the window (R8). -/
def agrees (window t previous : Int) : Bool := decide ((t - previous).natAbs ≤ window.toNat)

/-- What the judging of one conversion gives: the entry, and whether its temperature was accepted. -/
structure Judged where
  entry : ChannelEntry
  accepted : Bool
deriving DecidableEq, Repr

/-- An acceptance (R11): F takes the temperature, or the filter in VALID; the channel is VALID and its staleness
timer restarts. -/
def acceptTemperature (t : Int) (e : ChannelEntry) : ChannelEntry :=
  { e with
    f := some (match e.state, e.f with
      | .valid, some old => filterF old t
      | _, _ => t)
    state := .valid
    staleness := some 0 }

/-- A temperature judged against the previous raw (R8). -/
def judgeTemperature (window t : Int) (e : ChannelEntry) : Judged :=
  let e' := { e with previousRaw := some t, runClass := none, runCount := 0 }
  match e.previousRaw with
  | none => ⟨e', false⟩
  | some p =>
    if agrees window t p then ⟨acceptTemperature t { e' with disagreements := 0 }, true⟩
    else ⟨{ e' with disagreements := e.disagreements + 1 }, false⟩

/-- A no-temperature class (R9): a disagreement that takes the previous raw away and extends or starts a run. -/
def judgeNoTemperature (k : NoTempClass) (e : ChannelEntry) : ChannelEntry :=
  { e with
    disagreements := e.disagreements + 1
    previousRaw := none
    runClass := some k
    runCount := if e.runClass = some k then e.runCount + 1 else 1 }

/-- The failure check of R10 on an entry that R8 or R9 has updated. -/
def failureOf (e : ChannelEntry) : Option FailCause :=
  if e.runClass = some .openCircuit ∧ e.runCount = 2 then some .openCircuit
  else if e.runClass = some .shortCircuit ∧ e.runCount = 2 then some .shortCircuit
  else if e.runClass = some .reference ∧ e.runCount = 8 then some .reference
  else if e.disagreements = 8 then some .erratic
  else none

/-- A channel that fails (R10): FAILED with its cause, the staleness timer stopped, the rest kept. -/
def failChannel (e : ChannelEntry) : ChannelEntry :=
  match failureOf e with
  | some cause => { e with state := .failed, cause := some cause, staleness := none }
  | none => e

/-- The class and temperature of a result, as R7 hands them to R8 or R9. -/
def judgeResult (window : Int) (r : ConvResult) (e : ChannelEntry) : Judged :=
  match r.cls with
  | .temperature => judgeTemperature window (r.temperature.getD 0) e
  | .reference => ⟨judgeNoTemperature .reference e, false⟩
  | .shortCircuit => ⟨judgeNoTemperature .shortCircuit e, false⟩
  | .openCircuit => ⟨judgeNoTemperature .openCircuit e, false⟩

/-- A scan conversion of a channel (R7): discarded in FAILED; otherwise judged, then checked for failure. -/
def judgeScan (window : Int) (r : ConvResult) (e : ChannelEntry) : Judged :=
  if e.state = .failed then ⟨e, false⟩
  else
    let j := judgeResult window r e
    ⟨failChannel j.entry, j.accepted⟩

/-- The expiry of the staleness timer (R12). -/
def staleChannel (e : ChannelEntry) : ChannelEntry := { e with state := .stale, staleness := none }

/-- The rate history after a change of its channel's state (R11, R28, R30): started from F at a return to
VALID, emptied when the channel is not VALID, and otherwise as it was. -/
def rateAfter (old new : ChannelEntry) (h : RateHistory) : RateHistory :=
  if new.state = .valid then
    if old.state = .valid then h else { mark := new.f, timer := some 0, rate := none }
  else if old.state = new.state then h
  else .empty

/-- The fault code of a failed channel (R10). -/
def failCode : FailCause → FaultCode
  | .openCircuit => .channelOpen
  | .shortCircuit => .channelShort
  | .erratic => .channelErratic
  | .reference => .channelReference

/-- The conversion that follows a completed one (R4): a waiting on-demand request, or the channel at the scan
position. A request whose own conversion has just completed is no longer held (R18). -/
def nextConversion (v : Converter) : Converter :=
  let held := if v.origin = .sample then none else v.onDemand
  match held with
  | some ch => { v with channel := ch, origin := .sample, elapsed := 0, onDemand := some ch }
  | none =>
    { channel := scanList[v.scanPos], origin := .scan, elapsed := 0, scanPos := v.scanPos + 1,
      onDemand := none }

end Sys2Proof.Machine
end

