-- ==== Sys2Proof/Machine/Bands.lean ====
section
/-!
DEFINITION. Chapter 3: lookup (R37), the OVER band (R36), the band in force, evaluation with and without
hysteresis (R38, R39) and the order check of a write (R34, R46).
-/

namespace Sys2Proof.Machine

open Sys2Proof

/-- The fields of a band that its readers act on (R40). -/
structure BandFields where
  policy : DoorPolicy
  fanFloor : Nat
  permitted : ElementSet
  catRequirement : CatRequirement
deriving DecidableEq, Repr

/-- The fields of the OVER band (R36). -/
def overFields : BandFields :=
  { policy := .interlock, fanFloor := 3, permitted := .empty, catRequirement := .none }

def BandRecord.fields (r : BandRecord) : BandFields :=
  { policy := r.policy, fanFloor := r.fanFloor, permitted := r.permitted,
    catRequirement := r.catRequirement }

/-- The fields a band index stands for in a table. -/
def fieldsAt (t : Vector BandRecord 8) : BandIndex → BandFields
  | .band n => t[n].fields
  | .over => overFields

/-- The rank of a band (R33): its number, with OVER above band 8. -/
def BandIndex.rank : BandIndex → Nat
  | .band n => n.val
  | .over => 8

/-- The lower of two bands. -/
def BandIndex.lower (x y : BandIndex) : BandIndex := if x.rank ≤ y.rank then x else y

/-- The first enabled band of a list, numbered on from `n`, whose limit is greater than T. -/
def lookupFrom (t : Int) : List BandRecord → Nat → BandIndex
  | [], _ => .over
  | r :: rest, n =>
    if r.enabled ∧ t < r.limit then .band (Fin.ofNat 8 n) else lookupFrom t rest (n + 1)

/-- Lookup(T) (R37). -/
def lookup (tbl : Vector BandRecord 8) (t : Int) : BandIndex := lookupFrom t tbl.toList 0

/-- Evaluation with hysteresis (R38) of the band `c` at a new F. -/
def evaluate (tbl : Vector BandRecord 8) (c : BandIndex) (f : Int) : BandIndex :=
  let n := lookup tbl f
  if c.rank < n.rank then n
  else if n.rank < c.rank then (lookup tbl (f + 50)).lower c
  else c

/-- The limits of the enabled bands strictly ascend, all of them above `lo`, and a disabled band ends them. -/
def ascendFrom (lo : Int) : List BandRecord → Bool
  | [] => true
  | r :: rest =>
    if r.enabled then decide (lo < r.limit) && ascendFrom r.limit rest
    else rest.all fun x => !x.enabled

/-- The standing condition of R34: bands 1 to k are enabled for some k from 1 to 8, and their limits ascend. -/
def bandsOrdered (tbl : Vector BandRecord 8) : Bool :=
  match tbl.toList with
  | [] => false
  | r :: rest => r.enabled && ascendFrom r.limit rest

namespace State

/-- The band in force of a cavity: OVER while its channel is not VALID (R36), the current band otherwise. -/
def bandNow (s : State) (c : Cavity) : BandIndex :=
  if s.isValid (.cav c) then s.bandIndex.get c else .over

/-- The fields in force of a cavity. -/
def bandFields (s : State) (c : Cavity) : BandFields := fieldsAt (s.bandTable c) (s.bandNow c)

/-- The door policy in force of a cavity (R41). -/
def policy (s : State) (c : Cavity) : DoorPolicy := (s.bandFields c).policy

end State

end Sys2Proof.Machine
end

