-- ==== Sys2Proof/Machine/Timers.lean ====
section
/-!
DEFINITION. The timers of the part against their limits: when each has run out, so that its event can occur. A timer
that has been stopped or started again since has not run out, and an event of it that still waits changes nothing
(R12, R31, R53, R141, R156; log entry 2).
-/

namespace Sys2Proof.Machine

open Sys2Proof

/-- A running timer has reached its limit, in milliseconds. -/
def isDue (t : Timer) (limit : Nat) : Bool :=
  match t with
  | some n => decide (limit ≤ n)
  | none => false

/-- The reading of a test step falls 100 ms after its start (R147). -/
def TestStep.readingDue (t : TestStep) : Bool := decide (t.reading = none) && decide (100 ≤ t.elapsed)

/-- The end of a test step falls 200 ms after its start (R147). -/
def TestStep.endDue (t : TestStep) : Bool := decide (200 ≤ t.elapsed)

namespace State

/-- The staleness timer of a channel has reached the channel's limit (R12). -/
def stalenessDue (s : State) (ch : Channel) : Bool := isDue (s.channel ch).staleness (stalenessLimit ch)

/-- The conversion in progress has taken its 50 ms (R4). -/
def conversionDue (s : State) : Bool := decide (50 ≤ s.converter.elapsed)

/-- The rate timer of a cavity has reached 6 s (R29). -/
def rateDue (s : State) (c : Cavity) : Bool := isDue (s.rateOf c).timer 6000

/-- The motion timer of a lock has reached 3.0 s with the motion still present (R53). -/
def motionDue (s : State) (c : Cavity) : Bool :=
  match (s.lock c).motion with
  | some m => decide (3000 ≤ m.elapsed)
  | none => false

/-- The second timer of an engine has reached one second (R87). -/
def tickDue (s : State) (c : Cavity) : Bool := isDue (s.engine c).secondTimer 1000

/-- The overheat timer of a cavity has reached 60 s (R166). -/
def overheatDue (s : State) (c : Cavity) : Bool := isDue (s.sup.overheatTimer.get c) 60000

/-- The slot in progress has taken its second (R122). -/
def slotOver (s : State) : Bool := decide (1000 ≤ s.alloc.slotElapsed)

/-- A window starts at the end of a reset, and at the end of slot 15 of each window (R122). -/
def windowDue (s : State) : Bool :=
  decide (s.alloc.slot = none) || (decide (s.alloc.slot = some 15) && s.slotOver)

/-- The settle timer of a relay has reached 50 ms (R141). -/
def settleDue (s : State) (r : Relay) : Bool := isDue (s.relay r).settle 50

/-- The mismatch timer of a relay has reached 100 ms (R141). -/
def mismatchDue (s : State) (r : Relay) : Bool := isDue (s.relay r).mismatch 100

/-- The grace timer of the fan has reached 3.0 s (R156). -/
def graceDue (s : State) : Bool := isDue s.fan.grace 3000

/-- The pulse timer of the fan has reached 250 ms (R157). -/
def pulseDue (s : State) : Bool := isDue s.fan.pulse 250

/-- The low timer of the line (R171). It runs from the falling edge; the part hears of a low that has lasted 1.2 ms, and
times it on in IN_BREAK (log entry 41). -/
def lowTimer (s : State) : Timer :=
  match s.link.receiver with
  | .inBreak low => some low
  | _ => none

/-- The low of a break has reached 20 ms, so that the break is a line fault (R171). -/
def lineFaultDue (s : State) : Bool := isDue s.lowTimer 200

/-- The low of a break has lasted less than 20 ms, so that a rising edge ends the break (R171). -/
def breakHolds (s : State) : Bool := s.lowTimer.isSome && !s.lineFaultDue

/-- Two milliseconds have passed since the last visit of the refresh walk, or it has made none since a reset (R137). -/
def visitDue (s : State) : Bool := decide (2 ≤ s.clock.sinceVisit)

end State

end Sys2Proof.Machine
end

