-- ==== Sys2Proof/Machine/Locks.lean ====
section
/-!
DEFINITION. Chapter 4: the Door Lock Controller by itself. Every operation takes a controller and gives the
controller after it with what it makes known (R66), in order. What the rest of the part does with those
notices stands in LockEvents.lean.
-/

namespace Sys2Proof.Machine

open Sys2Proof

inductive LockFault
  | jam | stuck | breach | slip
deriving DecidableEq, Repr

def LockFaults.has (x : LockFaults) : LockFault → Bool
  | .jam => x.jam
  | .stuck => x.stuck
  | .breach => x.breach
  | .slip => x.slip

def LockFaults.put (x : LockFaults) (v : Bool) : LockFault → LockFaults
  | .jam => { x with jam := v }
  | .stuck => { x with stuck := v }
  | .breach => { x with breach := v }
  | .slip => { x with slip := v }

def LockFaults.any (x : LockFaults) : Bool := x.jam || x.stuck || x.breach || x.slip

/-- What a Door Lock Controller makes known at an event (R62, R64 to R66, R69, R70). -/
inductive LockNotice
  | raised (f : LockFault)
  | cleared (f : LockFault)
  | changed (old new : LockState)
  | breached
  | slipped
  | engageRefused (by_ : Requester)
  | adopted
deriving DecidableEq, Repr

/-- A controller after an operation, with its notices. -/
structure LockStep where
  lock : LockCtl
  notices : List LockNotice
deriving DecidableEq, Repr

/-- The answer to a lock request (R61). -/
inductive LockAnswer
  | done
  | refused (r : Reason)
deriving DecidableEq, Repr

namespace LockCtl

/-- Nothing happens. -/
def stay (l : LockCtl) : LockStep := ⟨l, []⟩

/-- Latch a fault; a fault already latched raises no second event (R66). -/
def latch (f : LockFault) (l : LockCtl) : LockStep :=
  if l.faults.has f then l.stay
  else ⟨{ l with faults := l.faults.put true f }, [.raised f]⟩

/-- The motor stops and the motion ends in a state (R53). -/
def rest (new : LockState) (l : LockCtl) : LockStep :=
  ⟨{ l with state := new, motor := .stopped, motion := none }, [.changed l.state new]⟩

/-- The motor runs with a fresh motion timer, in a state (R53). -/
def run (new : LockState) (m : Motor) (cause : MotionCause) (l : LockCtl) : LockStep :=
  ⟨{ l with state := new, motor := m, motion := some ⟨cause, 0⟩ }, [.changed l.state new]⟩

end LockCtl

/-- One operation after another, with the notices of both. -/
def LockStep.andThen (x : LockStep) (op : LockCtl → LockStep) : LockStep :=
  ⟨(op x.lock).lock, x.notices ++ (op x.lock).notices⟩

namespace LockCtl

/-- Entry into FAULTED (R63): LOCK_STUCK is latched, the motor stops, the slot and release-pending are emptied. -/
def jamFast (l : LockCtl) : LockStep :=
  (latch .stuck { l with slot := none, releasePending := none }).andThen (rest .faulted)

/-- A release begins (R58, first row). -/
def beginRelease (l : LockCtl) : LockStep :=
  run .releasing .reverse .release { l with releasePending := none }

/-- A jam return begins (R56). -/
def beginJamReturn (l : LockCtl) : LockStep := run .returning .reverse .jamReturn l

/-- An engage taken in RELEASED (R55). -/
def engageReleased (l : LockCtl) : LockStep × LockAnswer :=
  if l.levels.doorShut = some true then
    if l.levels.latchSet = some true then (rest .engaged l, .done)
    else (run .engaging .forward .engage l, .done)
  else (l.stay, .refused .doorOpen)

/-- A release taken in ENGAGED (R58). -/
def releaseEngaged (policy : DoorPolicy) (wait : Bool) (by_ : Requester) (l : LockCtl) :
    LockStep × LockAnswer :=
  if policy = .free then (beginRelease l, .done)
  else if wait then (stay { l with releasePending := some by_ }, .done)
  else (l.stay, .refused .tooHot)

/-- The slot without a request of one kind. -/
def dropFromSlot (k : LockRequestKind) (l : LockCtl) : LockCtl :=
  match l.slot with
  | some q => if q.kind = k then { l with slot := none } else l
  | none => l

/-- An engage request in each lock state (R61). -/
def engage (by_ : Requester) (l : LockCtl) : LockStep × LockAnswer :=
  match l.state with
  | .released => engageReleased l
  | .engaging => (stay (dropFromSlot .release l), .done)
  | .engaged => (stay { l with releasePending := none }, .done)
  | .releasing => (stay { l with slot := some ⟨.engage, by_⟩ }, .done)
  | .returning => (l.stay, .refused .busy)
  | .faulted => (l.stay, .refused .fault)
  | .notAdopted => (l.stay, .refused .busy)

/-- A release request in each lock state (R61). -/
def release (policy : DoorPolicy) (wait : Bool) (by_ : Requester) (l : LockCtl) :
    LockStep × LockAnswer :=
  match l.state with
  | .released => (l.stay, .done)
  | .engaging => (stay { l with slot := some ⟨.release, by_⟩ }, .done)
  | .engaged => releaseEngaged policy wait by_ l
  | .releasing => (stay (dropFromSlot .engage l), .done)
  | .returning => (l.stay, .done)
  | .faulted => (l.stay, .refused .fault)
  | .notAdopted => (l.stay, .refused .busy)

/-- A request of either kind (R61). -/
def request (policy : DoorPolicy) (wait : Bool) (q : LockRequest) (l : LockCtl) :
    LockStep × LockAnswer :=
  match q.kind with
  | .engage => engage q.requester l
  | .release => release policy wait q.requester l

/-- A refusal that has to reach the one who asked (R62). -/
def refusalNotice (q : LockRequest) : LockAnswer → List LockNotice
  | .refused .doorOpen => [.engageRefused q.requester]
  | _ => []

/-- At the end of a motion in ENGAGED or RELEASED, the request in the slot is taken in the new state, a release
with the wait option (R62). -/
def takeSlot (policy : DoorPolicy) (l : LockCtl) : LockStep :=
  match l.slot with
  | none => l.stay
  | some q =>
    let r := request policy true q { l with slot := none }
    ⟨r.1.lock, r.1.notices ++ refusalNotice q r.2⟩

/-- The motion ends in ENGAGED (R56). -/
def endEngaged (policy : DoorPolicy) (l : LockCtl) : LockStep :=
  (rest .engaged l).andThen (takeSlot policy)

/-- The motion ends in RELEASED (R57, R60). -/
def endReleased (policy : DoorPolicy) (l : LockCtl) : LockStep :=
  (rest .released l).andThen (takeSlot policy)

/-- The motion ends in RELEASED after a jam return, which latches LOCK_JAM, or after another return (R57). -/
def endReturning (policy : DoorPolicy) (l : LockCtl) : LockStep :=
  match l.motion with
  | some ⟨.jamReturn, _⟩ => (latch .jam l).andThen (endReleased policy)
  | _ => endReleased policy l

/-- DOOR_SHUT goes false in ENGAGED (R64). -/
def breach (l : LockCtl) : LockStep :=
  let x := latch .breach l
  ⟨x.lock, x.notices ++ [.breached]⟩

/-- A release that waits under release-pending moves into the slot (R65). -/
def pendingToSlot (l : LockCtl) : LockCtl :=
  match l.releasePending with
  | some by_ => { l with releasePending := none, slot := some ⟨.release, by_⟩ }
  | none => l

/-- LATCH_SET goes false in ENGAGED (R65): a re-drive with the door shut, a return with the door open. -/
def slip (l : LockCtl) : LockStep :=
  let x := latch .slip (pendingToSlot l)
  let y := ⟨x.lock, x.notices ++ [.slipped]⟩
  LockStep.andThen y fun l =>
    if l.levels.doorShut = some true then run .engaging .forward .slipRedrive l
    else run .returning .reverse .slipReturn l

/-- The state, motor and motion the switch levels give at adoption (R69) or at a re-derivation (R70). -/
def derive (l : LockCtl) : LockStep :=
  let set := decide (l.levels.latchSet = some true)
  let home := decide (l.levels.latchHome = some true)
  let door := decide (l.levels.doorShut = some true)
  if set && home then jamFast l
  else if set then rest .engaged l
  else if home then rest .released l
  else if door then run .engaging .forward .adopted l
  else run .returning .reverse .adopted l

/-- All three switches have a filtered level (R69). -/
def allPresent (l : LockCtl) : Bool :=
  l.levels.doorShut.isSome && l.levels.latchHome.isSome && l.levels.latchSet.isSome

/-- Adoption, at the sample at which the last of the three switches gains a level (R69). -/
def adopt (l : LockCtl) : LockStep :=
  if l.allPresent then
    let x := derive l
    ⟨x.lock, x.notices ++ [.adopted]⟩
  else l.stay

/-- Both latch switches are true after a change of one of them (R54). -/
def contradiction (sw : Switch) (l : LockCtl) : Bool :=
  decide (sw ≠ .doorShut) && decide (l.levels.latchHome = some true)
    && decide (l.levels.latchSet = some true)

/-- The lock state answers a change of a switch level that it has already recorded (R55 to R65, and the table of
switch events by state). -/
def react (policy : DoorPolicy) (sw : Switch) (level : Bool) (l : LockCtl) : LockStep :=
  match l.state, sw, level with
  | .engaging, .latchSet, true => endEngaged policy l
  | .engaging, .doorShut, false => beginJamReturn l
  | .engaged, .doorShut, false => breach l
  | .engaged, .latchSet, false => slip l
  | .releasing, .latchHome, true => endReleased policy l
  | .returning, .latchHome, true => endReturning policy l
  | _, _, _ => l.stay

/-- A change of a filtered switch level (R51, R54): recorded in every state, adopted from before adoption, a
contradiction outside FAULTED, and otherwise answered by the state. -/
def switchChange (policy : DoorPolicy) (sw : Switch) (level : Bool) (l : LockCtl) : LockStep :=
  let l' := { l with levels := l.levels.set sw (some level) }
  match l.state with
  | .notAdopted => adopt l'
  | .faulted => l'.stay
  | _ => if contradiction sw l' then jamFast l' else react policy sw level l'

/-- The expiry of the motion timer (R53, R56, R57, R60). -/
def motionExpiry (l : LockCtl) : LockStep :=
  match l.motion with
  | none => l.stay
  | some m =>
    match l.state with
    | .engaging => if m.cause = .slipRedrive then jamFast l else beginJamReturn l
    | .returning => jamFast l
    | .releasing => jamFast l
    | _ => l.stay

/-- A change of the band in force made known while a release waits (R59). -/
def bandChange (policy : DoorPolicy) (l : LockCtl) : LockStep :=
  if l.state = .engaged ∧ l.releasePending.isSome ∧ policy = .free then beginRelease l else l.stay

/-- The acceptance of START discards what the host left waiting (R67). -/
def dropHostRequests (l : LockCtl) : LockCtl :=
  { l with
    slot := match l.slot with
      | some ⟨_, .host⟩ => none
      | x => x
    releasePending := if l.releasePending = some .host then none else l.releasePending }

/-- Clear a fault that is latched (R70). -/
def unlatch (f : LockFault) (l : LockCtl) : LockStep :=
  if l.faults.has f then ⟨{ l with faults := l.faults.put false f }, [.cleared f]⟩ else l.stay

/-- CLEAR of DOOR_BREACH needs the door shut (R70). -/
def clearBreach (l : LockCtl) : LockStep :=
  if l.levels.doorShut = some true then unlatch .breach l else l.stay

/-- CLEAR of LOCK_STUCK re-derives the lock state (R70). -/
def clearStuck (l : LockCtl) : LockStep :=
  if l.faults.stuck then
    (unlatch .stuck { l with slot := none, releasePending := none }).andThen derive
  else l.stay

/-- CLEAR on a controller (R70). -/
def clear (l : LockCtl) : LockStep :=
  (((unlatch .jam l).andThen (unlatch .slip)).andThen clearBreach).andThen clearStuck

end LockCtl

namespace State

/-- The fault code of a lock fault (R185). -/
def lockFaultCode : LockFault → FaultCode
  | .jam => .lockJam
  | .stuck => .lockStuck
  | .breach => .doorBreach
  | .slip => .latchSlip

/-- The record a notice of a lock queues (R66, R70). -/
def noticeRecord (c : Cavity) : LockNotice → Option EventBody
  | .raised f => some (.faultRaised (some c) (lockFaultCode f) none)
  | .cleared f => some (.faultCleared (some c) (lockFaultCode f) none)
  | .changed _ new => some (.lockChanged c new)
  | _ => none

/-- Queue the record of one notice. -/
def postNotice (c : Cavity) (n : LockNotice) (s : State) : State :=
  match noticeRecord c n with
  | some body => s.post (.lock c) body
  | none => s

/-- A controller takes the result of one of its operations and queues the records of its notices. -/
def applyLock (c : Cavity) (x : LockStep) (s : State) : State :=
  forEach x.notices (postNotice c) (s.setLock c x.lock)

/-- A lock request of either requester under the policy in force, with its answer (R61). -/
def askLock (c : Cavity) (wait : Bool) (q : LockRequest) (s : State) : State × LockAnswer :=
  let r := LockCtl.request (s.policy c) wait q (s.lock c)
  (s.applyLock c r.1, r.2)

end State

end Sys2Proof.Machine
end

