-- ==== Sys2Proof/Machine/Power.lean ====
section
/-!
DEFINITION. Chapter 7 and the parts of chapter 8 under it: the heating command (R92), catalyst READY (R118), the
demands (R116, R117), permission (R128, R129), withdrawal (R130), the expected level of a relay (R141), and the
window plan (R123 to R126).
-/

namespace Sys2Proof.Machine

open Sys2Proof

/-! ## Element sets and segment records -/

/-- Membership of a cavity element in a set; the catalyst heater is never a member (R33, R75). -/
def ElementSet.has (x : ElementSet) : Heater → Bool
  | .top => x.top
  | .bottom => x.bottom
  | .ring => x.ring
  | .cat => false

/-- The record at an index of a program, counted from 1 (R72). -/
def recordAt (p : List SegmentRecord) (index : Nat) : Option SegmentRecord :=
  if index = 0 then none else p[index - 1]?

/-- A "heat" command (R92): the setpoint, the element set, the bias and the proportional band. -/
structure HeatCommand where
  setpoint : Int
  elements : ElementSet
  bias : Nat
  band : Nat
deriving DecidableEq, Repr

/-- What a record makes of a setpoint: "heat" for a RAMP or SOAK, "no heat" for the other kinds (R92). -/
def SegmentRecord.heat (r : SegmentRecord) (setpoint : Option Int) : Option HeatCommand :=
  match r, setpoint with
  | .ramp x, some sp => some ⟨sp, x.elements, x.bias, x.band⟩
  | .soak x, some sp => some ⟨sp, x.elements, x.bias, x.band⟩
  | _, _ => none

namespace State

/-- The record of the current segment (R86). -/
def currentRecord (s : State) (c : Cavity) : Option SegmentRecord :=
  match (s.engine c).segmentIndex with
  | some i => recordAt (s.program c) i
  | none => none

/-- The heating command of a cavity's engine (R92); none is "no heat". -/
def heatCommand (s : State) (c : Cavity) : Option HeatCommand :=
  match (s.engine c).state, s.currentRecord c with
  | .running, some r => r.heat (s.engine c).setpoint
  | _, _ => none

/-- F of a channel is present and at or above a temperature. -/
def atOrAbove (s : State) (ch : Channel) (t : Int) : Bool :=
  match s.f ch with
  | some f => decide (t ≤ f)
  | none => false

/-- The target of catalyst regulation while the command counts as on, ON or SUSPENDED (R92, R118). -/
def regulationTarget (s : State) (c : Cavity) : Option Int :=
  match (s.engine c).catalyst with
  | .off => none
  | .on t => some t
  | .suspended t => some t

/-- The catalyst of a cavity is READY (R118). -/
def catReady (s : State) (c : Cavity) : Bool :=
  match s.regulationTarget c with
  | some t => s.isValid (.cat c) && s.atOrAbove (.cat c) (t - 200)
  | none => false

/-- Catalyst regulation is ON. -/
def regulationOn (s : State) (c : Cavity) : Bool :=
  match (s.engine c).catalyst with
  | .on _ => true
  | _ => false

/-- The health of an element is OK. -/
def healthy (s : State) (e : Element) : Bool := decide ((s.relay (.element e)).health = .ok)

/-! ## Permission -/

/-- Permission of a cavity element (R128). -/
def cavityPermission (s : State) (e : Element) : Bool :=
  let b := s.bandFields e.cavity
  !s.heatInhibit && !s.testing && s.healthy e
    && (match s.heatCommand e.cavity with
        | some h => h.elements.has e.heater
        | none => false)
    && b.permitted.has e.heater
    && (decide (b.policy ≠ .interlock) || decide ((s.lock e.cavity).state = .engaged))
    && (decide (b.catRequirement ≠ .hot) || s.catReady e.cavity)
    && s.isValid (.cav e.cavity)

/-- Permission of a catalyst heater (R129). -/
def heaterPermission (s : State) (e : Element) : Bool :=
  !s.heatInhibit && !s.testing && s.healthy e && s.regulationOn e.cavity
    && s.isValid (.cat e.cavity)

/-- Permission of an element (R128, R129). -/
def permission (s : State) (e : Element) : Bool :=
  match e.heater with
  | .cat => s.heaterPermission e
  | _ => s.cavityPermission e

end State

/-! ## Grants -/

/-- The grant of a slot is in force: it was made and the element's grants were not withdrawn before or in it. -/
def Grants.inForce (g : Grants) (slot : Nat) : Bool :=
  g.made.contains slot &&
    (match g.withdrawnAt with
     | some w => decide (slot < w)
     | none => true)

/-- The granted slot count (R123): the slots whose grant was made and was not withdrawn before the slot's start.
Log entry 9. -/
def Grants.count (g : Grants) : Nat :=
  match g.withdrawnAt with
  | some w => (g.made.filter fun k => decide (k ≤ w)).length
  | none => g.made.length

/-- The element holds a grant in force for a slot or a later one. -/
def Grants.holdsFrom (g : Grants) (slot : Nat) : Bool :=
  g.made.any fun k => decide (slot ≤ k) && g.inForce k

/-- The sum of the ratings of the grants for a slot that are in force (R123). -/
def slotSumOf (grants : PerElement Grants) (ratings : PerElement Nat) (slot : Nat) : Nat :=
  (allElements.map fun e => if (grants.get e).inForce slot then ratings.get e else 0).sum

namespace State

/-- The sum of a slot of the current window (R123). -/
def slotSum (s : State) (slot : Nat) : Nat := slotSumOf s.alloc.grants s.alloc.planRatings slot

/-! ## Expected levels and the supervision timers of a relay -/

/-- The level an entry expects closed (R141). -/
def expects (s : State) : Relay → Bool
  | .element e => s.drive.driveState.get e && s.sup.driveEnable
  | .master => s.sup.driveEnable

/-- The settle and mismatch timers of an entry may run: no relay test is in progress, and an element is fitted
(R141, R150). -/
def supervised (s : State) : Relay → Bool
  | .element e => !s.testing && s.fitted e
  | .master => !s.testing

/-- An entry's expected level judged afresh: at a change, its settle timer restarts and its mismatch timer stops
(R141). -/
def judgeExpected (r : Relay) (s : State) : State :=
  let x := s.relay r
  let now := s.expects r
  if x.expectedClosed = now then s
  else if s.supervised r then
    s.setRelay r { x with expectedClosed := now, settle := some 0, mismatch := none }
  else s.setRelay r { x with expectedClosed := now }

/-- All nine expected levels judged afresh (R162). -/
def judgeAllExpected (s : State) : State := forEach allRelays judgeExpected s

/-- An element's drive state is set, and its expected level judged (R139, R141). -/
def setDriveState (e : Element) (on : Bool) (s : State) : State :=
  judgeExpected (.element e)
    (s.setDrive { s.drive with driveState := s.drive.driveState.set e on })

/-! ## Withdrawal -/

/-- The grants in force of an element for the current slot and every later one are withdrawn, and its drive state
becomes OFF (R130, R139). -/
def withdraw (e : Element) (s : State) : State :=
  match s.alloc.slot with
  | none => s
  | some k =>
    let g := s.alloc.grants.get e
    if g.holdsFrom k then
      setDriveState e false
        (s.setAlloc { s.alloc with grants := s.alloc.grants.set e { g with withdrawnAt := some k } })
    else s

/-- An element whose permission does not hold loses its grants (R130). -/
def reviewElement (e : Element) (s : State) : State :=
  if s.permission e then s else s.withdraw e

/-- The Power Allocator judges every permission afresh and withdraws what has lost it (R130, R131). -/
def review (s : State) : State := forEach allElements reviewElement s

/-- The four elements of a cavity. -/
def elementsOf (c : Cavity) : List Element :=
  [⟨c, .top⟩, ⟨c, .bottom⟩, ⟨c, .ring⟩, ⟨c, .cat⟩]

/-- A door breach ends the permission of all four elements of the cavity (R130). -/
def withdrawCavity (c : Cavity) (s : State) : State := forEach (elementsOf c) withdraw s

/-! ## Demands -/

/-- D of the Heat Regulator (R116). -/
def cavityDemandOf (h : HeatCommand) (f : Int) : Nat :=
  (clampInt ((h.bias : Int) + (16 * (h.setpoint - f)) / (h.band : Int)) 0 16).toNat

/-- D_cat of the catalyst regulator (R117). -/
def catalystDemandOf (target f : Int) : Nat :=
  (clampInt (8 + (16 * (target - f)) / 400) 0 16).toNat

/-- The demand of a cavity element at a window start (R116). -/
def cavityDemand (s : State) (e : Element) : Nat :=
  match s.heatCommand e.cavity, s.f (.cav e.cavity) with
  | some h, some f =>
    if h.elements.has e.heater && (s.bandFields e.cavity).permitted.has e.heater && s.fitted e
        && s.healthy e && s.isValid (.cav e.cavity) then cavityDemandOf h f
    else 0
  | _, _ => 0

/-- The demand of a catalyst heater at a window start (R117). -/
def heaterDemand (s : State) (e : Element) : Nat :=
  match (s.engine e.cavity).catalyst, s.f (.cat e.cavity) with
  | .on target, some f =>
    if s.isValid (.cat e.cavity) && s.fitted e && s.healthy e then catalystDemandOf target f else 0
  | _, _ => 0

/-- The demand of an element, 0 when its permission does not hold at the window start (R124). -/
def demand (s : State) (e : Element) : Nat :=
  if s.permission e then
    match e.heater with
    | .cat => s.heaterDemand e
    | _ => s.cavityDemand e
  else 0

end State

/-! ## Building the plan -/

/-- The priority order of the walk (R125). -/
def priorityOrder (lead : Cavity) : List Element :=
  [⟨.a, .cat⟩, ⟨.b, .cat⟩] ++ cavityHeaters.map (fun h => ⟨lead, h⟩)
    ++ cavityHeaters.map (fun h => ⟨lead.other, h⟩)

/-- The slots of a window (R122). -/
def windowSlots : List Nat := List.range 16

/-- The walk of one element over the slots (R126): `q` slots at most, each where the sum stays within the budget.
`sums` gives the sum of the ratings granted in a slot so far, slot 0 first. -/
def walkSlots (budget rating q : Nat) : List Nat → List Nat → List Nat → List Nat
  | [], _, got => got
  | _, [], got => got
  | k :: ks, sum :: sums, got =>
    if got.length < q ∧ sum + rating ≤ budget then walkSlots budget rating q ks sums (got ++ [k])
    else walkSlots budget rating q ks sums got

/-- The walk of one element, against the grants already placed in this walk (R126). -/
def walkElement (budget : Nat) (ratings demands : PerElement Nat) (placed : PerElement Grants)
    (e : Element) : PerElement Grants :=
  placed.set e
    { made := walkSlots budget (ratings.get e) (demands.get e) windowSlots
        (windowSlots.map (slotSumOf placed ratings)) []
      withdrawnAt := none }

/-- The plan of a window: the walk over the elements in priority order, from no grants (R126). -/
def buildPlan (budget : Nat) (lead : Cavity) (ratings demands : PerElement Nat) :
    PerElement Grants :=
  (priorityOrder lead).foldl (walkElement budget ratings demands) (.all .empty)

/-- One value per element from a function of the element. -/
def tabulate {α : Type} (fn : Element → α) : PerElement α :=
  { a := ⟨fn ⟨.a, .top⟩, fn ⟨.a, .bottom⟩, fn ⟨.a, .ring⟩, fn ⟨.a, .cat⟩⟩
    b := ⟨fn ⟨.b, .top⟩, fn ⟨.b, .bottom⟩, fn ⟨.b, .ring⟩, fn ⟨.b, .cat⟩⟩ }

end Sys2Proof.Machine
end

