-- ==== Sys2Proof/Machine/Fans.lean ====
section
/-!
DEFINITION. Chapter 9: the demands on the fan and its level (R151, R152, R155), the front-panel conditions with
hysteresis (R153, R154) and the tacho watch (R156 to R158).
-/

namespace Sys2Proof.Machine

open Sys2Proof

namespace Fan

/-- The greatest of the five demands (R151). -/
def greatest (x : Fan) : Nat :=
  max x.cavityDemand.a (max x.cavityDemand.b
    (max x.frontInvalid (max (if x.frontHotDemand then 3 else 0) x.tripDemand)))

/-- The level rises from 0 (R156). -/
def riseFromZero (x : Fan) : Fan :=
  match x.watch with
  | .off => { x with watch := .grace, grace := some 0 }
  | _ => x

/-- The level falls to 0 (R156). -/
def fallToZero (x : Fan) : Fan :=
  match x.watch with
  | .grace => { x with watch := .off, grace := none }
  | .watching => { x with watch := .off, pulse := none }
  | _ => x

/-- The fan level takes the greatest demand, and the watch follows a rise from 0 or a fall to 0 (R151, R156). -/
def relevel (x : Fan) : Fan :=
  let g := x.greatest
  if x.level = 0 ∧ 0 < g then ({ x with level := g }).riseFromZero
  else if 0 < x.level ∧ g = 0 then ({ x with level := g }).fallToZero
  else { x with level := g }

/-- A condition with hysteresis: set from `hi`, cleared below `lo` (R153, R154). -/
def hysteresis (hi lo f : Int) (now : Bool) : Bool := if now then decide (lo ≤ f) else decide (hi ≤ f)

/-- The front-hot demand and inhibit judged at a new F_front (R153, R154). -/
def judgeFront (f : Int) (x : Fan) : Fan :=
  { x with
    frontHotDemand := hysteresis 850 800 f x.frontHotDemand
    frontHotInhibit := hysteresis 1100 900 f x.frontHotInhibit }

/-- A pulse of the tacho (R156). -/
def tachoPulse (x : Fan) : Fan :=
  match x.watch with
  | .watching => { x with pulse := some 0 }
  | _ => x

/-- The end of the spin-up grace (R156). -/
def graceExpiry (x : Fan) : Fan :=
  match x.watch with
  | .grace => { x with watch := .watching, grace := none, pulse := some 0 }
  | _ => x

/-- FAN_STALL is latched and the watch is STALLED (R157). -/
def stallNow (x : Fan) : Fan := { x with watch := .stalled, pulse := none, stall := true }

/-- CLEAR of FAN_STALL: a fresh grace, or OFF at level 0 (R158). -/
def clearStall (x : Fan) : Fan :=
  match x.watch with
  | .stalled =>
    if x.level = 0 then { x with stall := false, watch := .off, grace := none }
    else { x with stall := false, watch := .grace, grace := some 0 }
  | _ => { x with stall := false }

end Fan

namespace State

/-- A cavity's demand: the greater of the fan floor in force and its engine's fan request (R42, R152). -/
def fanDemand (s : State) (c : Cavity) : Nat :=
  max (s.bandFields c).fanFloor (s.engine c).fanRequest

/-- The demands that follow the state of other blocks (R152, R153, R155), each as its owner stands: a change of FRONT
that other readers act on before the Fan Controller is already met by the fan requests that their acts bring. Log
entry 44. -/
def gatherDemands (s : State) : Fan :=
  { s.fan with
    cavityDemand := ⟨s.fanDemand .a, s.fanDemand .b⟩
    frontInvalid := if s.isValid .front then 0 else 3
    tripDemand := if s.sup.trip then 3 else 0 }

/-- The Fan Controller forms the greatest demand afresh (R151). -/
def fanSync (s : State) : State := s.setFan s.gatherDemands.relevel

end State

end Sys2Proof.Machine
end

