-- ==== Sys2Proof/Machine/Engines.lean ====
section
/-!
DEFINITION. Chapter 6: the Cycle Engine. Segment entry (R90), the entry actions and tick work of the six kinds
(R93 to R101), the judgement of an ending (R91, R102 to R104), abort and SAFE_COOL (R110, R113), completion
(R114), the hold of single-step (R108), and what the engine does with what its lock makes known.
-/

namespace Sys2Proof.Machine

open Sys2Proof

namespace State

/-- Change one engine. -/
def modEngine (c : Cavity) (fn : Engine → Engine) (s : State) : State :=
  s.setEngine c (fn (s.engine c))

/-- What follows a change of an engine's heating command, catalyst regulation or fan request (R92): the Allocator
withdraws what has lost permission, and the Fan Controller forms its demand afresh. -/
def announce (s : State) : State := s.review.fanSync

/-! ## Entering IDLE -/

/-- The outcome record of the cycle (R115). -/
def outcomeOf (s : State) (c : Cavity) (r : CycleResult) (k : Condition) : OutcomeRecord :=
  let e := s.engine c
  { outcome := r, segmentIndex := e.segmentIndex.getD 0, condition := k, peakF := e.peakF,
    cycleSeconds := e.cycleSeconds, soakSeconds := e.soakSeconds, lockState := (s.lock c).state }

/-- The engine enters IDLE (R113, R114): the outcome record is written, the fan request is 0, the table lock is
clear, the second timer stops, and CYCLE_ENDED is queued. -/
def toIdle (c : Cavity) (r : CycleResult) (k : Condition) (s : State) : State :=
  let o := s.outcomeOf c r k
  announce
    (post (.engine c) (.cycleEnded c r k)
      (setTableLock c false
        (modEngine c (fun e => { e with
          state := .idle, outcome := some o, fanRequest := 0, catalyst := .off, secondTimer := none,
          segmentIndex := none, soakRemaining := none, holdCount := none, recorded := none,
          engageWaiting := false }) s)))

/-- SAFE_COOL ends when the lock is RELEASED or FAULTED (R113). -/
def judgeSafeCool (c : Cavity) (s : State) : State :=
  let e := s.engine c
  if e.state = .safeCool
      ∧ ((s.lock c).state = .released ∨ (s.lock c).state = .faulted) then
    toIdle c .aborted (e.recorded.getD .done) s
  else s

/-! ## Abort -/

/-- The lock is asked at an abort, by its state (R110, step 6). -/
def abortAsk (c : Cavity) (s : State) : State :=
  match (s.lock c).state with
  | .engaged | .engaging | .releasing => (s.askLock c true ⟨.release, .engine⟩).1
  | _ => s

/-- SEGMENT_ENDED with the condition of an abort, in RUNNING or PAUSED (R110, step 2). -/
def abortRecord (c : Cavity) (k : Condition) (s : State) : State :=
  let e := s.engine c
  if e.state = .running ∨ e.state = .paused then
    s.post (.engine c) (.segmentEnded c (e.segmentIndex.getD 0) k)
  else s

/-- The engine has a cycle that an abort can take: RUNNING, PAUSED or HELD (R110). -/
def inCycle (s : State) (c : Cavity) : Bool :=
  match (s.engine c).state with
  | .running | .paused | .held => true
  | _ => false

/-- An abort (R110), and the judgement of the end of SAFE_COOL at it (R113). -/
def abortCycle (c : Cavity) (k : Condition) (s : State) : State :=
  if s.inCycle c then
    judgeSafeCool c
      (announce (abortAsk c
        (announce (modEngine c (fun e => { e with
            state := .safeCool, recorded := some k, catalyst := .off, fanRequest := 3,
            holdCount := none, engageWaiting := false })
          (abortRecord c k s)))))
  else s

/-! ## Completion and hold -/

/-- Completion after the last segment's SEGMENT_ENDED (R114). -/
def complete (c : Cavity) (s : State) : State := toIdle c .completed .done s

/-- Catalyst regulation, if ON, becomes SUSPENDED (R105, R108). -/
def suspend : CatRegulation → CatRegulation
  | .on t => .suspended t
  | x => x

/-- Catalyst regulation, if SUSPENDED, becomes ON (R107, R109). -/
def unsuspend : CatRegulation → CatRegulation
  | .suspended t => .on t
  | x => x

/-- A segment that ended DONE leaves a single-step cycle in HELD (R108). -/
def hold (c : Cavity) (s : State) : State :=
  announce (modEngine c (fun e => { e with
    state := .held, holdCount := some 1800, catalyst := suspend e.catalyst, fanRequest := 0 }) s)

/-! ## Endings -/

/-- What an event brings to a judgement beyond the state: the catalyst channel has left VALID (R103), a breach or
slip (R104), a lock answer or change that ends an ENGAGE segment (R93), and whether it is a tick (R98, R101). -/
structure Causes where
  catLost : Bool := false
  breach : Bool := false
  jammed : Bool := false
  doorOpen : Bool := false
  tick : Bool := false
deriving DecidableEq, Repr

/-- F is above the ceiling (R102). -/
def overCeiling (s : State) (c : Cavity) : Bool :=
  match s.f (.cav c), (s.engine c).ceiling with
  | some f, some m => decide (m < f)
  | _, _ => false

/-- Catalyst regulation is ON or SUSPENDED (R103). -/
def regulating (s : State) (c : Cavity) : Bool := (s.regulationTarget c).isSome

/-- The endings judged in RUNNING, PAUSED and HELD (R91, R102 to R104): OVERSHOOT, SENSOR_LOST, BREACH, STUCK. -/
def forcedEnding (c : Cavity) (k : Causes) (s : State) : Option Condition :=
  if s.overCeiling c then some .overshoot
  else if !s.isValid (.cav c) || (k.catLost && s.regulating c) then some .sensorLost
  else if k.breach then some .breach
  else if (s.lock c).state = .faulted then some .stuck
  else none

/-- F of the cavity channel is at or below a temperature. -/
def atOrBelow (s : State) (c : Cavity) (t : Int) : Bool :=
  match s.f (.cav c) with
  | some f => decide (f ≤ t)
  | none => false

/-- The end condition of the segment's kind holds (R93 to R100). -/
def segmentDone (s : State) (c : Cavity) : SegmentRecord → Bool
  | .engage => decide ((s.lock c).state = .engaged)
  | .catalyst t _ => s.isValid (.cat c) && s.atOrAbove (.cat c) (t - 200)
  | .ramp r => decide ((s.engine c).setpoint = some r.target) && s.atOrAbove (.cav c) (r.target - 50)
  | .soak _ => decide ((s.engine c).soakRemaining = some 0)
  | .cool t _ _ => s.atOrBelow c t
  | .release => decide ((s.lock c).state = .released)

/-- The time limit of a record (R73). -/
def timeLimitOf : SegmentRecord → Option Nat
  | .catalyst _ l => l
  | .ramp r => r.timeLimit
  | .soak r => r.timeLimit
  | .cool _ l _ => l
  | _ => none

/-- The undershoot count of a SOAK has reached 600 (R98). -/
def undershot (s : State) (c : Cavity) : SegmentRecord → Bool
  | .soak _ => decide (600 ≤ (s.engine c).undershootCount)
  | _ => false

/-- The segment's elapsed count equals its time limit (R101). -/
def outOfTime (s : State) (c : Cavity) (r : SegmentRecord) : Bool :=
  match timeLimitOf r with
  | some l => decide ((s.engine c).segmentElapsed = l)
  | none => false

/-- The ending of the current segment in RUNNING, the first of R91's order that holds. -/
def ending (c : Cavity) (r : SegmentRecord) (k : Causes) (s : State) : Option Condition :=
  match s.forcedEnding c k with
  | some x => some x
  | none =>
    if k.jammed then some .jammed
    else if k.doorOpen then some .doorOpen
    else if s.segmentDone c r then some .done
    else if k.tick && s.undershot c r then some .undershoot
    else if k.tick && s.outOfTime c r then some .stalled
    else none

/-! ## Entering a segment -/

/-- The setpoint of the segment entered before this one, if it was a RAMP or a SOAK (R95). -/
def previousSetpoint (s : State) (c : Cavity) (index : Nat) : Option Int :=
  match recordAt (s.program c) (index - 1) with
  | some (.ramp _) => (s.engine c).setpoint
  | some (.soak _) => (s.engine c).setpoint
  | _ => none

/-- The setpoint at the entry of a RAMP (R95). -/
def rampStart (s : State) (c : Cavity) (index : Nat) (r : RampRecord) : Option Int :=
  let start := match s.previousSetpoint c index with
    | some x => some x
    | none => s.f (.cav c)
  match start with
  | some x => if r.target ≤ x ∨ r.rate = none then some r.target else some x
  | none => if r.rate = none then some r.target else none

/-- The items that every entry sets (R90). -/
def enterCommon (index : Nat) (e : Engine) : Engine :=
  { e with
    segmentIndex := some index, segmentElapsed := 0, undershootCount := 0, accumulator := 0,
    engageWaiting := false, holdCount := none, soakRemaining := none, fanRequest := 0 }

/-- The entry actions of the kinds on the engine's own items (R94, R95, R97, R99). -/
def enterKind (s : State) (c : Cavity) (index : Nat) (r : SegmentRecord) (e : Engine) : Engine :=
  match r with
  | .catalyst t _ => { e with catalyst := .on t }
  | .ramp x => { e with setpoint := s.rampStart c index x }
  | .soak x => { e with setpoint := some x.target, soakRemaining := some x.duration }
  | .cool _ _ level => { e with fanRequest := level }
  | _ => e

/-- The engine after the answer to its engage (R93): refused BUSY, it waits to ask again. -/
def noteBusy (c : Cavity) (a : LockAnswer) (s : State) : State :=
  s.modEngine c fun e => { e with engageWaiting := decide (a = .refused .busy) }

/-- The cause that the answer to an engage brings (R93). -/
def answerCauses (a : LockAnswer) : Causes := { doorOpen := decide (a = .refused .doorOpen) }

/-- The engine asks for an engage and notes the answer (R93). -/
def askEngage (c : Cavity) (s : State) : State × Causes :=
  let r := s.askLock c false ⟨.engage, .engine⟩
  (noteBusy c r.2 r.1, answerCauses r.2)

/-- What an entry asks of the lock (R68): an engage for ENGAGE, a release with the wait option for RELEASE. -/
def entryAsk (c : Cavity) (r : SegmentRecord) (s : State) : State × Causes :=
  match r with
  | .engage => s.askEngage c
  | .release => ((s.askLock c true ⟨.release, .engine⟩).1, {})
  | _ => (s, {})

/-- The entry of a segment without the judgement of its end (R90), with what its lock request brought. The fan request
goes straight from the value of the segment before to that of this one (R99), so that a COOL directly after a COOL shows
the fan no 0 between their levels (R152): log entry 39. -/
def enterSegment (c : Cavity) (index : Nat) (r : SegmentRecord) (s : State) : State × Causes :=
  let s1 := s.modEngine c fun e => s.enterKind c index r (enterCommon index e)
  let a := entryAsk c r s1
  (announce a.1, a.2)

/-- SEGMENT_ENDED with DONE (R90). -/
def postDone (c : Cavity) (index : Nat) (s : State) : State :=
  s.post (.engine c) (.segmentEnded c index .done)

/-- The segments from an index on, entered one after another at one event for as long as each ends DONE at its
entry (R90). The list holds the records from that index to the tail. -/
def runFrom (c : Cavity) : List SegmentRecord → Nat → State → State
  | [], _, s => s
  | r :: rest, index, s =>
    let a := s.enterSegment c index r
    match ending c r a.2 a.1 with
    | none => a.1
    | some .done =>
      let s2 := postDone c index a.1
      if rest.isEmpty then complete c s2
      else if (s2.engine c).singleStep then hold c s2
      else runFrom c rest (index + 1) s2
    | some k => abortCycle c k a.1

/-- The segment at an index ends DONE (R90): the cycle completes, holds, or goes on to the next index. -/
def endDone (c : Cavity) (index : Nat) (s : State) : State :=
  let s2 := postDone c index s
  if (s.program c).length ≤ index then complete c s2
  else if (s2.engine c).singleStep then hold c s2
  else runFrom c ((s.program c).drop index) (index + 1) s2

/-- The judgement of the current segment's ending, with what the event brings (R91). In PAUSED and HELD only the
forced endings are judged. -/
def judge (c : Cavity) (k : Causes) (s : State) : State :=
  match (s.engine c).state with
  | .running =>
    match (s.engine c).segmentIndex, s.currentRecord c with
    | some index, some r =>
      match ending c r k s with
      | none => s
      | some .done => endDone c index s
      | some x => abortCycle c x s
    | _, _ => s
  | .paused | .held =>
    match forcedEnding c k s with
    | some x => abortCycle c x s
    | none => s
  | _ => s

/-! ## The lock's notices -/

/-- The current segment is an ENGAGE in RUNNING. -/
def inEngage (s : State) (c : Cavity) : Bool :=
  decide ((s.engine c).state = .running) && decide (s.currentRecord c = some .engage)

/-- A change of the lock state made known to the engine (R93, R104, R113). -/
def onLockChanged (c : Cavity) (old new : LockState) (s : State) : State :=
  match (s.engine c).state with
  | .safeCool => judgeSafeCool c s
  | .idle => s
  | _ =>
    if s.inEngage c && decide (new = .released) then
      if (s.engine c).engageWaiting then
        let a := askEngage c s
        judge c a.2 (announce a.1)
      else judge c { jammed := decide (old = .returning) } s
    else judge c {} s

/-- A notice of the lock as its engine takes it (R62, R64, R65, R93, R104, R113). -/
def onLockNotice (c : Cavity) (n : LockNotice) (s : State) : State :=
  match n with
  | .changed old new => onLockChanged c old new s
  | .breached => judge c { breach := true } s
  | .slipped => judge c { breach := true } s
  | .engageRefused .engine => if s.inEngage c then judge c { doorOpen := true } s else s
  | _ => s

/-! ## The tick -/

/-- The setpoint advance of a RAMP with a rate (R96). -/
def advanceSetpoint (r : RampRecord) (e : Engine) : Engine :=
  match r.rate, e.setpoint with
  | some rate, some sp =>
    let total := e.accumulator + rate
    { e with accumulator := total % 60, setpoint := some (min (sp + ((total / 60 : Nat) : Int)) r.target) }
  | _, _ => e

/-- The soak countdown and the undershoot count (R97, R98). -/
def soakWork (reached : Bool) (e : Engine) : Engine :=
  if reached then
    match e.soakRemaining with
    | some (n + 1) =>
      { e with soakRemaining := some n, soakSeconds := bump32 e.soakSeconds, undershootCount := 0 }
    | _ => { e with undershootCount := 0 }
  else { e with undershootCount := e.undershootCount + 1 }

/-- The segment work of a tick in RUNNING, by kind (R87, R96 to R98). -/
def kindWork (s : State) (c : Cavity) (r : SegmentRecord) (e : Engine) : Engine :=
  match r with
  | .ramp x => advanceSetpoint x e
  | .soak x => soakWork (s.atOrAbove (.cav c) (x.target - x.tolerance)) e
  | _ => e

/-- The count of one more tick (R87), with the second timer started again. -/
def countTick (e : Engine) : Engine :=
  { e with cycleSeconds := bump32 e.cycleSeconds, secondTimer := some 0 }

/-- The work of a tick in RUNNING before its judgement (R87, R101). -/
def runningWork (c : Cavity) (s : State) : State :=
  match s.currentRecord c with
  | some r => s.modEngine c fun e =>
      s.kindWork c r { e with segmentElapsed := bump32 e.segmentElapsed }
  | none => s

/-- The work of a tick in PAUSED or HELD: the count goes down, and at 0 the cycle ends EXPIRED (R105, R108). -/
def holdWork (c : Cavity) (s : State) : State :=
  let left := (s.engine c).holdCount.getD 0 - 1
  let s1 := s.modEngine c fun e => { e with holdCount := some left }
  if left = 0 then abortCycle c .expired s1 else s1

/-- A tick of an engine (R87). -/
def tickEngine (c : Cavity) (s : State) : State :=
  let s1 := s.modEngine c countTick
  match (s.engine c).state with
  | .running => judge c { tick := true } (runningWork c s1)
  | .paused | .held => holdWork c s1
  | _ => s1

/-- The ending that a tick would bring to the segment of a running engine (R91). -/
def tickEnding (c : Cavity) (s : State) : Option Condition :=
  let s1 := runningWork c (s.modEngine c countTick)
  match (s.engine c).state, s1.currentRecord c with
  | .running, some r => ending c r { tick := true } s1
  | _, _ => none

end State

end Sys2Proof.Machine
end

