-- ==== Sys2Proof/Machine/Flags.lean ====
section
/-!
DEFINITION. Every condition the manual forms from the state of several blocks: drive enable (R162), the sources of
heat inhibit (R163), readiness (R161), the faults that refuse START (R88), the active and system faults
(R160, R167), and the attention flags of a reply (R178).
-/

namespace Sys2Proof.Machine

open Sys2Proof

namespace State

/-- The three conditions of readiness (R161). -/
def readyNow (s : State) : Bool :=
  allChannels.all (fun ch => s.sup.measured.get ch) && s.sup.startupDone
    && s.sup.adopted.a && s.sup.adopted.b

/-- The conditions of drive enable (R162). -/
def driveEnableNow (s : State) : Bool :=
  s.sup.readiness && !s.sup.trip && !s.drive.elementWelded && !s.drive.masterWelded
    && !s.sup.overheat.a && !s.sup.overheat.b && !s.sup.runaway.a && !s.sup.runaway.b

/-- The sources of heat inhibit (R163). -/
def inhibitNow (s : State) : InhibitSources :=
  { driveOff := !s.sup.driveEnable, fanStall := s.fan.stall, frontFailed := s.isFailed .front,
    frontHot := s.fan.frontHotInhibit }

/-- The set of latched system faults, in the order of R185. -/
def systemFaults (s : State) : List Bool :=
  [s.drive.elementWelded, s.drive.masterWelded, s.sup.overheat.a || s.sup.overheat.b,
   s.sup.runaway.a || s.sup.runaway.b, s.fan.stall, s.isFailed .front, s.sup.trip]

/-- The set of active faults of a cavity, in the order of R185 (R160). -/
def activeFaults (s : State) (c : Cavity) : List Bool :=
  let l := (s.lock c).faults
  [s.isFailed (.cav c), s.isFailed (.cat c), l.jam, l.stuck, l.breach, l.slip,
   s.drive.elementOpen.get ⟨c, .top⟩, s.drive.elementOpen.get ⟨c, .bottom⟩,
   s.drive.elementOpen.get ⟨c, .ring⟩, s.drive.elementOpen.get ⟨c, .cat⟩,
   s.sup.overheat.get c, s.sup.runaway.get c]

/-- A fault of the cavity that refuses its START is latched (R88, step 6). -/
def cavityBlocked (s : State) (c : Cavity) : Bool :=
  s.isFailed (.cav c) || s.isFailed (.cat c) || (s.lock c).faults.any
    || (elementsOf c).any fun e => s.drive.elementOpen.get e

/-- A system fault is latched, or TRIP is asserted (R88, step 6, R167). -/
def systemBlocked (s : State) : Bool := s.systemFaults.any id

/-- Any fault of the fault table is latched, or TRIP is asserted (R178). -/
def faultActive (s : State) : Bool :=
  s.systemBlocked || s.cavityBlocked .a || s.cavityBlocked .b

/-- The attention flags as they stand (R178). -/
def attentionFlags (s : State) : AttentionFlags :=
  { eventsPending := !s.events.queue.isEmpty, eventsLost := s.link.eventsLost,
    collisionSeen := s.link.collisionSeen, faultActive := s.faultActive,
    notReady := !s.sup.readiness, trip := s.sup.trip }

end State

end Sys2Proof.Machine
end

