-- ==== Sys2Proof/Machine/Supervisor.lean ====
section
/-!
DEFINITION. Chapter 10 and the relay operations it drives: drive enable and heat inhibit (R162, R163), readiness
(R161), OVERHEAT (R164), RUNAWAY (R165), TRIP (R166), the abort of both cycles (R112, R167), the supervision timers
of a relay (R141), and the beginning, the steps and the abandoning of a relay test (R146, R147, R149).
-/

namespace Sys2Proof.Machine

open Sys2Proof

namespace State

/-! ## Drive enable, heat inhibit, system faults -/

/-- Drive enable recomputed and made known to the Element Drive (R162). -/
def recomputeEnable (s : State) : State :=
  judgeAllExpected (s.setSup { s.sup with driveEnable := s.driveEnableNow })

/-- Heat inhibit recomputed from its sources and made known to the Power Allocator (R163). -/
def recomputeInhibit (s : State) : State :=
  review (s.setSup { s.sup with inhibit := s.inhibitNow })

/-- Both recomputed (R162, R163). -/
def recompute (s : State) : State := s.recomputeEnable.recomputeInhibit

/-- Both engines abort a cycle with SYSTEM (R112), A before B: log entry 42. -/
def systemAbort (s : State) : State := forEach cavities (fun c => abortCycle c .system) s

/-- A system fault has been latched or has arisen: drive enable and heat inhibit are recomputed, and both cycles
abort (R112, R167). -/
def systemFault (s : State) : State := s.recompute.systemAbort

/-- A flag of a cavity. -/
def setOverheat (c : Cavity) (x : Bool) (t : Timer) (s : State) : State :=
  s.setSup { s.sup with overheat := s.sup.overheat.set c x,
                        overheatTimer := s.sup.overheatTimer.set c t }

/-- Readiness becomes true when the last of its conditions holds; READY is queued and drive enable recomputed
(R161). -/
def judgeReady (s : State) : State :=
  if s.sup.readiness then s
  else if s.readyNow then
    recompute (post .supervisor .ready (s.setSup { s.sup with readiness := true }))
  else s

/-! ## The supervision timers of a relay -/

/-- The mismatch timer follows the agreement of sense and expected level (R141). -/
def followMismatch (r : Relay) (s : State) : State :=
  let x := s.relay r
  if s.supervised r ∧ x.settle = none then
    match x.sense with
    | none => s
    | some level =>
      if level = x.expectedClosed then s.setRelay r { x with mismatch := none }
      else if x.mismatch = none then s.setRelay r { x with mismatch := some 0 }
      else s
  else s

/-- Both timers of an entry stop (R147, R150). -/
def stopTimers (r : Relay) (s : State) : State :=
  s.setRelay r { s.relay r with settle := none, mismatch := none }

/-- The settle timer of an entry restarts, where it is supervised (R141, R148, R150): not during a relay test, in which
R141 has the timers of every entry stopped. For R150 that is the model's choice, log entry 38. -/
def restartSettle (r : Relay) (s : State) : State :=
  if s.supervised r then s.setRelay r { s.relay r with settle := some 0, mismatch := none } else s

/-- The settle timers of the master and of every fitted element restart at a test's end (R141, R148). -/
def restartAllSettle (s : State) : State := forEach allRelays restartSettle s

/-! ## The relay test -/

def setTest (t : RelayTest) (s : State) : State := s.setDrive { s.drive with test := t }

/-- The test drive of a relay. -/
def setTestDrive (r : Relay) (on : Bool) (s : State) : State :=
  s.setRelay r { s.relay r with testDrive := on }

/-- The visit list: the fitted elements in walk order, then the master (R147). -/
def visitListNow (s : State) : List Relay :=
  (allElements.filter fun e => s.fitted e).map .element ++ [.master]

/-- The step of the next relay of the visit list starts (R147): a contact already closed has the result WELDED and is
not driven. -/
def startStep (s : State) : State :=
  let t := s.drive.test
  match t.todo with
  | [] => s
  | r :: rest =>
    let closed := decide ((s.relay r).sense = some true)
    setTestDrive r (!closed)
      (s.setTest { t with
        step := some ⟨r, closed, none, 0⟩
        todo := rest
        results := if closed then t.results.set r .welded else t.results })

/-- A test begins (R147). -/
def beginTest (o : TestOrigin) (s : State) : State :=
  let visit := s.visitListNow
  startStep (review (forEach allRelays stopTimers
    (s.setTest { state := .inProgress, origin := o, visitList := visit, step := none, todo := visit,
                 results := .all .notVisited })))

/-- Every test drive becomes OFF. -/
def testDrivesOff (s : State) : State := forEach allRelays (fun r => setTestDrive r false) s

/-- A relay test in progress is abandoned by TRIP (R149). -/
def abandonTest (s : State) : State :=
  if s.testing then
    restartAllSettle
      (testDrivesOff (s.setTest { s.drive.test with state := .abandoned, step := none, todo := [] }))
  else s

/-! ## TRIP -/

/-- TRIP is asserted (R166); once asserted it stays. -/
def assertTrip (s : State) : State :=
  if s.sup.trip then s
  else
    fanSync (systemFault (abandonTest
      (post .supervisor (.faultRaised none .trip none) (s.setSup { s.sup with trip := true }))))

/-- A welded fault has been latched: TRIP when both are latched, the system fault in any case (R143, R144, R166). -/
def weldedLatched (s : State) : State :=
  let s1 := systemFault s
  if s1.drive.elementWelded && s1.drive.masterWelded then assertTrip s1 else s1

/-! ## Thermal checks -/

/-- A new F of a cavity channel as the Supervisor judges it (R164, R166). -/
def judgeOverheat (c : Cavity) (f : Int) (s : State) : State :=
  if 5800 ≤ f then
    if s.sup.overheat.get c then
      if s.sup.overheatTimer.get c = none then setOverheat c true (some 0) s else s
    else
      systemFault (setOverheat c true (some 0)
        (post .supervisor (.faultRaised (some c) .overheat none) s))
  else setOverheat c (s.sup.overheat.get c) none s

/-- RUNAWAY judged for a cavity on a slot-use record (R165). -/
def judgeRunawayOn (u : SlotUse) (c : Cavity) (s : State) : State :=
  match (s.rateOf c).rate with
  | some r =>
    if 400 ≤ r ∧ u.heldLast = false ∧ u.heldThis = false ∧ s.sup.runaway.get c = false then
      systemFault (post .supervisor (.faultRaised (some c) .runaway none)
        (s.setSup { s.sup with runaway := s.sup.runaway.set c true }))
    else s
  | none => s

/-- RUNAWAY judged for a cavity (R165). -/
def judgeRunaway (c : Cavity) (s : State) : State :=
  judgeRunawayOn (s.alloc.slotUse.get c) c s

end State

end Sys2Proof.Machine
end

