-- ==== Sys2Proof/Machine/Known.lean ====
section
/-!
DEFINITION. What one block makes known to the others (R13, R40, R66, R154): a lock event carried to its engine and
to the Power Allocator, a change of the band in force carried to the lock, the Allocator and the fan, and a change
of a channel carried to its readers in the open order of R13.
-/

namespace Sys2Proof.Machine

open Sys2Proof

namespace State

/-! ## A lock event -/

/-- The adoption of a lock made known to the Supervisor (R69, R161). -/
def markAdopted (c : Cavity) (s : State) : State :=
  judgeReady (s.setSup { s.sup with adopted := s.sup.adopted.set c true })

/-- A notice of the lock carried to its readers: a breach to the Power Allocator (R64), an adoption to the
Supervisor (R69), and everything to the engine (R66). -/
def carryNotice (c : Cavity) (n : LockNotice) (s : State) : State :=
  onLockNotice c n
    (match n with
     | .breached => withdrawCavity c s
     | .adopted => markAdopted c s
     | _ => s)

/-- An event at a Door Lock Controller: the controller takes its result and queues its records, the Power Allocator
judges permission afresh, and the notices reach their readers (R66, R131). -/
def lockEvent (c : Cavity) (x : LockStep) (s : State) : State :=
  forEach x.notices (carryNotice c) (review (s.applyLock c x))

/-! ## A change of the band in force -/

/-- The blocks that act on a change of the band in force (R40), without the Heat Regulator, which works at window
starts alone. -/
inductive BandReader
  | allocator | fan | lock
deriving DecidableEq, Repr

/-- One reader acts on a change of the band in force (R40): the Power Allocator judges permission afresh, the fan forms
its demand afresh, and a release that waits begins under FREE (R59). -/
def bandReaderActs (c : Cavity) (r : BandReader) (s : State) : State :=
  match r with
  | .allocator => s.review
  | .fan => s.fanSync
  | .lock => lockEvent c (LockCtl.bandChange (s.policy c) (s.lock c)) s

/-- A change of the band in force is made known to its readers, in an open order (R40). Log entry 3. -/
def bandKnown (c : Cavity) (s : State) : State :=
  forEach (arrange [.allocator, .fan, .lock] s.order.bands) (bandReaderActs c) s

/-- The Band Table takes an index, and a change of the band in force is made known (R40). -/
def takeBand (c : Cavity) (i : BandIndex) (s : State) : State :=
  if s.bandIndex.get c = i then s else bandKnown c (s.setBandIndex c i)

/-- The Band Table acts on a change of its cavity channel: OVER while it is not VALID (R36), the plain lookup at its
return to VALID (R39), and evaluation with hysteresis at a new F (R38). -/
def bandReads (c : Cavity) (old : ChannelState) (s : State) : State :=
  let e := s.channel (.cav c)
  if e.state = .valid then
    match e.f with
    | some f =>
      if old = .valid then takeBand c (evaluate (s.bandTable c) (s.bandIndex.get c) f) s
      else takeBand c (lookup (s.bandTable c) f) s
    | none => s
  else takeBand c .over s

/-! ## The readers of a channel -/

/-- What a completion or an expiry makes known of a channel (R13): its state before, and whether it has a new F. -/
structure ChannelChange where
  channel : Channel
  oldState : ChannelState
  newF : Bool
deriving DecidableEq, Repr

/-- A new F exceeds the peak so far, or is the first (R102). -/
def abovePeak (peak : Option Int) (f : Int) : Bool :=
  match peak with
  | some p => decide (p < f)
  | none => true

/-- Peak F is raised to a new F that exceeds it, from START until IDLE (R102). -/
def raisePeak (c : Cavity) (s : State) : State :=
  match s.f (.cav c) with
  | some f =>
    if (s.engine c).state ≠ .idle ∧ abovePeak (s.engine c).peakF f then
      s.modEngine c fun e => { e with peakF := some f }
    else s
  | none => s

/-- The engine acts on a change of its cavity channel (R91, R102, R103). -/
def engineReadsCavity (c : Cavity) (newF : Bool) (s : State) : State :=
  judge c {} (onlyIf newF (raisePeak c) s)

/-- The catalyst channel has left VALID at this event (R103), or has gone to FAILED from any other state (R167). -/
def catalystLost (s : State) (c : Cavity) (old : ChannelState) : Bool :=
  (decide (old = .valid) && !s.isValid (.cat c)) || (decide (old ≠ .failed) && s.isFailed (.cat c))

/-- The engine acts on a change of its catalyst channel, which may be lost by it (R91, R103, R167). -/
def engineReadsCatalyst (c : Cavity) (old : ChannelState) (s : State) : State :=
  judge c { catLost := s.catalystLost c old } s

/-- The Supervisor's measured flag, set at the first change out of WARMUP (R161). -/
def markMeasured (ch : Channel) (s : State) : State :=
  if (s.channel ch).state = .warmup then s
  else judgeReady (s.setSup { s.sup with measured := s.sup.measured.set ch true })

/-- The Supervisor acts on a new F of a cavity channel (R164, R166). -/
def supReadsF (c : Cavity) (newF : Bool) (s : State) : State :=
  match s.f (.cav c) with
  | some f => if newF then judgeOverheat c f s else s
  | none => s

/-- The Supervisor acts on the FRONT channel: FAILED is a system fault (R163, R167). -/
def supReadsFront (old : ChannelState) (s : State) : State :=
  if s.isFailed .front ∧ old ≠ .failed then systemFault s else recompute s

/-- The Fan Controller acts on the FRONT channel (R153, R154); a change of the inhibit reaches the Supervisor. -/
def fanReadsFront (newF : Bool) (s : State) : State :=
  match s.f .front with
  | some f =>
    if newF ∧ s.isValid .front then recompute (fanSync (s.setFan (s.fan.judgeFront f))) else s.fanSync
  | none => s.fanSync

/-- The blocks that read a channel (R1), without those that work at window starts alone. -/
inductive Reader
  | bandTable | engine | supervisor | allocator | fan
deriving DecidableEq, Repr

/-- The readers of a channel (R1). -/
def readersOf : Channel → List Reader
  | .cav _ => [.bandTable, .engine, .supervisor]
  | .cat _ => [.allocator, .engine, .supervisor]
  | .front => [.fan, .supervisor]

/-- One reader acts on a change of a channel. The Supervisor judges readiness before OVERHEAT where a cavity channel's
first F brings both (R161, R164): log entry 40. -/
def readerActs (k : ChannelChange) (r : Reader) (s : State) : State :=
  match k.channel, r with
  | .cav c, .bandTable => bandReads c k.oldState s
  | .cav c, .engine => engineReadsCavity c k.newF s
  | .cav c, .supervisor => supReadsF c k.newF (markMeasured k.channel s)
  | .cat _, .allocator => review s
  | .cat c, .engine => engineReadsCatalyst c k.oldState s
  | .cat _, .supervisor => markMeasured k.channel s
  | .front, .fan => fanReadsFront k.newF s
  | .front, .supervisor => supReadsFront k.oldState (markMeasured k.channel s)
  | _, _ => s

/-- A change of a channel is made known to its readers, in an open order (R13). -/
def channelKnown (k : ChannelChange) (s : State) : State :=
  forEach (arrange (readersOf k.channel) s.order.readers) (readerActs k) s

/-- A channel takes a new entry: a cavity channel's rate history follows its state (R28, R30), and the change is
made known when the state or F is new (R13). -/
def takeEntry (ch : Channel) (new : ChannelEntry) (newF : Bool) (s : State) : State :=
  let old := s.channel ch
  let s1 := s.setChannel ch new
  let s2 := match ch with
    | .cav c => s1.setRate c (rateAfter old new (s.rateOf c))
    | _ => s1
  if newF ∨ old.state ≠ new.state then channelKnown ⟨ch, old.state, newF⟩ s2 else s2

/-- A channel's failure queues FAULT_RAISED with its cause, cavity and channel (R10). -/
def postFailure (ch : Channel) (old new : ChannelEntry) (s : State) : State :=
  match new.state, new.cause with
  | .failed, some cause =>
    if old.state = .failed then s
    else s.post .measurement (.faultRaised (channelCavity ch) (failCode cause) (some (.channel ch)))
  | _, _ => s

end State

end Sys2Proof.Machine
end

