-- ==== Sys2Proof/Machine/Codes.lean ====
section
/-!
DEFINITION. The codes of R176, R182 and R185: an enumerated value as a number, and a number as the value it names,
with no value for an undefined code.
-/

namespace Sys2Proof.Machine

open Sys2Proof

/-- The value at a position of a list of values, none beyond its last (R185). -/
def ofCode {α : Type} (values : List α) (n : Nat) : Option α := values[n]?

/-- The position of a value in a list of values (R185). -/
def codeIn {α : Type} [DecidableEq α] (values : List α) (x : α) : Nat := values.idxOf x

def cavityOf (n : Nat) : Option Cavity := ofCode cavities n
def cavityCode (c : Cavity) : Nat := codeIn cavities c

def channelOf (n : Nat) : Option Channel := ofCode allChannels n
def channelCode (ch : Channel) : Nat := codeIn allChannels ch

def elementOf (n : Nat) : Option Element := ofCode allElements n
def elementCode (e : Element) : Nat := codeIn allElements e

def relayCode (r : Relay) : Nat := codeIn allRelays r

/-- The sections of PLANT STATUS (R180). -/
inductive Section
  | channels | plan | slots | relays | plant
deriving DecidableEq, Repr

def sections : List Section := [.channels, .plan, .slots, .relays, .plant]
def sectionOf (n : Nat) : Option Section := ofCode sections n

def segmentKinds : List SegmentKind := [.engage, .catalyst, .ramp, .soak, .cool, .release]
def segmentKindOf (n : Nat) : Option SegmentKind := ofCode segmentKinds n
def segmentKindCode (k : SegmentKind) : Nat := codeIn segmentKinds k

def policies : List DoorPolicy := [.free, .keep, .interlock]
def policyOf (n : Nat) : Option DoorPolicy := ofCode policies n
def policyCode (p : DoorPolicy) : Nat := codeIn policies p

def catRequirements : List CatRequirement := [.none, .hot]
def catRequirementOf (n : Nat) : Option CatRequirement := ofCode catRequirements n
def catRequirementCode (x : CatRequirement) : Nat := codeIn catRequirements x

def lockStateCode (x : LockState) : Nat :=
  codeIn [.released, .engaging, .engaged, .releasing, .returning, .faulted, .notAdopted] x

/-- Release-pending: clear 0, set with origin ENGINE 1, set with origin HOST 2 (R185). -/
def releasePendingCode (x : Option Requester) : Nat :=
  codeIn [none, some .engine, some .host] x

def motorCode (m : Motor) : Nat := codeIn [.stopped, .forward, .reverse] m
def engineStateCode (x : EngineState) : Nat := codeIn [.idle, .running, .paused, .held, .safeCool] x
def conditionCode (x : Condition) : Nat :=
  codeIn [.done, .stalled, .overshoot, .undershoot, .sensorLost, .jammed, .stuck, .doorOpen, .breach,
    .hostAbort, .system, .expired] x
def cycleResultCode (x : CycleResult) : Nat := codeIn [.completed, .aborted] x
def channelStateCode (x : ChannelState) : Nat := codeIn [.warmup, .valid, .stale, .failed] x
/-- The codes of a failed channel's cause, in the order in which R2 lists them, where R10's table has another (R185; log
entry 36). -/
def failCauseCode (x : FailCause) : Nat :=
  codeIn [.openCircuit, .shortCircuit, .erratic, .reference] x
def classCode (x : ConvClass) : Nat :=
  codeIn [.temperature, .reference, .shortCircuit, .openCircuit] x
def qualifierCode (x : Qualifier) : Nat := codeIn [.under, .over] x
def healthCode (x : Health) : Nat := codeIn [.ok, .stuckOpen, .welded] x
def testStateCode (x : TestState) : Nat := codeIn [.pending, .inProgress, .complete, .abandoned] x
def testOriginCode (x : TestOrigin) : Nat := codeIn [.startUp, .request] x
def testResultCode (x : TestResult) : Nat := codeIn [.pass, .stuckOpen, .welded, .notVisited] x
def watchCode (x : TachoWatch) : Nat := codeIn [.off, .grace, .watching, .stalled] x
def faultCodeNumber (x : FaultCode) : Nat :=
  codeIn [.channelOpen, .channelShort, .channelErratic, .channelReference, .elementOpen, .elementWelded,
    .masterWelded, .overheat, .runaway, .fanStall, .lockJam, .lockStuck, .latchSlip, .doorBreach, .trip] x

/-- The reason codes of a reply, from 1 (R176). -/
def reasonCode (x : Reason) : Nat :=
  1 + codeIn [.busy, .notIdle, .notRunning, .notReady, .locked, .frozen, .full, .empty, .noSuch,
    .badField, .order, .tooHot, .doorOpen, .fault, .unknown, .length] x

/-- The band in force as a number: 1 to 8, or 0 for OVER (R184). -/
def bandCode : BandIndex → Nat
  | .band n => n.val + 1
  | .over => 0

/-- A kind byte that names a request (R182). -/
def namesRequest (kind : Byte) : Bool := decide (1 ≤ kind.toNat) && decide (kind.toNat ≤ 25)

/-- The kind of a segment record. -/
def SegmentRecord.kind : SegmentRecord → SegmentKind
  | .engage => .engage
  | .catalyst _ _ => .catalyst
  | .ramp _ => .ramp
  | .soak _ => .soak
  | .cool _ _ _ => .cool
  | .release => .release

end Sys2Proof.Machine
end

