-- ==== Sys2Proof/Machine/Operands.lean ====
section
/-!
DEFINITION. The fields of a request payload: the presence mask and the widths of R183, the values of R184, the
enumerated values and sets of R185, and the clamping of a numeric field (chapter 0, R74).
-/

namespace Sys2Proof.Machine

open Sys2Proof

/-! ## Reading the payload -/

/-- The fields of a request as its mask gives them (R183): for each field its bytes, where it is given, and whether
the mask marks a field that the request does not take. -/
structure Fields where
  values : List (Option (List Byte))
  extra : Bool
deriving DecidableEq, Repr

/-- The values of the fields a mask marks given, in order, with nothing left over (R183). -/
def takeFields : List Nat → Nat → List Byte → Option (List (Option (List Byte)))
  | [], _, [] => some []
  | [], _, _ => none
  | w :: ws, mask, bytes =>
    if mask % 2 = 1 then
      if w ≤ bytes.length then
        (takeFields ws (mask / 2) (bytes.drop w)).map (some (bytes.take w) :: ·)
      else none
    else (takeFields ws (mask / 2) bytes).map (none :: ·)

/-- The fields of a payload for a request with fields of these widths, none where R183 refuses it with LENGTH. -/
def readFields (widths : List Nat) (payload : List Byte) : Option Fields :=
  match widths, payload with
  | [], [] => some ⟨[], false⟩
  | [], _ => none
  | ws, b0 :: b1 :: rest =>
    let mask := b0.toNat + 256 * b1.toNat
    (takeFields ws mask rest).map fun v => ⟨v, decide (mask / 2 ^ ws.length ≠ 0)⟩
  | _, _ => none

/-- A number carried least significant byte first (R184). -/
def leNat : List Byte → Nat
  | [] => 0
  | b :: bs => b.toNat + 256 * leNat bs

/-- A two-byte number in two's complement (R184). -/
def leInt16 (bytes : List Byte) : Int := (BitVec.ofNat 16 (leNat bytes)).toInt

namespace Fields

/-- The bytes of a field, where it is given. -/
def bytes (f : Fields) (i : Nat) : Option (List Byte) := (f.values[i]?).getD none

/-- A field as an unsigned number. -/
def nat (f : Fields) (i : Nat) : Option Nat := (f.bytes i).map leNat

/-- A field as a signed number. -/
def int (f : Fields) (i : Nat) : Option Int := (f.bytes i).map leInt16

/-- A field is given. -/
def given (f : Fields) (i : Nat) : Bool := (f.bytes i).isSome

/-- A required enumerated field: none when it is missing or undefined. -/
def enum {α : Type} (f : Fields) (i : Nat) (of : Nat → Option α) : Option α := (f.nat i).bind of

end Fields

/-- A yes or no field: 1 is yes, 0 is no, anything else is undefined (R184). -/
def boolOf : Nat → Option Bool
  | 0 => some false
  | 1 => some true
  | _ => none

/-- An optional yes or no field, no when it is absent, and none when it is undefined (R67, R88). -/
def optionalBool : Option Nat → Option Bool
  | none => some false
  | some n => boolOf n

/-- A set of cavity elements from its byte; a bit beyond RING names an undefined member (R184, R185). -/
def elementSetOf (n : Nat) : Option ElementSet :=
  if n < 8 then some ⟨n % 2 = 1, n / 2 % 2 = 1, n / 4 % 2 = 1⟩ else none

/-! ## Clamping -/

/-- A value taken at the nearer end of its range, and whether it was outside. -/
structure Clamped (α : Type) where
  value : α
  clamped : Bool
deriving DecidableEq, Repr

def clampField (x lo hi : Int) : Clamped Int := ⟨clampInt x lo hi, decide (x < lo) || decide (hi < x)⟩

def clampNat (x lo hi : Nat) : Clamped Nat :=
  ⟨if x < lo then lo else if hi < x then hi else x, decide (x < lo) || decide (hi < x)⟩

/-- An optional numeric field with its range. -/
def clampOptional (x : Option Nat) (lo hi : Nat) : Clamped (Option Nat) :=
  match x with
  | some n => ⟨some (clampNat n lo hi).value, (clampNat n lo hi).clamped⟩
  | none => ⟨none, false⟩

/-- An optional numeric field with its default; the filling of a default is not a clamp (R76). -/
def clampDefault (x : Option Nat) (lo hi dflt : Nat) : Clamped Nat :=
  match x with
  | some n => clampNat n lo hi
  | none => ⟨dflt, false⟩

/-! ## The widths of the fields of each request (R183, R184) -/

def noFields : List Nat := []
/-- One enumerated field: the cavity, the section or the channel. -/
def oneByteField : List Nat := [1]
/-- Cavity, band number, limit, enabled, door policy, fan floor, permitted elements, catalyst requirement. -/
def writeBandFields : List Nat := [1, 1, 2, 1, 1, 1, 1, 1]
def readBandFields : List Nat := [1, 1]
def setElementFields : List Nat := [1, 2]
def setBudgetFields : List Nat := [2]
/-- The fields of a record in the order of R73: kind, target, rate, duration, tolerance, time limit, elements,
bias, proportional band, fan level. -/
def recordFields : List Nat := [1, 2, 2, 2, 2, 2, 1, 1, 2, 1]
def appendFields : List Nat := 1 :: recordFields
def replaceFields : List Nat := 1 :: 1 :: recordFields
def readSegmentFields : List Nat := [1, 1]
def startFields : List Nat := [1, 1]
def unlockFields : List Nat := [1, 1]

/-! ## The segment record of a request (R73 to R76) -/

/-- The fields of a record, from position `i` of the request's fields. -/
structure RawRecord where
  kind : Option SegmentKind
  target : Option Int
  rate : Option Nat
  duration : Option Nat
  tolerance : Option Nat
  timeLimit : Option Nat
  elements : Option (Option ElementSet)
  bias : Option Nat
  band : Option Nat
  fanLevel : Option Nat
deriving DecidableEq, Repr

def rawRecord (f : Fields) (i : Nat) : RawRecord :=
  { kind := f.enum i segmentKindOf, target := f.int (i + 1), rate := f.nat (i + 2),
    duration := f.nat (i + 3), tolerance := f.nat (i + 4), timeLimit := f.nat (i + 5),
    elements := (f.nat (i + 6)).map elementSetOf, bias := f.nat (i + 7), band := f.nat (i + 8),
    fanLevel := f.nat (i + 9) }

/-- A well-formed elements field: given, with defined members, and at least one (R75). -/
def goodElements (x : Option (Option ElementSet)) : Option ElementSet :=
  match x with
  | some (some e) => if e = .empty then none else some e
  | _ => none

/-- No field is given that the kind does not have (R74). -/
def onlyItsFields (r : RawRecord) : SegmentKind → Bool
  | .engage => r.target.isNone && r.rate.isNone && r.duration.isNone && r.tolerance.isNone
      && r.timeLimit.isNone && r.elements.isNone && r.bias.isNone && r.band.isNone && r.fanLevel.isNone
  | .release => r.target.isNone && r.rate.isNone && r.duration.isNone && r.tolerance.isNone
      && r.timeLimit.isNone && r.elements.isNone && r.bias.isNone && r.band.isNone && r.fanLevel.isNone
  | .catalyst => r.rate.isNone && r.duration.isNone && r.tolerance.isNone && r.elements.isNone
      && r.bias.isNone && r.band.isNone && r.fanLevel.isNone
  | .ramp => r.duration.isNone && r.tolerance.isNone && r.fanLevel.isNone
  | .soak => r.rate.isNone && r.fanLevel.isNone
  | .cool => r.rate.isNone && r.duration.isNone && r.tolerance.isNone && r.elements.isNone
      && r.bias.isNone && r.band.isNone

def clampTarget (t : Int) : Clamped Int := clampField t 0 5500
def clampLimit (x : Option Nat) : Clamped (Option Nat) := clampOptional x 60 21600
def clampRate (x : Option Nat) : Clamped (Option Nat) := clampOptional x 1 300
def clampDuration (x : Nat) : Clamped Nat := clampNat x 60 14400
def clampTolerance (x : Option Nat) : Clamped Nat := clampDefault x 20 300 100
def clampBias (x : Option Nat) : Clamped Nat := clampDefault x 0 16 4
def clampBand (x : Option Nat) : Clamped Nat := clampDefault x 50 1000 200
def clampFanLevel (x : Option Nat) : Clamped Nat := clampDefault x 0 3 3

/-- The completed RAMP record (R73, R76). -/
def completeRamp (r : RawRecord) (t : Int) (e : ElementSet) : Clamped SegmentRecord :=
  let target := clampTarget t
  let rate := clampRate r.rate
  let limit := clampLimit r.timeLimit
  let bias := clampBias r.bias
  let band := clampBand r.band
  ⟨.ramp { target := target.value, rate := rate.value, timeLimit := limit.value, elements := e,
           bias := bias.value, band := band.value },
    target.clamped || rate.clamped || limit.clamped || bias.clamped || band.clamped⟩

/-- The completed SOAK record (R73, R76). -/
def completeSoak (r : RawRecord) (t : Int) (d : Nat) (e : ElementSet) : Clamped SegmentRecord :=
  let target := clampTarget t
  let duration := clampDuration d
  let tolerance := clampTolerance r.tolerance
  let limit := clampLimit r.timeLimit
  let bias := clampBias r.bias
  let band := clampBand r.band
  ⟨.soak { target := target.value, duration := duration.value, tolerance := tolerance.value,
           timeLimit := limit.value, elements := e, bias := bias.value, band := band.value },
    target.clamped || duration.clamped || tolerance.clamped || limit.clamped || bias.clamped
      || band.clamped⟩

/-- The record of a kind, clamped and filled with its defaults, or none where R74 or R75 refuses it. -/
def completeKind (r : RawRecord) (k : SegmentKind) : Option (Clamped SegmentRecord) :=
  match k with
  | .engage => some ⟨.engage, false⟩
  | .release => some ⟨.release, false⟩
  | .catalyst =>
    match r.target with
    | some t =>
      some ⟨.catalyst (clampTarget t).value (clampLimit r.timeLimit).value,
        (clampTarget t).clamped || (clampLimit r.timeLimit).clamped⟩
    | none => none
  | .ramp =>
    match r.target, goodElements r.elements with
    | some t, some e => some (completeRamp r t e)
    | _, _ => none
  | .soak =>
    match r.target, r.duration, goodElements r.elements with
    | some t, some d, some e => some (completeSoak r t d e)
    | _, _, _ => none
  | .cool =>
    match r.target with
    | some t =>
      some ⟨.cool (clampTarget t).value (clampLimit r.timeLimit).value (clampFanLevel r.fanLevel).value,
        (clampTarget t).clamped || (clampLimit r.timeLimit).clamped || (clampFanLevel r.fanLevel).clamped⟩
    | none => none

/-- A record as R74 to R76 judge, clamp and complete it; none is BAD_FIELD. -/
def completeRecord (r : RawRecord) : Option (Clamped SegmentRecord) :=
  match r.kind with
  | some k => if onlyItsFields r k then completeKind r k else none
  | none => none

end Sys2Proof.Machine
end

