-- ==== Sys2Proof/Machine/Replies.lean ====
section
/-!
DEFINITION. Replies: the presence mask and the values of a reply payload (R184, R186), the items of each reply, the
bytes of a reply frame (R176), and the operations that take a request frame and send its reply (R175 to R179).
-/

namespace Sys2Proof.Machine

open Sys2Proof

/-! ## Encoding (R184, R186) -/

/-- An item of a reply payload: its bytes, where it is present. -/
abbrev Item := Option (List Byte)

def u8 (n : Nat) : List Byte := [BitVec.ofNat 8 n]
def u16 (n : Nat) : List Byte := [BitVec.ofNat 8 n, BitVec.ofNat 8 (n / 256)]
def u32 (n : Nat) : List Byte :=
  [BitVec.ofNat 8 n, BitVec.ofNat 8 (n / 256), BitVec.ofNat 8 (n / 65536), BitVec.ofNat 8 (n / 16777216)]
def s16 (x : Int) : List Byte := u16 (BitVec.ofInt 16 x).toNat
def flag (b : Bool) : List Byte := u8 (if b then 1 else 0)

/-- The number whose bits, least significant first, are these. -/
def bitsNat : List Bool → Nat
  | [] => 0
  | b :: bs => (if b then 1 else 0) + 2 * bitsNat bs

/-- A number in so many bytes, least significant first. -/
def leBytes : Nat → Nat → List Byte
  | 0, _ => []
  | k + 1, n => BitVec.ofNat 8 n :: leBytes k (n / 256)

/-- Bits packed eight to a byte, the first in bit 0 of the first byte. -/
def packBits (bits : List Bool) : List Byte := leBytes ((bits.length + 7) / 8) (bitsNat bits)

/-- A set: one bit for each possible member (R184). -/
def setBytes (members : List Bool) : List Byte := packBits members

/-- A presence mask followed by the values of the items present (R186). -/
def encodeItems (items : List Item) : List Byte :=
  packBits (items.map Option.isSome) ++ (items.map (·.getD [])).flatten

/-- An item that is always there. -/
def here (bytes : List Byte) : Item := some bytes

/-! ## The items of each reply (R186) -/

def elementSetBits (e : ElementSet) : List Bool := [e.top, e.bottom, e.ring]

/-- The six fields of a band record in the order of R33. -/
def bandItems (r : BandRecord) : List Item :=
  [here (s16 r.limit), here (flag r.enabled), here (u8 (policyCode r.policy)), here (u8 r.fanFloor),
   here (setBytes (elementSetBits r.permitted)), here (u8 (catRequirementCode r.catRequirement))]

/-- The fields of a segment record in the order of R73, kind first; a field that the kind does not have, and an
optional one that is absent, is not present. -/
def segmentItems (r : SegmentRecord) : List Item :=
  let k := here (u8 (segmentKindCode r.kind))
  match r with
  | .engage => [k, none, none, none, none, none, none, none, none, none]
  | .release => [k, none, none, none, none, none, none, none, none, none]
  | .catalyst t l => [k, here (s16 t), none, none, none, l.map u16, none, none, none, none]
  | .ramp x =>
    [k, here (s16 x.target), x.rate.map u16, none, none, x.timeLimit.map u16,
     here (setBytes (elementSetBits x.elements)), here (u8 x.bias), here (u16 x.band), none]
  | .soak x =>
    [k, here (s16 x.target), none, here (u16 x.duration), here (u16 x.tolerance), x.timeLimit.map u16,
     here (setBytes (elementSetBits x.elements)), here (u8 x.bias), here (u16 x.band), none]
  | .cool t l level => [k, here (s16 t), none, none, none, l.map u16, none, none, none, here (u8 level)]

/-- No record: its ten items absent. -/
def noRecordItems : List Item := List.replicate 10 none

/-- The reply to a program request that was carried out: index, record, count (R79, R80, R82, R83). -/
def programItems (index : Nat) (r : SegmentRecord) (count : Nat) : List Item :=
  here (u8 index) :: segmentItems r ++ [here (u8 count)]

/-- The reply to a program request refused at steps 2 to 4: the count alone (R83). -/
def countOnlyItems (count : Nat) : List Item := none :: noRecordItems ++ [here (u8 count)]

/-- The items of an outcome record (R115, R186), all absent where there is no record. -/
def outcomeItems : Option OutcomeRecord → List Item
  | none => List.replicate 7 none
  | some o =>
    [here (u8 (cycleResultCode o.outcome)), here (u8 o.segmentIndex), here (u8 (conditionCode o.condition)),
     o.peakF.map s16, here (u32 o.cycleSeconds), here (u32 o.soakSeconds), here (u8 (lockStateCode o.lockState))]

/-- The channel or element an event names (R169). -/
def subjectCode : FaultSubject → Nat
  | .channel ch => channelCode ch
  | .element e => elementCode e

/-- The nine fields of an event record in the order of R169: kind, cavity, segment index, outcome, condition, fault
code, channel or element, lock state, stamp. -/
def eventItems (r : EventRecord) : List Item :=
  let stamp := here (u32 r.stamp.toNat)
  let cav := fun (c : Cavity) => here (u8 (cavityCode c))
  match r.body with
  | .segmentEnded c i k => [here (u8 0), cav c, here (u8 i), none, here (u8 (conditionCode k)), none, none, none, stamp]
  | .cycleEnded c o k =>
    [here (u8 1), cav c, none, here (u8 (cycleResultCode o)), here (u8 (conditionCode k)), none, none, none, stamp]
  | .faultRaised c k x =>
    [here (u8 2), c.bind cav, none, none, none, here (u8 (faultCodeNumber k)), x.map fun y => u8 (subjectCode y),
     none, stamp]
  | .faultCleared c k x =>
    [here (u8 3), c.bind cav, none, none, none, here (u8 (faultCodeNumber k)), x.map fun y => u8 (subjectCode y),
     none, stamp]
  | .lockChanged c l => [here (u8 4), cav c, none, none, none, none, none, here (u8 (lockStateCode l)), stamp]
  | .ready => [here (u8 5), none, none, none, none, none, none, none, stamp]

/-- The payload of a READ EVENTS reply: the count left, the number carried, each record in turn (R186). -/
def readEventsPayload (left : Nat) (records : List EventRecord) : List Byte :=
  u8 left ++ u8 records.length ++ (records.map fun r => encodeItems (eventItems r)).flatten

namespace State

/-- IDENTIFY (R180). -/
def identifyItems (s : State) : List Item :=
  [here (u16 Config.vendorCode.toNat), here (u16 Config.partCode.toNat),
   here (u8 Config.siliconRevision.toNat), here (u8 (s.link.nodeAddress.val + 1)),
   here (flag s.sup.readiness), here (flag s.tables.frozen)]

/-- The setpoint while the current segment is a RAMP or a SOAK (R86). -/
def shownSetpoint (s : State) (c : Cavity) : Option Int :=
  match s.currentRecord c with
  | some (.ramp _) => (s.engine c).setpoint
  | some (.soak _) => (s.engine c).setpoint
  | _ => none

/-- Soak remaining while the current segment is a SOAK (R86). -/
def shownSoak (s : State) (c : Cavity) : Option Nat :=
  match s.currentRecord c with
  | some (.soak _) => (s.engine c).soakRemaining
  | _ => none

/-- A filtered switch or sense level, where it is present. -/
def levelItem (x : Option Bool) : Item := x.map flag

/-- CAVITY STATUS (R52, R86, R160, R180, R186). -/
def cavityItems (s : State) (c : Cavity) : List Item :=
  let e := s.engine c
  let l := s.lock c
  [here (u8 (engineStateCode e.state)), e.segmentIndex.map u8,
   (s.currentRecord c).map fun r => u8 (segmentKindCode r.kind), here (u32 e.segmentElapsed),
   (s.shownSoak c).map u16, (s.shownSetpoint c).map s16, e.holdCount.map u16,
   (s.f (.cav c)).map s16, (s.f (.cat c)).map s16, ((s.rateOf c).rate).map s16,
   here (u8 (bandCode (s.bandNow c))), here (u8 (lockStateCode l.state)),
   here (u8 (releasePendingCode l.releasePending)), here (u8 (motorCode l.motor)),
   levelItem l.levels.doorShut, levelItem l.levels.latchHome, levelItem l.levels.latchSet,
   here (setBytes (s.activeFaults c))]

/-- PLANT STATUS, CHANNELS (R180, R186). -/
def channelsItems (s : State) : List Item :=
  (allChannels.map fun ch =>
    let e := s.channel ch
    [here (u8 (channelStateCode e.state)), e.cause.map fun x => u8 (failCauseCode x), e.f.map s16]).flatten

/-- PLANT STATUS, PLAN (R123, R180, R186). -/
def planItems (s : State) : List Item :=
  [here (u16 s.alloc.budgetInForce), here (u16 s.tables.budgetSet), here (u8 (cavityCode s.alloc.lead))]
    ++ (allElements.map fun e =>
      [here (u16 (s.rating e)), here (u8 (s.alloc.grants.get e).count)]).flatten

/-- PLANT STATUS, SLOTS (R123, R186). -/
def slotsItems (s : State) : List Item := windowSlots.map fun k => here (u16 (s.slotSum k))

/-- The visit list as a set of relays (R185). -/
def visitBits (s : State) : List Bool := allRelays.map fun r => s.drive.test.visitList.contains r

/-- The drive state of an element; the master has none (R136, R186). -/
def driveItem (s : State) : Relay → Item
  | .element e => here (flag (s.drive.driveState.get e))
  | .master => none

/-- PLANT STATUS, RELAYS (R136, R146, R186). -/
def relaysItems (s : State) : List Item :=
  (allRelays.map fun r =>
    [here (u8 (healthCode (s.relay r).health)), s.driveItem r, levelItem (s.relay r).sense]).flatten
    ++ [here (u8 (testStateCode s.drive.test.state)), here (u8 (testOriginCode s.drive.test.origin)),
        here (setBytes s.visitBits), s.drive.test.step.map fun x => u8 (relayCode x.relay),
        s.drive.test.step.map fun x => flag x.reading.isSome]
    ++ allRelays.map fun r => here (u8 (testResultCode (s.drive.test.results.get r)))

/-- PLANT STATUS, PLANT (R160, R180, R186). -/
def plantItems (s : State) : List Item :=
  let i := s.sup.inhibit
  [here (u8 s.fan.level), here (u8 (watchCode s.fan.watch)), here (flag s.fan.frontHotDemand),
   here (flag s.fan.frontHotInhibit), here (flag s.sup.readiness), here (flag s.sup.driveEnable),
   here (setBytes [i.driveOff, i.fanStall, i.frontFailed, i.frontHot]), here (setBytes s.systemFaults),
   here (flag s.sup.trip)]

/-- The items of one section of PLANT STATUS (R180). -/
def sectionItems (s : State) : Section → List Item
  | .channels => s.channelsItems
  | .plan => s.planItems
  | .slots => s.slotsItems
  | .relays => s.relaysItems
  | .plant => s.plantItems

/-- The lock items of a LOCK or UNLOCK reply (R67). -/
def lockItems (s : State) (c : Cavity) : List Item :=
  [here (u8 (lockStateCode (s.lock c).state)), here (u8 (releasePendingCode (s.lock c).releasePending))]

end State

/-- The items of a sample result (R18): R unless the class is REFERENCE, T with TEMPERATURE, the qualifier where T
was clamped. -/
def sampleItems (ch : Channel) (rtd ref : BitVec 16) (r : ConvResult) : List Item :=
  [here (u8 (channelCode ch)), here (u16 rtd.toNat), here (u16 ref.toNat), here (u8 (classCode r.cls)),
   r.resistance.map u16, r.temperature.map s16, r.qualifier.map fun q => u8 (qualifierCode q)]

/-! ## The reply frame (R176) -/

/-- The attention flags as a byte (R176). -/
def AttentionFlags.byte (x : AttentionFlags) : Byte :=
  BitVec.ofNat 8 (bitsNat [x.eventsPending, x.eventsLost, x.collisionSeen, x.faultActive, x.notReady, x.trip])

/-- Byte 2 of a reply: the reason code, 0 with DONE, and CLAMPED in bit 7 (R176). -/
def Reply.reasonByte (r : Reply) : Byte :=
  BitVec.ofNat 8 ((match r.reason with
    | some x => reasonCode x
    | none => 0) + (if r.clamped then 128 else 0))

/-- The bytes of a reply before its check byte (R176). -/
def Reply.checked (r : Reply) : List Byte :=
  (if r.reason.isSome then 1 else 0) :: r.reasonByte :: r.flags.byte
    :: BitVec.ofNat 8 r.payload.length :: r.payload

/-- The bytes of a reply on the line (R174, R176). -/
def Reply.bytes (r : Reply) : List Byte := r.checked ++ [crc8 r.checked]

/-! ## Taking a request and answering it -/

/-- What an owning block answers to a request: DONE where `reason` is absent. `clearsLost` marks the reply of READ
EVENTS, whose capture of EVENTS_LOST clears it (R178). -/
structure Answer where
  reason : Option Reason
  clamped : Bool
  payload : List Byte
  clearsLost : Bool := false
deriving DecidableEq, Repr

/-- DONE with these items. -/
def doneWith (items : List Item) : Answer := { reason := none, clamped := false, payload := encodeItems items }

/-- DONE with no payload. -/
def doneEmpty : Answer := { reason := none, clamped := false, payload := [] }

/-- REFUSED with no payload (R179). -/
def refuse (r : Reason) : Answer := { reason := some r, clamped := false, payload := [] }

/-- REFUSED with a payload that the owning rule gives it (R67, R83). -/
def refuseWith (r : Reason) (items : List Item) : Answer :=
  { reason := some r, clamped := false, payload := encodeItems items }

/-- DONE with CLAMPED where a field was clamped. -/
def doneClamped (clamped : Bool) (items : List Item) : Answer :=
  { reason := none, clamped := clamped, payload := encodeItems items }

namespace State

/-- Any edge on the line while the transmitter waits for a sample is a collision: the reply is abandoned (R177). -/
def edgeOnLine (s : State) : State :=
  if s.link.transmitter = .waitingSample then
    s.setLink { s.link with transmitter := .idle, collisionSeen := true }
  else s

/-- The end of a frame: the receiver returns to WAIT_BREAK (R173, R175). -/
def endOfFrame (s : State) : State :=
  let s1 := s.edgeOnLine
  s1.setLink { s1.link with receiver := .waitBreak }

/-- The reply is built with the flags as they stand and handed to the transmitter. COLLISION_SEEN is cleared at its
capture, and EVENTS_LOST at its capture into a READ EVENTS reply (R176, R178, R179). -/
def sendReply (a : Answer) (s : State) : State :=
  s.setLink { s.link with
    transmitter := .sending ⟨a.reason, a.clamped, s.attentionFlags, a.payload⟩
    collisionSeen := false
    eventsLost := s.link.eventsLost && !a.clearsLost }

/-- In LINE_FAULT the receiver takes nothing from the line (R171). -/
def lineDead (s : State) : Bool := decide (s.link.receiver = .lineFault)

/-- The acceptance of a request under the node's own address (R175, R179): its payload is read as the request's
fields or refused with LENGTH, the owning block answers, and the reply is built from the state as it then stands. -/
def serve (finish : State → State) (widths : List Nat) (payload : List Byte)
    (owner : Fields → State → State × Answer) (s : State) : State :=
  if s.lineDead then s
  else
    match readFields widths payload with
    | none => s.endOfFrame.sendReply (refuse .length)
    | some f =>
      let r := owner f s.endOfFrame
      (finish r.1).sendReply r.2

/-- A request that may change the part. -/
def takeRequest (widths : List Nat) (payload : List Byte) (owner : Fields → State → State × Answer)
    (s : State) : State := serve close widths payload owner s

/-- A request that only reads (R179): its owner gives the answer alone. -/
def readRequest (widths : List Nat) (payload : List Byte) (owner : Fields → State → Answer)
    (s : State) : State := serve id widths payload (fun f s => (s, owner f s)) s

end State

/-! ## Field checks that several requests share -/

/-- The value of a request's only field, required and enumerated: none, which is BAD_FIELD, when it is missing or
undefined, or when the mask marks a field that the request does not take (R183). -/
def onlyEnum {α : Type} (of : Nat → Option α) (f : Fields) : Option α :=
  if f.extra then none else f.enum 0 of

/-- The cavity of a request with that field alone. -/
def onlyCavity (f : Fields) : Option Cavity := onlyEnum cavityOf f

/-- A request for one cavity: BAD_FIELD, or what the operation answers for the cavity. -/
def forCavity (op : Cavity → State → State × Answer) (f : Fields) (s : State) : State × Answer :=
  match onlyCavity f with
  | some c => op c s
  | none => (s, refuse .badField)

end Sys2Proof.Machine
end

