-- ==== Sys2Proof/Machine/CycleRequests.lean ====
section
/-!
DEFINITION. The Cycle Engine's requests: START (R88, R89), PAUSE (R105), RESUME (R107), STEP (R109), ABORT (R111) and
ALL STOP (R181).
-/

namespace Sys2Proof.Machine

open Sys2Proof

/-- The targets of the RAMP and SOAK segments of a program (R89). -/
def heatTargets (p : List SegmentRecord) : List Int :=
  p.filterMap fun r =>
    match r with
    | .ramp x => some x.target
    | .soak x => some x.target
    | _ => none

/-- The ceiling of a program (R89): the highest RAMP or SOAK target plus 300, or 6000 with no such segment. -/
def ceilingOf (p : List SegmentRecord) : Int :=
  match heatTargets p with
  | [] => 6000
  | t :: ts => ts.foldl max t + 300

namespace State

/-- The items START sets before it judges the channel (R89, steps 1 to 5). -/
def startItems (c : Cavity) (singleStep : Bool) (s : State) : State :=
  let s1 := s.modEngine c fun e => { e with
    state := .running, singleStep := singleStep, ceiling := some (ceilingOf (s.program c)),
    cycleSeconds := 0, soakSeconds := 0, recorded := none, peakF := s.f (.cav c), secondTimer := some 0 }
  setLock c (LockCtl.dropHostRequests (s1.lock c)) (setTableLock c true s1)

/-- The cycle ends against segment 1 without its entry actions (R89, step 6). -/
def failFirst (c : Cavity) (k : Condition) (s : State) : State :=
  abortCycle c k (s.modEngine c fun e => { e with segmentIndex := some 1 })

/-- A START that is carried out (R89). -/
def startCycle (c : Cavity) (singleStep : Bool) (s : State) : State :=
  let s1 := s.startItems c singleStep
  if !s1.isValid (.cav c) then failFirst c .sensorLost s1
  else if s1.overCeiling c then failFirst c .overshoot s1
  else runFrom c (s1.program c) 1 s1

/-- The reason for which START is refused (R88, steps 2 to 6). -/
def startRefusal (c : Cavity) (s : State) : Option Reason :=
  if (s.engine c).state ≠ .idle then some .notIdle
  else if !s.sup.readiness then some .notReady
  else if s.testing then some .busy
  else if (s.program c).isEmpty then some .empty
  else if s.cavityBlocked c || s.systemBlocked then some .fault
  else none

end State

/-- START in the order of R88. -/
def startAnswer (f : Fields) (s : State) : State × Answer :=
  match f.enum 0 cavityOf, optionalBool (f.nat 1) with
  | some c, some single =>
    if f.extra then (s, refuse .badField)
    else
      match s.startRefusal c with
      | some r => (s, refuse r)
      | none => (s.startCycle c single, doneWith [here (u16 (ceilingOf (s.program c)).toNat)])
  | _, _ => (s, refuse .badField)

def execStart (payload : List Byte) (s : State) : Host.Outcome State Fault Refusal :=
  .next (s.takeRequest startFields payload startAnswer)

/-- The current segment waits on the latch: ENGAGE or RELEASE (R105). -/
def waitsOnLatch : Option SegmentRecord → Bool
  | some .engage => true
  | some .release => true
  | _ => false

/-- A PAUSE that is taken (R105). -/
def pauseCycle (c : Cavity) (s : State) : State :=
  State.announce (s.modEngine c fun e => { e with
    state := .paused, holdCount := some 1800, catalyst := State.suspend e.catalyst })

/-- PAUSE (R105). -/
def pauseAnswer (c : Cavity) (s : State) : State × Answer :=
  if (s.engine c).state = .running then
    if waitsOnLatch (s.currentRecord c) then (s, refuse .busy) else (pauseCycle c s, doneEmpty)
  else (s, refuse .notRunning)

def execPause (payload : List Byte) (s : State) : Host.Outcome State Fault Refusal :=
  .next (s.takeRequest oneByteField payload (forCavity pauseAnswer))

/-- The engine is RUNNING again in the same segment, before the judgement (R107). -/
def resumeItems (c : Cavity) (s : State) : State :=
  State.announce (s.modEngine c fun e => { e with
    state := .running, holdCount := none, undershootCount := 0,
    catalyst := State.unsuspend e.catalyst })

/-- RESUME (R107). -/
def resumeAnswer (c : Cavity) (s : State) : State × Answer :=
  if (s.engine c).state = .paused then (State.judge c {} (resumeItems c s), doneEmpty)
  else (s, refuse .notRunning)

def execResume (payload : List Byte) (s : State) : Host.Outcome State Fault Refusal :=
  .next (s.takeRequest oneByteField payload (forCavity resumeAnswer))

/-- A STEP that is taken (R109): the segment at the next index is entered. -/
def stepCycle (c : Cavity) (index : Nat) (s : State) : State :=
  State.runFrom c ((s.program c).drop index) (index + 1)
    (s.modEngine c fun e => { e with
      state := .running, holdCount := none, catalyst := State.unsuspend e.catalyst })

/-- STEP (R109). -/
def stepAnswer (c : Cavity) (s : State) : State × Answer :=
  match (s.engine c).state with
  | .held =>
    let index := (s.engine c).segmentIndex.getD 0
    (stepCycle c index s, doneWith [here (u8 (index + 1))])
  | .running => (s, refuse .busy)
  | .paused => (s, refuse .busy)
  | .idle => (s, refuse .notRunning)
  | .safeCool => (s, refuse .notRunning)

def execStep (payload : List Byte) (s : State) : Host.Outcome State Fault Refusal :=
  .next (s.takeRequest oneByteField payload (forCavity stepAnswer))

/-- ABORT (R111): DONE in every engine state. -/
def abortAnswer (c : Cavity) (s : State) : State × Answer :=
  (State.abortCycle c .hostAbort s, doneEmpty)

def execAbort (payload : List Byte) (s : State) : Host.Outcome State Fault Refusal :=
  .next (s.takeRequest oneByteField payload (forCavity abortAnswer))

/-- ALL STOP on the engines (R181), A before B: log entry 42. -/
def allStop (s : State) : State := forEach cavities (fun c => State.abortCycle c .hostAbort) s

/-- ALL STOP under broadcast (R175, R181): acted on with length 0 and ignored otherwise, without a reply. -/
def broadcastStop (payload : List Byte) (s : State) : State :=
  if s.lineDead then s
  else if payload.isEmpty then (allStop s.endOfFrame).close
  else s.endOfFrame

def execAllStop (broadcast : Bool) (payload : List Byte) (s : State) :
    Host.Outcome State Fault Refusal :=
  .next (if broadcast then broadcastStop payload s
    else s.takeRequest noFields payload fun _ s => (allStop s, doneEmpty))

end Sys2Proof.Machine
end

