-- ==== Sys2Proof/Machine/EngineEvents.lean ====
section
/-!
DEFINITION. The events of the Cycle Engines: the tick (R87), and the four ticks that the table lists by what they
bring: EXPIRED (R105, R108), UNDERSHOOT (R98), STALLED (R101) and SOAK_REMAINING_ZERO (R97). Log entry 10.
-/

namespace Sys2Proof.Machine

open Sys2Proof

namespace State

/-- The next tick takes the pause or hold count to 0 (R105, R108). -/
def expiresNow (s : State) (c : Cavity) : Bool :=
  match (s.engine c).state with
  | .paused | .held => decide ((s.engine c).holdCount.getD 0 ≤ 1)
  | _ => false

/-- The next tick takes the soak remaining of a SOAK to 0 (R97). -/
def soaksOut (s : State) (c : Cavity) : Bool :=
  match s.currentRecord c with
  | some (.soak _) =>
    decide (((runningWork c s).engine c).soakRemaining = some 0) && decide (s.tickEnding c = some .done)
  | _ => false

end State

/-- TICK (R87), when the second timer of the engine has run its second. -/
def execTick (c : Cavity) (s : State) : Host.Outcome State Fault Refusal :=
  .next (if s.tickDue c then (s.tickEngine c).close else s)

/-- EXPIRED (R105, R108): the tick at which the count of PAUSED or HELD reaches 0. -/
def execExpired (c : Cavity) (s : State) : Host.Outcome State Fault Refusal :=
  .next (if s.tickDue c && s.expiresNow c then (s.tickEngine c).close else s)

/-- UNDERSHOOT (R98): the tick at which the undershoot count of a SOAK reaches 600. -/
def execUndershoot (c : Cavity) (s : State) : Host.Outcome State Fault Refusal :=
  .next (if s.tickDue c && decide (s.tickEnding c = some .undershoot) then (s.tickEngine c).close else s)

/-- STALLED (R101): the tick at which the elapsed count reaches the time limit of the segment. -/
def execStalled (c : Cavity) (s : State) : Host.Outcome State Fault Refusal :=
  .next (if s.tickDue c && decide (s.tickEnding c = some .stalled) then (s.tickEngine c).close else s)

/-- SOAK_REMAINING_ZERO (R97): the tick at which the soak remaining reaches 0 and the segment ends DONE. -/
def execSoakRemainingZero (c : Cavity) (s : State) : Host.Outcome State Fault Refusal :=
  .next (if s.tickDue c && s.soaksOut c then (s.tickEngine c).close else s)

end Sys2Proof.Machine
end

