-- ==== Sys2Proof/Machine/FanEvents.lean ====
section
/-!
DEFINITION. The events of the Fan Controller: a tacho pulse, the end of the spin-up grace (R156) and the expiry of
the pulse timer (R157).
-/

namespace Sys2Proof.Machine

open Sys2Proof

namespace State

/-- FAN_STALL is latched, and the Supervisor inhibits heat and aborts both cycles (R157, R163, R167). -/
def fanStalls (s : State) : State :=
  systemFault (post .fan (.faultRaised none .fanStall none) (s.setFan s.fan.stallNow))

/-- The pulse timer has reached its limit in WATCHING (R156): a pulse taken first has started it again. -/
def pulseMissed (s : State) : Bool := decide (s.fan.watch = .watching) && s.pulseDue

end State

/-- TACHO_PULSE (R156): a rising edge of the tacho input. -/
def execTachoPulse (s : State) : Host.Outcome State Fault Refusal := .next (s.setFan s.fan.tachoPulse)

/-- GRACE_TIMER_EXPIRY (R156), at the 3.0 s of the grace timer. -/
def execGraceTimerExpiry (s : State) : Host.Outcome State Fault Refusal :=
  .next (if s.graceDue then s.setFan s.fan.graceExpiry else s)

/-- PULSE_TIMER_EXPIRY (R157), at the 250 ms of the pulse timer in WATCHING. -/
def execPulseTimerExpiry (s : State) : Host.Outcome State Fault Refusal :=
  .next (if s.pulseMissed then s.fanStalls.close else s)

end Sys2Proof.Machine
end

