-- ==== Sys2Proof/Machine/LineEvents.lean ====
section
/-!
DEFINITION. What reaches the line interface beside the requests it can name: a request of no known kind (R175, R182),
a frame that is discarded (R173 to R175), a collision (R177), and the events of the receiver (R171 to R173).
-/

namespace Sys2Proof.Machine

open Sys2Proof

namespace State

/-- The receiver enters a state (R171). -/
def toReceiver (r : Receiver) (s : State) : State := s.setLink { s.link with receiver := r }

/-- The receiver is receiving the bytes of a frame (R173). -/
def receiving (s : State) : Bool :=
  match s.link.receiver with
  | .receiving _ => true
  | _ => false

/-- The part's own node address, 1 to 4 (R175). -/
def node (s : State) : Nat := s.link.nodeAddress.val + 1

/-- A reply handed to the transmitter is over once the line master opens a new frame: had it still been going out,
the low would have collided with it first (R177). Log entry 15. -/
def replyOver (s : State) : State :=
  match s.link.transmitter with
  | .sending _ => s.setLink { s.link with transmitter := .idle }
  | _ => s

end State

/-- A request under the node's own address whose kind byte names no request: UNKNOWN, without effect (R175, R182). A
kind byte that names a request is not this event. -/
def execUnknownRequest (kind : Byte) (_payload : List Byte) (s : State) :
    Host.Outcome State Fault Refusal :=
  .next (if s.lineDead || namesRequest kind then s else s.endOfFrame.sendReply (refuse .unknown))

/-- A frame whose check fails, that is another node's, or a broadcast that is ignored: no effect and no reply, and the
receiver returns to WAIT_BREAK (R174, R175). A frame that is a request to this part is not this event. -/
def execFrameDiscarded (frame : List Byte) (s : State) : Host.Outcome State Fault Refusal :=
  .next (if s.lineDead then s
    else if frameCommand s.node frame = .frameDiscarded frame then s.endOfFrame else s)

/-- A low reaches 1.2 ms: a break, in every receiver state but LINE_FAULT, and the low timer stands at 1.2 ms (R171).
Its falling edge has collided with a sample reply that waits (R177). Log entry 41. -/
def execLineBreak (s : State) : Host.Outcome State Fault Refusal :=
  .next (if s.lineDead then s else s.edgeOnLine.replyOver.toReceiver (.inBreak 12))

/-- A low reaches 20 ms: the break is a line fault (R171). With a shorter low there is no such event (log entry 2). -/
def execLineFault (s : State) : Host.Outcome State Fault Refusal :=
  .next (if s.lineFaultDue then s.toReceiver .lineFault else s)

/-- A collision: a low read back where the part sent high, or a falling edge while a sample reply waits. The reply is
abandoned and COLLISION_SEEN is set (R177). -/
def execCollision (s : State) : Host.Outcome State Fault Refusal :=
  .next (if s.link.transmitter = .idle then s
    else s.setLink { s.link with transmitter := .idle, collisionSeen := true })

/-- The line goes high in IN_BREAK with the low between 1.2 ms and 20 ms: PACING (R171). A low of 20 ms or more is a
line fault, which another event ends (log entry 2). -/
def execBreakEnd (s : State) : Host.Outcome State Fault Refusal :=
  .next (if s.breakHolds then s.toReceiver .pacing else s)

/-- The line goes high in LINE_FAULT: WAIT_BREAK, and no frame starts (R171). -/
def execLineFaultEnd (s : State) : Host.Outcome State Fault Refusal :=
  .next (if s.link.receiver = .lineFault then s.toReceiver .waitBreak else s)

/-- A pacing span in units of 0.1 µs lies from 83.3 µs to 555.6 µs (R172). Log entry 13. -/
def goodSpan (span : Nat) : Bool := decide (833 ≤ span) && decide (span ≤ 5556)

/-- The pacing character in PACING (R172): a good span with a high stop bit enters RECEIVING with a fifth of the span
as bit time; a short or long span is ignored and a low stop bit discards the frame. -/
def execPacingCharacter (span : Nat) (stopBitHigh : Bool) (s : State) :
    Host.Outcome State Fault Refusal :=
  .next (if s.link.receiver = .pacing then
      if goodSpan span && stopBitHigh then s.toReceiver (.receiving span) else s.toReceiver .waitBreak
    else s)

/-- No second falling edge 555.6 µs after the first (R172). -/
def execPacingTimeout (s : State) : Host.Outcome State Fault Refusal :=
  .next (if s.link.receiver = .pacing then s.toReceiver .waitBreak else s)

/-- The line stays high for more than 3 bit times between two bytes of a frame (R173). -/
def execByteGapTimeout (s : State) : Host.Outcome State Fault Refusal :=
  .next (if s.receiving then s.toReceiver .waitBreak else s)

/-- What ends a frame at once is a low stop bit or a length byte above 24 (R173). -/
def realFraming : FramingCause → Bool
  | .stopBitLow => true
  | .lengthByte n => decide (24 < n.toNat)

/-- A framing error in RECEIVING: the frame is discarded without a reply (R173). -/
def execFramingError (cause : FramingCause) (s : State) : Host.Outcome State Fault Refusal :=
  .next (if s.receiving && realFraming cause then s.toReceiver .waitBreak else s)

end Sys2Proof.Machine
end

