-- ==== Sys2Proof/Machine/LockEvents.lean ====
section
/-!
DEFINITION. The events of the Door Lock Controllers: a change of a filtered switch level (R51, R54) and the expiry
of a motion timer (R53).
-/

namespace Sys2Proof.Machine

open Sys2Proof

namespace State

/-- A switch input stands at a level. -/
def setSwitchPin (c : Cavity) (sw : Switch) (level : Bool) (s : State) : State :=
  s.setPins { s.pins with
    switches := s.pins.switches.set c ((s.pins.switches.get c).set sw ⟨level, level⟩) }

/-- A filtered level of a switch changes (R51, R54 to R65). -/
def switchMoves (c : Cavity) (sw : Switch) (level : Bool) (s : State) : State :=
  lockEvent c (LockCtl.switchChange (s.policy c) sw level (s.lock c)) (s.setSwitchPin c sw level)

/-- A motion timer expires (R53, R56, R57, R60). -/
def motionExpires (c : Cavity) (s : State) : State :=
  lockEvent c (LockCtl.motionExpiry (s.lock c)) s

end State

/-- SWITCH_LEVEL_CHANGE (R51): a level other than the one recorded, or the first. -/
def execSwitchLevelChange (c : Cavity) (sw : Switch) (level : Bool) (s : State) :
    Host.Outcome State Fault Refusal :=
  .next (if (s.lock c).levels.get sw = some level then s else (s.switchMoves c sw level).close)

/-- MOTION_TIMER_EXPIRY (R53), at the 3.0 s of the motion in progress: a new motion or direction taken first has
started the timer again, and no expiry follows. -/
def execMotionTimerExpiry (c : Cavity) (s : State) : Host.Outcome State Fault Refusal :=
  .next (if s.motionDue c then (s.motionExpires c).close else s)

end Sys2Proof.Machine
end

