-- ==== Sys2Proof/Machine/LockRequests.lean ====
section
/-!
DEFINITION. The host's lock requests LOCK and UNLOCK (R67).
-/

namespace Sys2Proof.Machine

open Sys2Proof

/-- A host request taken by the lock (R61, R67), with the reply that carries its answer, the lock state and
release-pending as they then stand. -/
def hostAsk (c : Cavity) (k : LockRequestKind) (wait : Bool) (s : State) : State × Answer :=
  let r := LockCtl.request (s.policy c) wait ⟨k, .host⟩ (s.lock c)
  let s1 := s.lockEvent c r.1
  match r.2 with
  | .done => (s1, doneWith (s1.lockItems c))
  | .refused x => (s1, refuseWith x (s1.lockItems c))

/-- A host request while the cavity's engine is IDLE, NOT_IDLE otherwise (R67). -/
def hostLock (c : Cavity) (k : LockRequestKind) (wait : Bool) (s : State) : State × Answer :=
  if (s.engine c).state = .idle then hostAsk c k wait s else (s, refuse .notIdle)

def execLock (payload : List Byte) (s : State) : Host.Outcome State Fault Refusal :=
  .next (s.takeRequest oneByteField payload (forCavity fun c => hostLock c .engage false))

/-- UNLOCK with its optional wait option (R67). -/
def unlockAnswer (f : Fields) (s : State) : State × Answer :=
  match f.enum 0 cavityOf, optionalBool (f.nat 1) with
  | some c, some wait =>
    if f.extra then (s, refuse .badField) else hostLock c .release wait s
  | _, _ => (s, refuse .badField)

def execUnlock (payload : List Byte) (s : State) : Host.Outcome State Fault Refusal :=
  .next (s.takeRequest unlockFields payload unlockAnswer)

end Sys2Proof.Machine
end

