-- ==== Sys2Proof/Machine/MeasureEvents.lean ====
section
/-!
DEFINITION. The events of the Measurement Unit: the completion of a scan conversion (R4, R7) and of an on-demand
conversion (R17, R18), the expiry of a staleness timer (R12) and of a rate timer (R29).
-/

namespace Sys2Proof.Machine

open Sys2Proof

namespace State

/-- The codes a conversion of a channel has given stay on its pins until the next. Log entry 7. -/
def setCodes (ch : Channel) (codes : BitVec 16 × BitVec 16) (s : State) : State :=
  s.setPins { s.pins with codes := s.pins.codes.set ch codes }

/-- The codes are in, and the converter goes on to the next conversion (R4). -/
def nextStarted (codes : BitVec 16 × BitVec 16) (s : State) : State :=
  setCodes s.converter.channel codes (s.setConverter (nextConversion s.converter))

/-- A scan conversion of the converter's channel completes (R4, R7, R10, R13). -/
def completeScan (codes : BitVec 16 × BitVec 16) (s : State) : State :=
  let ch := s.converter.channel
  let old := s.channel ch
  let j := judgeScan (agreementWindow ch) (convert codes.1 codes.2) old
  takeEntry ch j.entry j.accepted (postFailure ch old j.entry (s.nextStarted codes))

/-- The result of an on-demand conversion becomes the reply of the SAMPLE that waits for it; without one it is
discarded (R18, R177). -/
def releaseSample (ch : Channel) (codes : BitVec 16 × BitVec 16) (s : State) : State :=
  if s.link.transmitter = .waitingSample then
    s.sendReply (doneWith (sampleItems ch codes.1 codes.2 (convert codes.1 codes.2)))
  else s

/-- A staleness timer expires (R12). -/
def expireStaleness (ch : Channel) (s : State) : State :=
  takeEntry ch (staleChannel (s.channel ch)) false s

/-- The rate history at an expiry of its timer, from F and the mark (R29). -/
def rateRestart (f mark : Int) : RateHistory :=
  { mark := some f, timer := some 0, rate := some (rateFrom f mark) }

/-- The values from which an expiry of the rate timer computes the rate, where the timer has reached its 6 s with the
channel in VALID (R29). -/
def rateInputs (c : Cavity) (s : State) : Option (Int × Int) :=
  match s.f (.cav c), (s.rateOf c).mark with
  | some f, some m => if s.rateDue c && s.isValid (.cav c) then some (f, m) else none
  | _, _ => none

end State

/-- SCAN_CONVERSION_COMPLETE (R4, R7), once a conversion of origin SCAN has taken its time. -/
def execScanConversionComplete (codeRtd codeRef : BitVec 16) (s : State) :
    Host.Outcome State Fault Refusal :=
  .next (if s.converter.origin = .scan ∧ s.conversionDue then (s.completeScan (codeRtd, codeRef)).close else s)

/-- ON_DEMAND_CONVERSION_COMPLETE (R4, R18), once a conversion of origin SAMPLE has taken its time. -/
def execOnDemandConversionComplete (codeRtd codeRef : BitVec 16) (s : State) :
    Host.Outcome State Fault Refusal :=
  .next (if s.converter.origin = .sample ∧ s.conversionDue then
      (State.releaseSample s.converter.channel (codeRtd, codeRef) (s.nextStarted (codeRtd, codeRef)))
    else s)

/-- STALENESS_TIMER_EXPIRY (R12), at the channel's limit in VALID: an acceptance taken first has started the timer
again, and no expiry follows. -/
def execStalenessTimerExpiry (ch : Channel) (s : State) : Host.Outcome State Fault Refusal :=
  .next (if s.isValid ch && s.stalenessDue ch then (s.expireStaleness ch).close else s)

/-- RATE_TIMER_EXPIRY (R29, R31): the new rate is made known to the Supervisor, which judges RUNAWAY (R32, R165). -/
def execRateTimerExpiry (c : Cavity) (s : State) : Host.Outcome State Fault Refusal :=
  .next (match s.rateInputs c with
    | some (f, m) => (State.judgeRunaway c (s.setRate c (State.rateRestart f m))).close
    | none => s)

end Sys2Proof.Machine
end

