-- ==== Sys2Proof/Machine/ProgramRequests.lean ====
section
/-!
DEFINITION. The Program Store's requests: APPEND SEGMENT, REPLACE SEGMENT, READ SEGMENT and CLEAR PROGRAM, judged in
the order of R78 (R77 to R83).
-/

namespace Sys2Proof.Machine

open Sys2Proof

namespace State

/-- The count of a cavity's program (R72). -/
def count (s : State) (c : Cavity) : Nat := (s.program c).length

/-- A cavity's program replaced. -/
def setProgram (c : Cavity) (p : List SegmentRecord) (s : State) : State :=
  s.setTables { s.tables with programs := s.tables.programs.set c p }

/-- The cavity's engine is IDLE. -/
def engineIdle (s : State) (c : Cavity) : Bool := decide ((s.engine c).state = .idle)

end State

/-- A program request refused at steps 2 to 4, with the count (R83). -/
def refuseCounted (r : Reason) (c : Cavity) (s : State) : Answer :=
  refuseWith r (countOnlyItems (s.count c))

/-- An index lies outside 1 to count (R78, step 3). -/
def outside (index : Nat) (c : Cavity) (s : State) : Bool :=
  decide (index = 0) || decide (s.count c < index)

/-- APPEND SEGMENT (R78, R79). -/
def appendAnswer (f : Fields) (s : State) : State × Answer :=
  match f.enum 0 cavityOf with
  | none => (s, refuse .badField)
  | some c =>
    if f.extra then (s, refuse .badField)
    else if !s.engineIdle c then (s, refuseCounted .notIdle c s)
    else if 12 ≤ s.count c then (s, refuseCounted .full c s)
    else
      match completeRecord (rawRecord f 1) with
      | none => (s, refuseCounted .badField c s)
      | some r =>
        let s1 := s.setProgram c (s.program c ++ [r.value])
        (s1, doneClamped r.clamped (programItems (s.count c + 1) r.value (s1.count c)))

def execAppendSegment (payload : List Byte) (s : State) : Host.Outcome State Fault Refusal :=
  .next (s.takeRequest appendFields payload appendAnswer)

/-- REPLACE SEGMENT (R78, R80). -/
def replaceAnswer (f : Fields) (s : State) : State × Answer :=
  match f.enum 0 cavityOf, f.nat 1 with
  | some c, some index =>
    if f.extra then (s, refuse .badField)
    else if !s.engineIdle c then (s, refuseCounted .notIdle c s)
    else if outside index c s then (s, refuseCounted .noSuch c s)
    else
      match completeRecord (rawRecord f 2) with
      | none => (s, refuseCounted .badField c s)
      | some r =>
        let s1 := s.setProgram c ((s.program c).set (index - 1) r.value)
        (s1, doneClamped r.clamped (programItems index r.value (s1.count c)))
  | _, _ => (s, refuse .badField)

def execReplaceSegment (payload : List Byte) (s : State) : Host.Outcome State Fault Refusal :=
  .next (s.takeRequest replaceFields payload replaceAnswer)

/-- READ SEGMENT (R78, R82). -/
def readSegmentAnswer (f : Fields) (s : State) : Answer :=
  match f.enum 0 cavityOf, f.nat 1 with
  | some c, some index =>
    if f.extra then refuse .badField
    else
      match recordAt (s.program c) index with
      | some r => doneWith (programItems index r (s.count c))
      | none => refuseCounted .noSuch c s
  | _, _ => refuse .badField

def execReadSegment (payload : List Byte) (s : State) : Host.Outcome State Fault Refusal :=
  .next (s.readRequest readSegmentFields payload readSegmentAnswer)

/-- CLEAR PROGRAM (R78, R81). -/
def clearProgramAnswer (c : Cavity) (s : State) : State × Answer :=
  if s.engineIdle c then (s.setProgram c [], doneWith [here (u8 0)])
  else (s, refuseWith .notIdle [here (u8 (s.count c))])

def execClearProgram (payload : List Byte) (s : State) : Host.Outcome State Fault Refusal :=
  .next (s.takeRequest oneByteField payload (forCavity clearProgramAnswer))

end Sys2Proof.Machine
end

