-- ==== Sys2Proof/Machine/RelayEvents.lean ====
section
/-!
DEFINITION. The events of the Element Drive: the refresh walk (R137, R138), contact sense (R140), the supervision
timers of a relay (R141 to R144), and the readings and ends of the steps of a relay test (R147, R148).
-/

namespace Sys2Proof.Machine

open Sys2Proof

namespace State

/-! ## The refresh walk -/

/-- The relay at the position of the walk (R137). -/
def walkRelay (s : State) : Relay := allRelays.getD s.drive.walkPos.val .master

/-- A visit refreshes a relay (R138): by its test drive during a relay test, by its drive state outside. -/
def refreshes (s : State) (r : Relay) : Bool :=
  if s.testing then (s.relay r).testDrive && !s.sup.trip
  else
    match r with
    | .element e => s.drive.driveState.get e && s.sup.driveEnable
    | .master => s.sup.driveEnable

/-- A refresh pulse closes a relay and holds it (R137). -/
def refresh (r : Relay) (s : State) : State := s.setRelay r { s.relay r with hold := some 0 }

/-- The walk moves on by one entry, from the master back to A.TOP (R137). -/
def walkOn (s : State) : State := s.setDrive { s.drive with walkPos := s.drive.walkPos + 1 }

/-- One visit of the walk (R137, R138); the next is due two milliseconds later. -/
def visit (s : State) : State :=
  walkOn (onlyIf (s.refreshes s.walkRelay) (refresh s.walkRelay)
    (s.setClock { s.clock with sinceVisit := 0 }))

/-! ## Contact sense -/

/-- All nine sense levels are present (R146). -/
def allSensed (s : State) : Bool := allRelays.all fun r => (s.relay r).sense.isSome

/-- The start-up test done is known to the Supervisor (R161). -/
def startupDone (s : State) : State := judgeReady (s.setSup { s.sup with startupDone := true })

/-- The start-up test at the sample at which the last of the nine sense levels becomes present (R146): it begins, or
is COMPLETE unrun under TRIP. A requested test that is still in progress then gives way to it, its test drives OFF.
Log entry 34. -/
def startupTest (s : State) : State :=
  if s.sup.trip then startupDone (s.setTest { RelayTest.reset with state := .complete })
  else beginTest .startUp s.testDrivesOff

/-- A relay's sense input stands at a level. -/
def setContactPin (r : Relay) (level : Bool) (s : State) : State :=
  s.setPins { s.pins with contacts := s.pins.contacts.set r ⟨level, level⟩ }

/-- The sense level of a relay takes a new level (R140, R141, R146). -/
def senseMoves (r : Relay) (closed : Bool) (s : State) : State :=
  let s1 := s.setContactPin r closed
  let s2 := s1.setRelay r { s1.relay r with sense := some closed }
  followMismatch r (onlyIf (decide ((s.relay r).sense = none) && s2.allSensed) startupTest s2)

/-! ## Supervision -/

/-- The settle timer of a relay ends (R141). -/
def settleEnds (r : Relay) (s : State) : State :=
  followMismatch r (s.setRelay r { s.relay r with settle := none })

/-- ELEMENT_OPEN is latched for an element, with its event unless it is latched already (R142, R148). -/
def latchOpen (e : Element) (s : State) : State :=
  if s.drive.elementOpen.get e then s
  else
    post .drive (.faultRaised (some e.cavity) .elementOpen (some (.element e)))
      (s.setDrive { s.drive with elementOpen := s.drive.elementOpen.set e true })

/-- The health of a relay. -/
def setHealth (r : Relay) (h : Health) (s : State) : State := s.setRelay r { s.relay r with health := h }

/-- The welded fault of a relay is latched (R143, R144). -/
def latchWelded (r : Relay) (s : State) : State :=
  match r with
  | .element _ => s.setDrive { s.drive with elementWelded := true }
  | .master => s.setDrive { s.drive with masterWelded := true }

/-- The event that a relay is found welded (R143, R144). -/
def weldedEvent : Relay → EventBody
  | .element e => .faultRaised (some e.cavity) .elementWelded (some (.element e))
  | .master => .faultRaised none .masterWelded none

/-- The event that the welded fault of a relay is cleared (R148). -/
def weldedCleared : Relay → EventBody
  | .element e => .faultCleared (some e.cavity) .elementWelded (some (.element e))
  | .master => .faultCleared none .masterWelded none

/-- A relay's result or mismatch says WELDED: health, fault and, unless its health was already WELDED, the event
(R143, R144, R148). -/
def weld (r : Relay) (s : State) : State :=
  if (s.relay r).health = .welded then latchWelded r s
  else post .drive (weldedEvent r) (latchWelded r (setHealth r .welded s))

/-- The welded faults latched in the Element Drive. -/
def weldedFaults (s : State) : Bool × Bool := (s.drive.elementWelded, s.drive.masterWelded)

/-- New healths and welded faults made known (R145, R162, R163): a fault newly latched is a system fault (R166,
R167). -/
def healthKnown (before : Bool × Bool) (s : State) : State :=
  if (s.drive.elementWelded && !before.1) || (s.drive.masterWelded && !before.2) then weldedLatched s
  else recompute s

/-- A mismatch that lasted 100 ms, as the fault it shows (R142 to R144). -/
def judgeMismatch (r : Relay) (s : State) : State :=
  let x := s.relay r
  match r, x.expectedClosed, x.sense with
  | .element e, true, some false =>
    if x.health = .ok then recompute (latchOpen e (setHealth r .stuckOpen s)) else s
  | _, false, some true => if x.health = .welded then s else healthKnown s.weldedFaults (weld r s)
  | _, _, _ => s

/-- The mismatch timer of a relay expires (R141). -/
def mismatchExpires (r : Relay) (s : State) : State :=
  judgeMismatch r (s.setRelay r { s.relay r with mismatch := none })

/-! ## The relay test -/

/-- The reading at 100 ms (R147): the sense level is read and the test drive becomes OFF. A level that is still absent
is read as open, here and at the other two moments of a step. Log entry 35. -/
def takeReading (t : TestStep) (s : State) : State :=
  setTestDrive t.relay false
    (s.setTest { s.drive.test with
      step := some { t with reading := some (decide ((s.relay t.relay).sense = some true)) } })

/-- The result of a step at its end (R147). -/
def stepResult (t : TestStep) (reading closedNow : Bool) : TestResult :=
  if t.closedAtStart || closedNow then .welded else if reading then .pass else .stuckOpen

/-- The result of a step is fixed, and the step is over (R147). -/
def fixResult (t : TestStep) (reading : Bool) (s : State) : State :=
  s.setTest { s.drive.test with
    step := none
    results := s.drive.test.results.set t.relay
      (stepResult t reading (decide ((s.relay t.relay).sense = some true))) }

/-- PASS on a relay: its health is OK, and ELEMENT_OPEN of an element that holds it is cleared (R148). -/
def applyPass (r : Relay) (s : State) : State :=
  let s1 := setHealth r .ok s
  match r with
  | .element e =>
    if s1.drive.elementOpen.get e then
      post .drive (.faultCleared (some e.cavity) .elementOpen (some (.element e)))
        (s1.setDrive { s1.drive with elementOpen := s1.drive.elementOpen.set e false })
    else s1
  | .master => s1

/-- OPEN on a relay: its health, and ELEMENT_OPEN of an element (R148). -/
def applyOpen (r : Relay) (s : State) : State :=
  match r with
  | .element e => latchOpen e (setHealth r .stuckOpen s)
  | .master => setHealth r .stuckOpen s

/-- The result of one relay of the visit list is applied (R148), also to an element that a SET ELEMENT has made not
fitted during the test, for which R150 raises no fault: log entry 43. -/
def applyResult (r : Relay) (s : State) : State :=
  match s.drive.test.results.get r with
  | .pass => applyPass r s
  | .stuckOpen => applyOpen r s
  | .welded => weld r s
  | .notVisited => s

/-- Every relay of the visit list has the result PASS (R148). -/
def allPassed (s : State) : Bool :=
  s.drive.test.visitList.all fun r => decide (s.drive.test.results.get r = .pass)

/-- FAULT_CLEARED of a welded fault (R148): for the master where it was latched, for each element whose health was
WELDED before the results were applied. -/
def postUnwelded (before : State) (r : Relay) (s : State) : State :=
  match r with
  | .element _ =>
    if (before.relay r).health = .welded then s.post .drive (weldedCleared r) else s
  | .master => if before.drive.masterWelded then s.post .drive (weldedCleared r) else s

/-- An element that is not on the visit list has its health set to OK (R148). -/
def healUnvisited (r : Relay) (s : State) : State :=
  if s.drive.test.visitList.contains r then s else setHealth r .ok s

/-- A test in which every listed relay passed clears the welded faults, the master's event first (R148). -/
def clearWelded (before : State) (s : State) : State :=
  let s1 := s.setDrive { s.drive with elementWelded := false, masterWelded := false }
  forEach (.master :: allElements.map .element) (postUnwelded before)
    (forEach allRelays healUnvisited s1)

/-- The end of the test is known to the Supervisor where it was the start-up test (R161). -/
def testKnown (s : State) : State := onlyIf (s.drive.test.origin = .startUp) startupDone s

/-- The test completes (R148): its results are applied together, and its end and the healths are made known. The
Supervisor's READY, which the end of the test may bring (R161), is queued before the FAULT_RAISED of a TRIP that the
welded faults bring (R166): the manual gives these two no order. Log entry 37. -/
def completeTest (s : State) : State :=
  let s1 := forEach s.drive.test.visitList applyResult s
  let s2 := onlyIf s.allPassed (clearWelded s) s1
  let s3 := restartAllSettle (s2.setTest { s2.drive.test with state := .complete, step := none, todo := [] })
  healthKnown s.weldedFaults (testKnown s3)

/-- A step ends (R147, R148): the next relay's step begins, or the test completes. -/
def endStep (t : TestStep) (reading : Bool) (s : State) : State :=
  let s1 := fixResult t reading s
  if s1.drive.test.todo.isEmpty then completeTest s1 else startStep s1

end State

/-- REFRESH_VISIT (R137), when a visit is due. -/
def execRefreshVisit (s : State) : Host.Outcome State Fault Refusal :=
  .next (if s.visitDue then s.visit else s)

/-- SENSE_LEVEL_CHANGE (R140): a level other than the present one, or the first. -/
def execSenseLevelChange (r : Relay) (closed : Bool) (s : State) : Host.Outcome State Fault Refusal :=
  .next (if (s.relay r).sense = some closed then s else (s.senseMoves r closed).close)

/-- SETTLE_TIMER_EXPIRY (R141), at the 50 ms of the timer: a change of the expected level taken first has started it
again. -/
def execSettleTimerExpiry (r : Relay) (s : State) : Host.Outcome State Fault Refusal :=
  .next (if s.settleDue r then s.settleEnds r else s)

/-- MISMATCH_TIMER_EXPIRY (R141), at the 100 ms of the timer. -/
def execMismatchTimerExpiry (r : Relay) (s : State) : Host.Outcome State Fault Refusal :=
  .next (if s.mismatchDue r then (s.mismatchExpires r).close else s)

/-- TEST_STEP_READING (R147), at 100 ms of a step whose reading is not yet taken. -/
def execTestStepReading (s : State) : Host.Outcome State Fault Refusal :=
  .next (match s.drive.test.step with
    | some t => if s.testing ∧ t.readingDue then s.takeReading t else s
    | none => s)

/-- TEST_STEP_END (R147), at 200 ms of a step whose reading has been taken. -/
def execTestStepEnd (s : State) : Host.Outcome State Fault Refusal :=
  .next (match s.drive.test.step with
    | some t =>
      match t.reading with
      | some reading => if s.testing ∧ t.endDue then (s.endStep t reading).close else s
      | none => s
    | none => s)

end Sys2Proof.Machine
end

