-- ==== Sys2Proof/Machine/ResetEvents.lean ====
section
/-!
DEFINITION. The expiry of an overheat timer, which asserts TRIP (R166), and the two resets (R3, R6, R35, R69, R72, R86,
R136, R151, R159, R160, R166, R169, R171, R178), each one event with its hold.
-/

namespace Sys2Proof.Machine

open Sys2Proof

/-- Every switch and contact input with its first sample at the end of the reset (R51, R140). -/
def SampledPin.restart (p : SampledPin) : SampledPin := { p with lastSample := p.level }

def PerSwitch.restart (p : PerSwitch SampledPin) : PerSwitch SampledPin :=
  ⟨p.doorShut.restart, p.latchHome.restart, p.latchSet.restart⟩

def PerHeater.restart (p : PerHeater SampledPin) : PerHeater SampledPin :=
  ⟨p.top.restart, p.bottom.restart, p.ring.restart, p.cat.restart⟩

/-- The pins at the end of a reset, which leaves their levels as they are. -/
def Pins.restart (p : Pins) : Pins :=
  { p with
    switches := ⟨p.switches.a.restart, p.switches.b.restart⟩
    contacts := ⟨⟨p.contacts.elements.a.restart, p.contacts.elements.b.restart⟩,
      p.contacts.master.restart⟩ }

namespace State

/-- An overheat timer has run out (R166): it stops, and TRIP is asserted. -/
def overheatRunsOut (c : Cavity) (s : State) : State :=
  assertTrip (setOverheat c (s.sup.overheat.get c) none s)

/-- The part at the end of a reset, with TRIP as the reset leaves it. The pins are the outside's, and the open orders
and the waiting commands are the model's. -/
def afterReset (trip : Bool) (s : State) : State :=
  { reset with
    fan := .reset trip
    sup := .reset trip
    link := .reset s.pins.straps
    pins := s.pins.restart
    order := s.order
    draws := s.draws
    pending := s.pending }

/-- A relay held closed at the start of an external reset falls open by itself, 20 ms after its last refresh (R137,
R138). -/
def keepHold (before : State) (r : Relay) (s : State) : State :=
  s.setRelay r { s.relay r with hold := (before.relay r).hold }

/-- The Supervisor's first act at the end of an external reset under TRIP (R166). -/
def reportTrip (s : State) : State := post .supervisor (.faultRaised none .trip none) s

/-- An external reset (R160, R166). -/
def externallyReset (s : State) : State :=
  let s1 := forEach allRelays (keepHold s) (afterReset s.sup.trip s)
  if s.sup.trip then s1.reportTrip.close else s1

end State

/-- OVERHEAT_TIMER_EXPIRY (R166), at the 60 s of the timer. -/
def execOverheatTimerExpiry (c : Cavity) (s : State) : Host.Outcome State Fault Refusal :=
  .next (if s.overheatDue c then (s.overheatRunsOut c).close else s)

/-- POWER_ON_RESET (R160): every block takes its reset values and TRIP is clear. -/
def execPowerOnReset (s : State) : Host.Outcome State Fault Refusal := .next (s.afterReset false)

/-- EXTERNAL_RESET (R166): every block takes its reset values, and TRIP stays as it was. -/
def execExternalReset (s : State) : Host.Outcome State Fault Refusal := .next s.externallyReset

end Sys2Proof.Machine
end

