-- ==== Sys2Proof/Machine/ServiceRequests.lean ====
section
/-!
DEFINITION. The service requests: CLEAR with what each owning block clears (R15, R70, R145, R158, R164, R165, R168),
RELAY TEST (R146) and SAMPLE (R16).
-/

namespace Sys2Proof.Machine

open Sys2Proof

namespace State

/-! ## CLEAR, owner by owner -/

/-- FAULT_CLEARED of a failed channel, with the same code, cavity and channel as its FAULT_RAISED (R168). -/
def postChannelCleared (ch : Channel) (e : ChannelEntry) (s : State) : State :=
  match e.cause with
  | some cause =>
    s.post .measurement (.faultCleared (channelCavity ch) (failCode cause) (some (.channel ch)))
  | none => s

/-- CLEAR of one channel (R15): FAILED returns to WARMUP with the values of R3. -/
def clearChannel (ch : Channel) (s : State) : State :=
  let e := s.channel ch
  if e.state = .failed then takeEntry ch .reset false (postChannelCleared ch e s) else s

/-- An element's health OPEN returns to OK (R145). -/
def openToOk (r : Relay) (s : State) : State :=
  if (s.relay r).health = .stuckOpen then s.setRelay r { s.relay r with health := .ok } else s

/-- ELEMENT_OPEN of an element is no longer latched, with its FAULT_CLEARED (R145, R148). -/
def unlatchOpen (e : Element) (s : State) : State :=
  post .drive (.faultCleared (some e.cavity) .elementOpen (some (.element e)))
    (s.setDrive { s.drive with elementOpen := s.drive.elementOpen.set e false })

/-- CLEAR of one element (R145). -/
def clearElement (e : Element) (s : State) : State :=
  if s.drive.elementOpen.get e then openToOk (.element e) (unlatchOpen e s) else s

/-- CLEAR of the Element Drive (R145). -/
def clearDrive (s : State) : State := openToOk .master (forEach allElements clearElement s)

/-- CLEAR of a Door Lock Controller (R70). -/
def clearLock (c : Cavity) (s : State) : State := lockEvent c (LockCtl.clear (s.lock c)) s

/-- CLEAR of the Fan Controller (R158). -/
def clearFan (s : State) : State :=
  if s.fan.stall then
    post .fan (.faultCleared none .fanStall none) (s.setFan s.fan.clearStall)
  else s

/-- CLEAR of RUNAWAY of a cavity (R165). -/
def clearRunaway (c : Cavity) (s : State) : State :=
  if s.sup.runaway.get c then
    post .supervisor (.faultCleared (some c) .runaway none)
      (s.setSup { s.sup with runaway := s.sup.runaway.set c false })
  else s

/-- F of a VALID cavity channel is below 5500 (R164). -/
def cooledDown (s : State) (c : Cavity) : Bool :=
  match s.f (.cav c) with
  | some f => s.isValid (.cav c) && decide (f < 5500)
  | none => false

/-- CLEAR of OVERHEAT of a cavity (R164). -/
def clearOverheat (c : Cavity) (s : State) : State :=
  if s.sup.overheat.get c && s.cooledDown c then
    post .supervisor (.faultCleared (some c) .overheat none) (setOverheat c false none s)
  else s

/-- CLEAR at every owner (R168), after which drive enable and heat inhibit are recomputed. -/
def clearAll (s : State) : State :=
  let s1 := forEach allChannels clearChannel s
  let s2 := forEach cavities clearLock (clearDrive s1)
  recompute (forEach cavities clearOverheat (forEach cavities clearRunaway (clearFan s2)))

end State

/-- CLEAR (R168). -/
def clearAnswer (s : State) : State × Answer :=
  if s.bothIdle then (s.clearAll, doneEmpty) else (s, refuse .notIdle)

def execClear (payload : List Byte) (s : State) : Host.Outcome State Fault Refusal :=
  .next (s.takeRequest noFields payload fun _ s => clearAnswer s)

/-- RELAY TEST in the order of R146. -/
def relayTestAnswer (s : State) : State × Answer :=
  if s.sup.trip then (s, refuse .fault)
  else if s.testing then (s, refuse .busy)
  else if !s.bothIdle then (s, refuse .notIdle)
  else
    let s1 := s.beginTest .request
    (s1, doneWith [here (setBytes s1.visitBits)])

def execRelayTest (payload : List Byte) (s : State) : Host.Outcome State Fault Refusal :=
  .next (s.takeRequest noFields payload fun _ s => relayTestAnswer s)

/-- A SAMPLE that is taken (R16, R176): the request is held, and the transmitter waits for the sample. -/
def State.holdSample (ch : Channel) (s : State) : State :=
  let s1 := s.setConverter { s.converter with onDemand := some ch }
  s1.setLink { s1.link with transmitter := .waitingSample }

/-- SAMPLE at the end of its frame (R16). -/
def State.takeSample (f : Fields) (s : State) : State :=
  match onlyEnum channelOf f with
  | none => s.sendReply (refuse .badField)
  | some ch => if s.converter.onDemand.isSome then s.sendReply (refuse .busy) else s.holdSample ch

def execSample (payload : List Byte) (s : State) : Host.Outcome State Fault Refusal :=
  .next (if s.lineDead then s
    else match readFields oneByteField payload with
      | none => s.endOfFrame.sendReply (refuse .length)
      | some f => s.endOfFrame.takeSample f)

end Sys2Proof.Machine
end

