-- ==== Sys2Proof/Machine/StatusRequests.lean ====
section
/-!
DEFINITION. The status requests: IDENTIFY, CAVITY STATUS, PLANT STATUS (R180), READ OUTCOME (R115) and READ EVENTS
(R170).
-/

namespace Sys2Proof.Machine

open Sys2Proof

def execIdentify (payload : List Byte) (s : State) : Host.Outcome State Fault Refusal :=
  .next (s.readRequest noFields payload fun _ s => doneWith s.identifyItems)

/-- The answer of a status request for one cavity. -/
def cavityAnswer (items : State → Cavity → List Item) (f : Fields) (s : State) : Answer :=
  match onlyCavity f with
  | some c => doneWith (items s c)
  | none => refuse .badField

def execCavityStatus (payload : List Byte) (s : State) : Host.Outcome State Fault Refusal :=
  .next (s.readRequest oneByteField payload (cavityAnswer State.cavityItems))

/-- The answer of PLANT STATUS (R180). -/
def plantAnswer (f : Fields) (s : State) : Answer :=
  match onlyEnum sectionOf f with
  | some x => doneWith (s.sectionItems x)
  | none => refuse .badField

def execPlantStatus (payload : List Byte) (s : State) : Host.Outcome State Fault Refusal :=
  .next (s.readRequest oneByteField payload plantAnswer)

def execReadOutcome (payload : List Byte) (s : State) : Host.Outcome State Fault Refusal :=
  .next (s.readRequest oneByteField payload
    (cavityAnswer fun s c => outcomeItems (s.engine c).outcome))

/-- READ EVENTS (R170): up to four records leave the head of the queue and are carried with the count left. -/
def readEvents (s : State) : State × Answer :=
  let taken := s.events.queue.take 4
  let left := s.events.queue.drop 4
  (s.setEvents { s.events with queue := left },
    { reason := none, clamped := false, payload := readEventsPayload left.length taken, clearsLost := true })

def execReadEvents (payload : List Byte) (s : State) : Host.Outcome State Fault Refusal :=
  .next (s.takeRequest noFields payload fun _ s => readEvents s)

end Sys2Proof.Machine
end

