-- ==== Sys2Proof/Machine/TableRequests.lean ====
section
/-!
DEFINITION. The requests that write what a FREEZE fixes: WRITE BAND and READ BAND (R45 to R48), SET ELEMENT (R120,
R150), SET BUDGET (R119) and FREEZE (R50).
-/

namespace Sys2Proof.Machine

open Sys2Proof

/-- A band number, 1 to 8 (R45). -/
def bandNumberOf (n : Nat) : Option (Fin 8) :=
  if h : 1 ≤ n ∧ n ≤ 8 then some ⟨n - 1, by omega⟩ else none

/-- A band write with every field present and defined: the cavity, the band, the record with its values clamped
(R45). -/
structure BandWrite where
  cavity : Cavity
  band : Fin 8
  record : BandRecord
  clamped : Bool
deriving DecidableEq, Repr

/-- The fields of WRITE BAND; none is BAD_FIELD (R45). -/
def readBandWrite (f : Fields) : Option BandWrite :=
  if f.extra then none
  else
    match f.enum 0 cavityOf, f.enum 1 bandNumberOf, f.int 2, f.enum 3 boolOf, f.enum 4 policyOf, f.nat 5,
      f.enum 6 elementSetOf, f.enum 7 catRequirementOf with
    | some c, some n, some limit, some enabled, some policy, some floor, some permitted, some cat =>
      let l := clampField limit 0 6000
      let fl := clampNat floor 0 3
      some ⟨c, n, ⟨l.value, enabled, policy, fl.value, permitted, cat⟩, l.clamped || fl.clamped⟩
    | _, _, _, _, _, _, _, _ => none

namespace State

/-- A band record replaced in its table. -/
def storeBand (w : BandWrite) (s : State) : State :=
  s.setTables { s.tables with
    bands := s.tables.bands.set w.cavity ((s.bandTable w.cavity).set w.band w.record) }

/-- A write that is carried out (R47): the record is stored, the band is found by the plain lookup while the channel
is VALID, and a change of the band in force is made known. -/
def writeBand (w : BandWrite) (s : State) : State :=
  let s1 := s.storeBand w
  match s.isValid (.cav w.cavity), s.f (.cav w.cavity) with
  | true, some f =>
    let i := lookup (s1.bandTable w.cavity) f
    if i = s.bandIndex.get w.cavity then
      if i = .band w.band ∧ (s.bandTable w.cavity)[w.band] ≠ w.record then bandKnown w.cavity s1 else s1
    else takeBand w.cavity i s1
  | _, _ => s1

end State

/-- WRITE BAND in the order of R45. -/
def writeBandAnswer (f : Fields) (s : State) : State × Answer :=
  if s.tables.frozen then (s, refuse .frozen)
  else if (match f.enum 0 cavityOf with
      | some c => s.tableLocks.get c
      | none => false) then (s, refuse .locked)
  else
    match readBandWrite f with
    | none => (s, refuse .badField)
    | some w =>
      if bandsOrdered ((s.bandTable w.cavity).set w.band w.record) then
        (s.writeBand w, doneClamped w.clamped (bandItems w.record))
      else (s, refuse .order)

def execWriteBand (payload : List Byte) (s : State) : Host.Outcome State Fault Refusal :=
  .next (s.takeRequest writeBandFields payload writeBandAnswer)

/-- READ BAND (R48). -/
def readBandAnswer (f : Fields) (s : State) : Answer :=
  if f.extra then refuse .badField
  else
    match f.enum 0 cavityOf, f.enum 1 bandNumberOf with
    | some c, some n => doneWith (bandItems (s.bandTable c)[n])
    | _, _ => refuse .badField

def execReadBand (payload : List Byte) (s : State) : Host.Outcome State Fault Refusal :=
  .next (s.readRequest readBandFields payload readBandAnswer)

/-- A rating as stored: clamped to 0 to 3500, then taken down to a multiple of 10 (R120). -/
def storedRating (n : Nat) : Nat := (clampNat n 0 3500).value / 10 * 10

namespace State

/-- The rating of an element is stored; its supervision stops when it is no longer fitted, and starts with a fresh
settle timer when it becomes fitted (R150). During a relay test that timer starts at the test's end: log entry 38. -/
def storeRating (e : Element) (n : Nat) (s : State) : State :=
  let s1 := s.setTables { s.tables with ratings := s.tables.ratings.set e n }
  if s.fitted e = s1.fitted e then s1
  else if s1.fitted e then restartSettle (.element e) s1
  else stopTimers (.element e) s1

end State

/-- SET ELEMENT in the order of R120. -/
def setElementAnswer (f : Fields) (s : State) : State × Answer :=
  if s.tables.frozen then (s, refuse .frozen)
  else if !s.bothIdle then (s, refuse .notIdle)
  else
    match f.enum 0 elementOf, f.nat 1 with
    | some e, some n =>
      if f.extra then (s, refuse .badField)
      else
        let r := storedRating n
        (s.storeRating e r, doneClamped (decide (r ≠ n)) [here (u8 (elementCode e)), here (u16 r)])
    | _, _ => (s, refuse .badField)

def execSetElement (payload : List Byte) (s : State) : Host.Outcome State Fault Refusal :=
  .next (s.takeRequest setElementFields payload setElementAnswer)

/-- SET BUDGET in the order of R119. -/
def setBudgetAnswer (f : Fields) (s : State) : State × Answer :=
  if s.tables.frozen then (s, refuse .frozen)
  else
    match f.nat 0 with
    | some n =>
      if f.extra then (s, refuse .badField)
      else
        let b := clampNat n 1000 7400
        (s.setTables { s.tables with budgetSet := b.value },
          doneClamped b.clamped [here (u16 b.value), here (u16 s.alloc.budgetInForce)])
    | none => (s, refuse .badField)

def execSetBudget (payload : List Byte) (s : State) : Host.Outcome State Fault Refusal :=
  .next (s.takeRequest setBudgetFields payload setBudgetAnswer)

/-- FREEZE (R50). -/
def freezeAnswer (s : State) : State × Answer :=
  if s.bothIdle then (s.setTables { s.tables with frozen := true }, doneEmpty)
  else (s, refuse .notIdle)

def execFreeze (payload : List Byte) (s : State) : Host.Outcome State Fault Refusal :=
  .next (s.takeRequest noFields payload fun _ s => freezeAnswer s)

end Sys2Proof.Machine
end

