-- ==== Sys2Proof/Machine/WindowEvents.lean ====
section
/-!
DEFINITION. The events of the Power Allocator: the window start (R122 to R126) with the start of slot 0, and the start
of each later slot (R139), with the slot-use record (R135) and the RUNAWAY check on it (R165).
-/

namespace Sys2Proof.Machine

open Sys2Proof

/-! ## The slot-use record -/

/-- The record of a cavity at a window start (R135). -/
def SlotUse.shift (u : SlotUse) : SlotUse := { heldThis := false, heldLast := u.heldThis }

namespace State

/-- A cavity element of the cavity has its grant for a slot in force (R135). -/
def slotHeld (s : State) (c : Cavity) (k : Nat) : Bool :=
  cavityHeaters.any fun h => (s.alloc.grants.get ⟨c, h⟩).inForce k

def setSlotUse (c : Cavity) (u : SlotUse) (s : State) : State :=
  s.setAlloc { s.alloc with slotUse := s.alloc.slotUse.set c u }

/-- Held this window becomes true at a slot start at which a cavity element has its grant in force, and a change is
judged for RUNAWAY (R135, R165). -/
def noteSlotUse (k : Nat) (c : Cavity) (s : State) : State :=
  let u := s.alloc.slotUse.get c
  if s.slotHeld c k && !u.heldThis then
    judgeRunaway c (s.setSlotUse c { u with heldThis := true })
  else s

/-! ## A slot start -/

/-- The drive state of an element at a slot start (R139). -/
def driveSlot (k : Nat) (e : Element) (s : State) : State :=
  s.setDriveState e ((s.alloc.grants.get e).inForce k)

/-- The start of a slot (R122, R135, R139). -/
def startSlot (k : Nat) (s : State) : State :=
  forEach cavities (noteSlotUse k)
    (forEach allElements (driveSlot k) (s.setAlloc { s.alloc with slot := some k, slotElapsed := 0 }))

/-! ## A window start -/

/-- The lead, the budget in force and the ratings of the new window (R119, R121, R122), with slot 0 in progress and
the slot-use records shifted (R135). The plan of the window before is over. -/
def openWindow (s : State) : State :=
  s.setAlloc { s.alloc with
    budgetInForce := s.tables.budgetSet
    lead := s.alloc.lead.other
    planRatings := s.tables.ratings
    slot := some 0
    slotElapsed := 0
    grants := .all .empty
    slotUse := ⟨(s.alloc.slotUse.get .a).shift, (s.alloc.slotUse.get .b).shift⟩ }

/-- RUNAWAY judged on the shifted record of a cavity, where the shift changed it (R135, R165). `old` holds the
records before the shift. -/
def judgeShift (old : PerCavity SlotUse) (c : Cavity) (s : State) : State :=
  if (old.get c).shift = old.get c then s else judgeRunawayOn (old.get c).shift c s

/-- The plan of the window from the demands at this event (R124 to R126). -/
def placePlan (s : State) : State :=
  s.setAlloc { s.alloc with
    grants := buildPlan s.alloc.budgetInForce s.alloc.lead s.alloc.planRatings (tabulate s.demand) }

/-- A window start (R124), with the start of slot 0 (R139). The plan and the Supervisor's judgement of the shifted
records are taken in an open order (R134). Log entries 11 and 12. -/
def startWindow (s : State) : State :=
  let old := s.alloc.slotUse
  let s1 := s.openWindow
  if s.order.window % 2 = 0 then startSlot 0 (placePlan (forEach cavities (judgeShift old) s1))
  else forEach cavities (judgeShift old) (startSlot 0 (placePlan s1))

/-- The slot that starts next within the window in progress, at the end of the one before: none at the last slot and
before the first window. -/
def nextSlot (s : State) : Option Nat :=
  match s.alloc.slot with
  | some k => if k < 15 ∧ s.slotOver then some (k + 1) else none
  | none => none

end State

/-- WINDOW_START (R122, R124): the end of a reset, or the end of the last slot of a window. -/
def execWindowStart (s : State) : Host.Outcome State Fault Refusal :=
  .next (if s.windowDue then s.startWindow.close else s)

/-- SLOT_START (R139): the start of the next slot of the window, from 1 to 15. -/
def execSlotStart (s : State) : Host.Outcome State Fault Refusal :=
  .next (match s.nextSlot with
    | some k => (s.startSlot k).close
    | none => s)

end Sys2Proof.Machine
end

