-- ==== Sys2Proof/Machine/Dispatch.lean ====
section
/-!
DEFINITION. The dispatch: one arm per command of spec/opcode_table.json, each one call of its meaning.
-/

namespace Sys2Proof.Machine

open Sys2Proof

/-- The meaning of a command: its effect on everything but the queue of waiting commands. -/
def exec (i : Instr) (s : State) : Host.Outcome State Fault Refusal :=
  match i with
  | .identify payload => Sys2Proof.Machine.execIdentify payload s
  | .cavityStatus payload => Sys2Proof.Machine.execCavityStatus payload s
  | .plantStatus payload => Sys2Proof.Machine.execPlantStatus payload s
  | .readOutcome payload => Sys2Proof.Machine.execReadOutcome payload s
  | .readEvents payload => Sys2Proof.Machine.execReadEvents payload s
  | .writeBand payload => Sys2Proof.Machine.execWriteBand payload s
  | .readBand payload => Sys2Proof.Machine.execReadBand payload s
  | .setElement payload => Sys2Proof.Machine.execSetElement payload s
  | .setBudget payload => Sys2Proof.Machine.execSetBudget payload s
  | .freeze payload => Sys2Proof.Machine.execFreeze payload s
  | .appendSegment payload => Sys2Proof.Machine.execAppendSegment payload s
  | .replaceSegment payload => Sys2Proof.Machine.execReplaceSegment payload s
  | .readSegment payload => Sys2Proof.Machine.execReadSegment payload s
  | .clearProgram payload => Sys2Proof.Machine.execClearProgram payload s
  | .start payload => Sys2Proof.Machine.execStart payload s
  | .pause payload => Sys2Proof.Machine.execPause payload s
  | .resume payload => Sys2Proof.Machine.execResume payload s
  | .step payload => Sys2Proof.Machine.execStep payload s
  | .abort payload => Sys2Proof.Machine.execAbort payload s
  | .allStop broadcast payload => Sys2Proof.Machine.execAllStop broadcast payload s
  | .lock payload => Sys2Proof.Machine.execLock payload s
  | .unlock payload => Sys2Proof.Machine.execUnlock payload s
  | .clear payload => Sys2Proof.Machine.execClear payload s
  | .relayTest payload => Sys2Proof.Machine.execRelayTest payload s
  | .sample payload => Sys2Proof.Machine.execSample payload s
  | .unknownRequest kind payload => Sys2Proof.Machine.execUnknownRequest kind payload s
  | .frameDiscarded frame => Sys2Proof.Machine.execFrameDiscarded frame s
  | .lineBreak => Sys2Proof.Machine.execLineBreak s
  | .lineFault => Sys2Proof.Machine.execLineFault s
  | .collision => Sys2Proof.Machine.execCollision s
  | .scanConversionComplete codeRtd codeRef => Sys2Proof.Machine.execScanConversionComplete codeRtd codeRef s
  | .onDemandConversionComplete codeRtd codeRef => Sys2Proof.Machine.execOnDemandConversionComplete codeRtd codeRef s
  | .stalenessTimerExpiry ch => Sys2Proof.Machine.execStalenessTimerExpiry ch s
  | .rateTimerExpiry c => Sys2Proof.Machine.execRateTimerExpiry c s
  | .switchLevelChange c sw level => Sys2Proof.Machine.execSwitchLevelChange c sw level s
  | .motionTimerExpiry c => Sys2Proof.Machine.execMotionTimerExpiry c s
  | .tick c => Sys2Proof.Machine.execTick c s
  | .expired c => Sys2Proof.Machine.execExpired c s
  | .undershoot c => Sys2Proof.Machine.execUndershoot c s
  | .stalled c => Sys2Proof.Machine.execStalled c s
  | .soakRemainingZero c => Sys2Proof.Machine.execSoakRemainingZero c s
  | .windowStart => Sys2Proof.Machine.execWindowStart s
  | .slotStart => Sys2Proof.Machine.execSlotStart s
  | .refreshVisit => Sys2Proof.Machine.execRefreshVisit s
  | .senseLevelChange r closed => Sys2Proof.Machine.execSenseLevelChange r closed s
  | .settleTimerExpiry r => Sys2Proof.Machine.execSettleTimerExpiry r s
  | .mismatchTimerExpiry r => Sys2Proof.Machine.execMismatchTimerExpiry r s
  | .testStepReading => Sys2Proof.Machine.execTestStepReading s
  | .testStepEnd => Sys2Proof.Machine.execTestStepEnd s
  | .tachoPulse => Sys2Proof.Machine.execTachoPulse s
  | .graceTimerExpiry => Sys2Proof.Machine.execGraceTimerExpiry s
  | .pulseTimerExpiry => Sys2Proof.Machine.execPulseTimerExpiry s
  | .overheatTimerExpiry c => Sys2Proof.Machine.execOverheatTimerExpiry c s
  | .powerOnReset => Sys2Proof.Machine.execPowerOnReset s
  | .externalReset => Sys2Proof.Machine.execExternalReset s
  | .breakEnd => Sys2Proof.Machine.execBreakEnd s
  | .lineFaultEnd => Sys2Proof.Machine.execLineFaultEnd s
  | .pacingCharacter span stopBitHigh => Sys2Proof.Machine.execPacingCharacter span stopBitHigh s
  | .pacingTimeout => Sys2Proof.Machine.execPacingTimeout s
  | .byteGapTimeout => Sys2Proof.Machine.execByteGapTimeout s
  | .framingError cause => Sys2Proof.Machine.execFramingError cause s

end Sys2Proof.Machine
end

