-- ==== Sys2Proof/Machine/Time.lean ====
section
/-!
DEFINITION. What the part does on its own while no command waits (log entry 1). Right after a reset the first window
starts and the refresh walk makes its first visit (R122, R137); otherwise one millisecond passes: every running
timer counts it, the inputs are sampled every 8 ms (R51, R140), and the events that are due join the queue of
commands, those that are due together in an open order (log entry 3).
-/

namespace Sys2Proof.Machine

open Sys2Proof

/-! ## One millisecond on every timer -/

/-- A running timer counts one millisecond. -/
def countTimer (t : Timer) : Timer := t.map (· + 1)

/-- The hold of a relay ends 20 ms after its refresh (R137). -/
def holdCount (t : Timer) : Timer := if isDue (countTimer t) 20 then none else countTimer t

def PerCavity.map {α : Type} (f : α → α) (p : PerCavity α) : PerCavity α := ⟨f p.a, f p.b⟩
def PerHeater.map {α : Type} (f : α → α) (p : PerHeater α) : PerHeater α :=
  ⟨f p.top, f p.bottom, f p.ring, f p.cat⟩
def PerRelay.map {α : Type} (f : α → α) (p : PerRelay α) : PerRelay α :=
  ⟨⟨p.elements.a.map f, p.elements.b.map f⟩, f p.master⟩
def PerChannel.map {α : Type} (f : α → α) (p : PerChannel α) : PerChannel α :=
  ⟨p.cav.map f, p.cat.map f, f p.front⟩
def PerSwitch.map {α : Type} (f : α → α) (p : PerSwitch α) : PerSwitch α :=
  ⟨f p.doorShut, f p.latchHome, f p.latchSet⟩

def ChannelEntry.count (e : ChannelEntry) : ChannelEntry :=
  { e with staleness := countTimer e.staleness }
def RateHistory.count (h : RateHistory) : RateHistory := { h with timer := countTimer h.timer }
def Converter.count (v : Converter) : Converter := { v with elapsed := v.elapsed + 1 }
def LockCtl.count (l : LockCtl) : LockCtl :=
  { l with motion := l.motion.map fun m => { m with elapsed := m.elapsed + 1 } }
def Engine.count (e : Engine) : Engine := { e with secondTimer := countTimer e.secondTimer }
def RelayEntry.count (x : RelayEntry) : RelayEntry :=
  { x with settle := countTimer x.settle, mismatch := countTimer x.mismatch, hold := holdCount x.hold }
def RelayTest.count (t : RelayTest) : RelayTest :=
  { t with step := t.step.map fun x => { x with elapsed := x.elapsed + 1 } }
def Fan.count (x : Fan) : Fan := { x with grace := countTimer x.grace, pulse := countTimer x.pulse }
def Alloc.count (x : Alloc) : Alloc := { x with slotElapsed := x.slotElapsed + 1 }
def Drive.count (d : Drive) : Drive :=
  { d with entries := d.entries.map RelayEntry.count, test := d.test.count }
def Sup.count (x : Sup) : Sup := { x with overheatTimer := x.overheatTimer.map countTimer }

/-- The low timer counts a millisecond in units of 0.1 ms (R171). -/
def Link.count (k : Link) : Link :=
  match k.receiver with
  | .inBreak low => { k with receiver := .inBreak (low + 10) }
  | _ => k

/-- The count of seconds since the reset (R169) and the clocks of the samples and visits. -/
def Clock.count (k : Clock) : Clock :=
  { stamp := if k.millis + 1 < 1000 then k.stamp else k.stamp + 1
    millis := if k.millis + 1 < 1000 then k.millis + 1 else 0
    sinceSample := if k.sinceSample + 1 < 8 then k.sinceSample + 1 else 0
    sinceVisit := k.sinceVisit + 1 }

namespace State

/-- One millisecond passes. -/
def countAll (s : State) : State :=
  { s with
    channels := s.channels.map ChannelEntry.count
    rates := s.rates.map RateHistory.count
    converter := s.converter.count
    locks := s.locks.map LockCtl.count
    engines := s.engines.map Engine.count
    alloc := s.alloc.count
    drive := s.drive.count
    fan := s.fan.count
    sup := s.sup.count
    link := s.link.count
    clock := s.clock.count }

/-! ## The events that are due -/

/-- A command when a condition holds. -/
def when (p : Bool) (c : Instr) : List Instr := if p then [c] else []

/-- The conversion in progress is over, with the codes on its channel's pins (R4). -/
def conversionEvent (s : State) : List Instr :=
  let codes := s.pins.codes.get s.converter.channel
  State.when s.conversionDue
    (match s.converter.origin with
     | .scan => .scanConversionComplete codes.1 codes.2
     | .sample => .onDemandConversionComplete codes.1 codes.2)

/-- The timers of one cavity that are due (R29, R53, R87, R166). -/
def cavityEvents (s : State) (c : Cavity) : List Instr :=
  State.when (s.rateDue c) (.rateTimerExpiry c)
    ++ State.when (s.motionDue c) (.motionTimerExpiry c)
    ++ State.when (s.tickDue c) (.tick c)
    ++ State.when (s.overheatDue c) (.overheatTimerExpiry c)

/-- The slot or window start that is due (R122). -/
def slotEvent (s : State) : List Instr :=
  State.when s.slotOver (if s.alloc.slot = some 15 then .windowStart else .slotStart)

/-- The reading or end of a test step that is due (R147). -/
def testEvent (s : State) : List Instr :=
  match s.drive.test.step with
  | some t =>
    if t.reading = none then State.when t.readingDue .testStepReading else State.when t.endDue .testStepEnd
  | none => []

/-- The timers of one relay that are due (R141). -/
def relayEvents (s : State) (r : Relay) : List Instr :=
  State.when (s.settleDue r) (.settleTimerExpiry r) ++ State.when (s.mismatchDue r) (.mismatchTimerExpiry r)

/-- The timers of the fan that are due (R156, R157). -/
def fanEvents (s : State) : List Instr :=
  State.when s.graceDue .graceTimerExpiry ++ State.when s.pulseDue .pulseTimerExpiry

/-- Every timer that is due. -/
def timersDue (s : State) : List Instr :=
  (allChannels.flatMap fun ch => State.when (s.stalenessDue ch) (.stalenessTimerExpiry ch))
    ++ s.conversionEvent
    ++ cavities.flatMap s.cavityEvents
    ++ s.slotEvent
    ++ allRelays.flatMap s.relayEvents
    ++ s.testEvent
    ++ s.fanEvents
    ++ State.when s.lineFaultDue .lineFault
    ++ State.when s.visitDue .refreshVisit

/-! ## Samples -/

/-- A sample of an input moves its filtered level where it agrees with the sample before and not with the level (R51,
R140). -/
def sampleMoves (p : SampledPin) (level : Option Bool) : Bool :=
  decide (p.level = p.lastSample) && decide (level ≠ some p.level)

/-- The switches of a lock in a fixed order. -/
def switches : List Switch := [.doorShut, .latchHome, .latchSet]

/-- The changes of a cavity's switch levels at a sample (R51). -/
def switchMovesDue (s : State) (c : Cavity) : List Instr :=
  switches.flatMap fun sw =>
    let p := (s.pins.switches.get c).get sw
    State.when (sampleMoves p ((s.lock c).levels.get sw)) (.switchLevelChange c sw p.level)

/-- The change of a relay's sense level at a sample (R140). -/
def senseMovesDue (s : State) (r : Relay) : List Instr :=
  let p := s.pins.contacts.get r
  State.when (sampleMoves p (s.relay r).sense) (.senseLevelChange r p.level)

/-- The level changes that a sample brings. -/
def sampleDue (s : State) : List Instr :=
  if s.clock.sinceSample = 0 then cavities.flatMap s.switchMovesDue ++ allRelays.flatMap s.senseMovesDue
  else []

/-- A sampled input keeps its sample for the next. -/
def SampledPin.sampled (p : SampledPin) : SampledPin := { p with lastSample := p.level }

/-- Every input keeps its sample, at a sample. -/
def keepSamples (s : State) : State :=
  if s.clock.sinceSample = 0 then
    s.setPins { s.pins with
      switches := s.pins.switches.map (PerSwitch.map SampledPin.sampled)
      contacts := s.pins.contacts.map SampledPin.sampled }
  else s

/-! ## The idle step -/

/-- The commands that wait once these are due together (log entry 3). -/
def await (due : List Instr) (s : State) : State :=
  if due.isEmpty then s else drawOrder { s with pending := s.pending ++ arrange due s.order.timers }

/-- One millisecond passes, and the events that are due then wait (log entry 1). -/
def millisecond (s : State) : State :=
  let s1 := s.countAll
  await (s1.timersDue ++ s1.sampleDue) s1.keepSamples

/-- What falls at the end of a reset, before any time has passed: the first window starts (R122) and the refresh walk
makes its first visit (R137). -/
def startsDue (s : State) : List Instr :=
  State.when (decide (s.alloc.slot = none)) .windowStart ++ State.when s.visitDue .refreshVisit

/-- What the part does when no command waits. -/
def idle (s : State) : State := if s.startsDue.isEmpty then s.millisecond else await s.startsDue s

/-- The front command and the state with the queue's rest. -/
def takePending (s : State) : Option (Instr × State) :=
  match s.pending with
  | [] => none
  | c :: rest => some (c, { s with pending := rest })

/-- The state with a command in front of its queue. -/
def withCommand (c : Option Instr) (s : State) : State :=
  match c with
  | some i => { s with pending := i :: s.pending }
  | none => s

end State

end Sys2Proof.Machine
end

