-- ==== Sys2Proof/Machine/Step.lean ====
section
/-!
DEFINITION. One step: the command at the front of the queue, or what the part does on its own when none waits; and
the host's way to put a table word in front.
-/

namespace Sys2Proof.Machine

open Sys2Proof

/-- One step (log entry 1). -/
def step (s : State) : Host.Outcome State Fault Refusal :=
  match s.takePending with
  | some (c, rest) => exec c rest
  | none => .next s.idle

/-- The state with the command that a table word spells in front of its queue. -/
def State.withFetchWord (s : State) (nbits w : Nat) : State := s.withCommand (decodeTableWord nbits w)

end Sys2Proof.Machine
end

