-- ==== Sys2Proof/WellFormed.lean ====
section
/-!
DEFINITION. What every command of the block must satisfy to be one that the line or the hardware can bring: a payload of
at most 24 bytes (R173), a broadcast ALL STOP without payload (R175), a kind byte that names no request (R182), a frame
that is a complete frame (R173), a span that two falling edges can give (R172) and a length byte above 24 (R173).
-/

namespace Sys2Proof

/-- A request payload fits its frame: at most 24 bytes (R173). -/
def payloadFits (payload : List Byte) : Bool := decide (payload.length ≤ 24)

/-- A received frame is complete: address, kind, length, as many payload bytes, and the check (R173). -/
def frameComplete (frame : List Byte) : Bool := (parseFrame frame).isSome

/-- The second falling edge comes no later than 555.6 µs after the first; a later one is the timeout (R172). -/
def spanMeasured (span : Nat) : Bool := decide (span ≤ 5556)

/-- The commands that can arrive. -/
def Instr.wellFormed : Instr → Bool
  | .identify p => payloadFits p
  | .cavityStatus p => payloadFits p
  | .plantStatus p => payloadFits p
  | .readOutcome p => payloadFits p
  | .readEvents p => payloadFits p
  | .writeBand p => payloadFits p
  | .readBand p => payloadFits p
  | .setElement p => payloadFits p
  | .setBudget p => payloadFits p
  | .freeze p => payloadFits p
  | .appendSegment p => payloadFits p
  | .replaceSegment p => payloadFits p
  | .readSegment p => payloadFits p
  | .clearProgram p => payloadFits p
  | .start p => payloadFits p
  | .pause p => payloadFits p
  | .resume p => payloadFits p
  | .step p => payloadFits p
  | .abort p => payloadFits p
  | .allStop broadcast p => if broadcast then p.isEmpty else payloadFits p
  | .lock p => payloadFits p
  | .unlock p => payloadFits p
  | .clear p => payloadFits p
  | .relayTest p => payloadFits p
  | .sample p => payloadFits p
  | .unknownRequest kind p => payloadFits p && !Machine.namesRequest kind
  | .frameDiscarded frame => frameComplete frame
  | .lineBreak => true
  | .lineFault => true
  | .collision => true
  | .scanConversionComplete _ _ => true
  | .onDemandConversionComplete _ _ => true
  | .stalenessTimerExpiry _ => true
  | .rateTimerExpiry _ => true
  | .switchLevelChange _ _ _ => true
  | .motionTimerExpiry _ => true
  | .tick _ => true
  | .expired _ => true
  | .undershoot _ => true
  | .stalled _ => true
  | .soakRemainingZero _ => true
  | .windowStart => true
  | .slotStart => true
  | .refreshVisit => true
  | .senseLevelChange _ _ => true
  | .settleTimerExpiry _ => true
  | .mismatchTimerExpiry _ => true
  | .testStepReading => true
  | .testStepEnd => true
  | .tachoPulse => true
  | .graceTimerExpiry => true
  | .pulseTimerExpiry => true
  | .overheatTimerExpiry _ => true
  | .powerOnReset => true
  | .externalReset => true
  | .breakEnd => true
  | .lineFaultEnd => true
  | .pacingCharacter span _ => spanMeasured span
  | .pacingTimeout => true
  | .byteGapTimeout => true
  | .framingError cause => Machine.realFraming cause

end Sys2Proof
end

