-- ==== Sys2Proof/Safety.lean ====
section
/-!
DEFINITION. The terms the claims use: the standing conditions of the manual as predicates over State, what a request's
acceptance and reply leave, and a run that is safe because every one of its states meets them.
-/

namespace Sys2Proof.Machine

open Sys2Proof

/-- A timer has reached its limit, in milliseconds. -/
def RanOut (t : Timer) (limit : Nat) : Prop := ∃ n, t = some n ∧ limit ≤ n

/-- A field that takes one of `n` codes names none of them: it is missing, or its code is beyond the last (R183,
R185). -/
def Fields.NamesNone (f : Fields) (i n : Nat) : Prop := ∀ x, f.nat i = some x → n ≤ x

namespace State

/-! ## The window plan -/

/-- In every slot the sum of the grants in force is within the budget in force (R127). -/
def PlanWithinBudget (s : State) : Prop := ∀ k, s.slotSum k ≤ s.alloc.budgetInForce

/-- An element holds a grant in force for the current slot or a later one of the window. -/
def holdsGrant (s : State) (e : Element) : Bool :=
  match s.alloc.slot with
  | some k => (s.alloc.grants.get e).holdsFrom k
  | none => false

/-- An element without permission holds no grant in force (R130). -/
def GrantsPermitted (s : State) : Prop := ∀ e, s.holdsGrant e = true → s.permission e = true

/-- A channel in VALID has a filtered temperature (R11). -/
def ValidHasF (s : State) : Prop := ∀ ch, s.isValid ch = true → (s.f ch).isSome = true

/-! ## What the host writes -/

/-- A band record within its ranges (R33). -/
def BandLegal (r : BandRecord) : Prop := 0 ≤ r.limit ∧ r.limit ≤ 6000 ∧ r.fanFloor ≤ 3

/-- A temperature target within its range (R73). -/
def TargetLegal (t : Int) : Prop := 0 ≤ t ∧ t ≤ 5500

/-- A time limit within its range, where there is one (R73). -/
def LimitLegal (x : Option Nat) : Prop := ∀ l, x = some l → 60 ≤ l ∧ l ≤ 21600

/-- A stored segment record within its ranges (R73, R75). -/
def RecordLegal : SegmentRecord → Prop
  | .engage => True
  | .release => True
  | .catalyst t l => TargetLegal t ∧ LimitLegal l
  | .cool t l level => TargetLegal t ∧ LimitLegal l ∧ level ≤ 3
  | .ramp r =>
    TargetLegal r.target ∧ (∀ x, r.rate = some x → 1 ≤ x ∧ x ≤ 300) ∧ LimitLegal r.timeLimit
      ∧ r.elements ≠ .empty ∧ r.bias ≤ 16 ∧ 50 ≤ r.band ∧ r.band ≤ 1000
  | .soak r =>
    TargetLegal r.target ∧ 60 ≤ r.duration ∧ r.duration ≤ 14400 ∧ 20 ≤ r.tolerance ∧ r.tolerance ≤ 300
      ∧ LimitLegal r.timeLimit ∧ r.elements ≠ .empty ∧ r.bias ≤ 16 ∧ 50 ≤ r.band ∧ r.band ≤ 1000

/-- The standing condition on a band table: bands 1 to k are enabled for some k from 1 to 8, the others are not, and
the limits of the enabled ones strictly ascend (R34). -/
def BandsAscend (t : Vector BandRecord 8) : Prop :=
  ∃ k, 1 ≤ k ∧ k ≤ 8 ∧ (∀ n : Fin 8, t[n].enabled = true ↔ n.val < k)
    ∧ ∀ m n : Fin 8, m < n → n.val < k → t[m].limit < t[n].limit

/-- Every band table is ordered and its records in range (R33, R34). -/
def BandsLegal (s : State) : Prop :=
  ∀ c, BandsAscend (s.bandTable c) ∧ ∀ n : Fin 8, BandLegal (s.bandTable c)[n]

/-- Every program holds at most 12 records, each in range (R72, R73). -/
def ProgramsLegal (s : State) : Prop := ∀ c, (s.program c).length ≤ 12 ∧ ∀ r ∈ s.program c, RecordLegal r

/-- The budget set is from 1000 to 7400 W and every rating from 0 to 3500 W in steps of 10 W (R119, R120). -/
def PowerLegal (s : State) : Prop :=
  1000 ≤ s.tables.budgetSet ∧ s.tables.budgetSet ≤ 7400 ∧ ∀ e, s.rating e ≤ 3500 ∧ s.rating e % 10 = 0

/-! ## The lock, the engine, the fan, the Supervisor, the Event Queue -/

/-- A motion, its motor and its cause belong together in each lock state (R53, R56, R57, R60). -/
def MotionLegal (l : LockCtl) : Prop :=
  match l.state, l.motor, l.motion with
  | .engaging, .forward, some m => m.cause = .engage ∨ m.cause = .adopted ∨ m.cause = .slipRedrive
  | .releasing, .reverse, some m => m.cause = .release
  | .returning, .reverse, some m => m.cause = .jamReturn ∨ m.cause = .slipReturn ∨ m.cause = .adopted
  | .released, .stopped, none => True
  | .engaged, .stopped, none => True
  | .faulted, .stopped, none => True
  | .notAdopted, .stopped, none => True
  | _, _, _ => False

/-- What goes together in a Door Lock Controller (R52): the motion with the state and the motor; release-pending in
ENGAGED alone; LOCK_STUCK exactly in FAULTED; a request in the slot only during a motion; and once adopted, a level for
every switch. -/
structure LockLegal (l : LockCtl) : Prop where
  motion : MotionLegal l
  pending : l.releasePending ≠ none → l.state = .engaged
  stuck : l.faults.stuck = true ↔ l.state = .faulted
  slot : l.slot ≠ none → l.motion ≠ none
  levels : l.state ≠ .notAdopted → l.allPresent = true

/-- Both locks are as R52 says. -/
def LocksLegal (s : State) : Prop := ∀ c, LockLegal (s.lock c)

/-- The table lock of a cavity is set exactly while its engine is not IDLE (R49). -/
def TableLockFollows (s : State) : Prop := ∀ c, s.tableLocks.get c = true ↔ (s.engine c).state ≠ .idle

/-- The band index of a cavity is OVER while its channel is not VALID (R36). -/
def IndexOverUnlessValid (s : State) : Prop := ∀ c, s.isValid (.cav c) = false → s.bandIndex.get c = .over

/-- The fan level is the greatest of the five demands, and the demands are those of the bands, the engines, the FRONT
channel and TRIP as they stand (R151 to R153, R155). -/
structure FanFollows (s : State) : Prop where
  level : s.fan.level = s.fan.greatest
  cavity : ∀ c, s.fan.cavityDemand.get c = max (s.bandFields c).fanFloor (s.engine c).fanRequest
  front : s.fan.frontInvalid = if s.isValid .front then 0 else 3
  trip : s.fan.tripDemand = if s.sup.trip then 3 else 0

/-- Drive enable and the sources of heat inhibit are as their conditions stand (R162, R163). -/
def EnableFollows (s : State) : Prop :=
  (s.sup.driveEnable = true ↔
    s.sup.readiness = true ∧ s.sup.trip = false ∧ s.drive.elementWelded = false ∧ s.drive.masterWelded = false
      ∧ (∀ c, s.sup.overheat.get c = false) ∧ ∀ c, s.sup.runaway.get c = false)
  ∧ s.sup.inhibit.driveOff = !s.sup.driveEnable ∧ s.sup.inhibit.fanStall = s.fan.stall
  ∧ s.sup.inhibit.frontFailed = s.isFailed .front ∧ s.sup.inhibit.frontHot = s.fan.frontHotInhibit

/-- The Event Queue holds at most 16 records, and none is on its way between commands (R169). -/
def QueueLegal (s : State) : Prop := s.events.queue.length ≤ 16 ∧ s.events.outbox = []

/-- Every standing condition. -/
structure Sound (s : State) : Prop where
  plan : s.PlanWithinBudget
  grants : s.GrantsPermitted
  valid : s.ValidHasF
  bands : s.BandsLegal
  index : s.IndexOverUnlessValid
  programs : s.ProgramsLegal
  power : s.PowerLegal
  locks : s.LocksLegal
  tableLocks : s.TableLockFollows
  fan : s.FanFollows
  enable : s.EnableFollows
  queue : s.QueueLegal

/-! ## A request on the line -/

/-- The receiver takes what is on the line: it is not in LINE_FAULT (R171). -/
abbrev takesLine (s : State) : Prop := s.link.receiver ≠ .lineFault

/-- COLLISION_SEEN as a reply captures it: set before, or by the edges of the frame that met a sample reply that
waits (R177, R178). -/
def collided (s : State) : Bool := s.link.collisionSeen || decide (s.link.transmitter = .waitingSample)

/-- The attention flags a reply captures from a state, with COLLISION_SEEN as it was before the request (R178). -/
def flagsOf (s t : State) : AttentionFlags := { t.attentionFlags with collisionSeen := s.collided }

/-- The state with a reply in the transmitter, the receiver in WAIT_BREAK and COLLISION_SEEN cleared at its capture
(R175, R176, R178). -/
def withReply (r : Reply) (s : State) : State :=
  s.setLink { s.link with receiver := .waitBreak, transmitter := .sending r, collisionSeen := false }

/-- The state after a request that reads alone: nothing is new but the reply, with a payload (R179). -/
def answered (payload : List Byte) (s : State) : State :=
  s.withReply ⟨none, false, s.flagsOf s, payload⟩

/-- The state after a request that its owner refuses without a payload: nothing is new but the reply (R179). -/
def refusedWith (k : Reason) (s : State) : State := s.withReply ⟨some k, false, s.flagsOf s, []⟩

/-- A state in which a request has been answered, DONE without a reason and REFUSED with one: its reply is in the
transmitter, with the flags as the state then has them, and nothing else of the link is new but EVENTS_LOST (R176,
R178, R179). -/
def replied (k : Option Reason) (clamped : Bool) (payload : List Byte) (s t : State) : Prop :=
  t.link = { s.link with
    receiver := .waitBreak
    transmitter := .sending ⟨k, clamped, s.flagsOf t, payload⟩
    collisionSeen := false
    eventsLost := t.link.eventsLost }

/-- A state in which a request has been carried out with DONE (R176, R179). -/
abbrev repliedDone (clamped : Bool) (payload : List Byte) (s t : State) : Prop := s.replied none clamped payload t

/-! ## Payloads of requests (R183 to R185) -/

/-- The payload of a request whose one field is an enumerated code. -/
def fieldPayload (code : Nat) : List Byte := [1, 0, BitVec.ofNat 8 code]

/-- The payload of a request whose one field is the cavity. -/
def cavityPayload (c : Cavity) : List Byte := fieldPayload (cavityCode c)

/-- The payload of START or UNLOCK with its option given. -/
def optionPayload (c : Cavity) (yes : Bool) : List Byte :=
  [3, 0, BitVec.ofNat 8 (cavityCode c), if yes then 1 else 0]

/-- The payload of READ BAND or READ SEGMENT: the cavity and a number. -/
def numberPayload (c : Cavity) (n : Nat) : List Byte :=
  [3, 0, BitVec.ofNat 8 (cavityCode c), BitVec.ofNat 8 n]

/-- The payload of WRITE BAND: band `n + 1` of a cavity with a limit, a fan floor and the other fields of a record. -/
def bandPayload (c : Cavity) (n : Fin 8) (limit : Int) (floor : Nat) (r : BandRecord) : List Byte :=
  [0xFF, 0, BitVec.ofNat 8 (cavityCode c), BitVec.ofNat 8 (n.val + 1)] ++ s16 limit
    ++ [if r.enabled then 1 else 0, BitVec.ofNat 8 (policyCode r.policy), BitVec.ofNat 8 floor,
        BitVec.ofNat 8 (bitsNat (elementSetBits r.permitted)),
        BitVec.ofNat 8 (catRequirementCode r.catRequirement)]

/-- The payload of SET ELEMENT. -/
def ratingPayload (e : Element) (n : Nat) : List Byte :=
  [3, 0, BitVec.ofNat 8 (elementCode e)] ++ u16 n

/-- The payload of SET BUDGET. -/
def budgetPayload (n : Nat) : List Byte := [1, 0] ++ u16 n

/-! ## An engine through an event -/

/-- An engine right after its abort, while its lock holds it in SAFE_COOL (R110). -/
def abortedBy (k : Condition) (e : Engine) : Engine :=
  { e with
    state := .safeCool
    recorded := some k
    catalyst := .off
    fanRequest := 3
    holdCount := none
    engageWaiting := false }

/-- An engine in IDLE right after a cycle that ended with an outcome and a condition, its lock then in a state (R113 to
R115). -/
def endedBy (r : CycleResult) (k : Condition) (lock : LockState) (e : Engine) : Engine :=
  { e with
    state := .idle
    segmentIndex := none
    soakRemaining := none
    holdCount := none
    engageWaiting := false
    recorded := none
    catalyst := .off
    fanRequest := 0
    secondTimer := none
    outcome := some ⟨r, e.segmentIndex.getD 0, k, e.peakF, e.cycleSeconds, e.soakSeconds, lock⟩ }

/-- An engine after the abort of its cycle with its lock in a state: in IDLE where the lock does not hold it, RELEASED
or FAULTED, and otherwise in SAFE_COOL (R110, R113). -/
def abortedUnder (lock : LockState) (k : Condition) (e : Engine) : Engine :=
  if lock = .released ∨ lock = .faulted then endedBy .aborted k lock e else abortedBy k e

/-- The engine of a cavity after an abort, which is taken in RUNNING, PAUSED and HELD alone (R110). -/
def afterAbort (k : Condition) (s : State) (c : Cavity) : Engine :=
  if s.inCycle c then abortedUnder (s.lock c).state k (s.engine c) else s.engine c

/-- An engine in HELD right after a segment of a single-step cycle that ended DONE (R108). -/
def heldAfter (e : Engine) : Engine :=
  { e with
    state := .held
    holdCount := some 1800
    fanRequest := 0
    catalyst := match e.catalyst with
      | .on t => .suspended t
      | x => x }

/-- An engine RUNNING right after it has entered a segment at an index, with a start value for a RAMP and its lock in a
state before the entry (R90, R93 to R95, R97, R99). -/
def entered (index : Nat) (start : Int) (lock : LockState) (r : SegmentRecord) (e : Engine) : Engine :=
  { e with
    state := .running
    segmentIndex := some index
    segmentElapsed := 0
    undershootCount := 0
    accumulator := 0
    holdCount := none
    engageWaiting := decide (r = .engage ∧ lock = .returning)
    soakRemaining := match r with
      | .soak x => some x.duration
      | _ => none
    fanRequest := match r with
      | .cool _ _ level => level
      | _ => 0
    catalyst := match r with
      | .catalyst t _ => .on t
      | _ => e.catalyst
    setpoint := match r with
      | .ramp x => some (if x.target ≤ start ∨ x.rate = none then x.target else start)
      | .soak x => some x.target
      | _ => e.setpoint }

/-- The start value of a RAMP that an engine enters after the segment at an index: that segment's setpoint where it was
a RAMP or a SOAK, and otherwise F (R95). -/
def StartsAt (s : State) (c : Cavity) (e : Engine) (index : Nat) (f start : Int) : Prop :=
  match recordAt (s.program c) index with
  | some (.ramp _) => e.setpoint = some start
  | some (.soak _) => e.setpoint = some start
  | _ => start = f

/-- The end condition of a segment does not hold, for F, the engine's items and the lock state as given (R93 to R100).
-/
def GoesOn (s : State) (c : Cavity) (f : Int) (e : Engine) (lock : LockState) : SegmentRecord → Prop
  | .engage => lock ≠ .engaged
  | .catalyst t _ => ¬ (s.isValid (.cat c) = true ∧ ∃ x, s.f (.cat c) = some x ∧ t - 200 ≤ x)
  | .ramp r => e.setpoint ≠ some r.target ∨ f < r.target - 50
  | .soak _ => e.soakRemaining ≠ some 0
  | .cool t _ _ => t < f
  | .release => lock ≠ .released

/-- An entered segment has its lock request answered DONE or BUSY: an ENGAGE finds no open door, and a lock that has
adopted a state (R55, R61, R93). -/
def EntryAnswered (l : LockCtl) (r : SegmentRecord) : Prop :=
  r = .engage → l.state ≠ .notAdopted ∧ (l.state = .released → l.levels.doorShut = some true)

/-- A lock as an abort leaves it (R110, step 6), under a door policy: asked for a release with the wait option in
ENGAGED, ENGAGING and RELEASING, and not asked otherwise. -/
def askedByAbort (policy : DoorPolicy) (l : LockCtl) : LockCtl :=
  match l.state with
  | .engaged =>
    if policy = .free then
      { l with state := .releasing, motor := .reverse, motion := some ⟨.release, 0⟩, releasePending := none }
    else { l with releasePending := some .engine }
  | .engaging => { l with slot := some ⟨.release, .engine⟩ }
  | .releasing =>
    { l with slot := match l.slot with
      | some ⟨.engage, _⟩ => none
      | x => x }
  | _ => l

/-- A lock as the entry of a segment leaves it under a door policy: ENGAGE asks for an engage, RELEASE for a release
with the wait option, both of origin ENGINE, and the other kinds for nothing (R55, R58, R61, R68). -/
def askedByEntry (policy : DoorPolicy) (r : SegmentRecord) (l : LockCtl) : LockCtl :=
  match r, l.state with
  | .engage, .released =>
    if l.levels.doorShut ≠ some true then l
    else if l.levels.latchSet = some true then { l with state := .engaged, motor := .stopped, motion := none }
    else { l with state := .engaging, motor := .forward, motion := some ⟨.engage, 0⟩ }
  | .engage, .engaging =>
    { l with slot := match l.slot with
      | some ⟨.release, _⟩ => none
      | x => x }
  | .engage, .engaged => { l with releasePending := none }
  | .engage, .releasing => { l with slot := some ⟨.engage, .engine⟩ }
  | .release, .engaging => askedByAbort policy l
  | .release, .engaged => askedByAbort policy l
  | .release, .releasing => askedByAbort policy l
  | _, _ => l

/-- What the end DONE of the segment at an index leads to, for an engine and its lock at that end, and the lock and the
engine after it: the end of the cycle after the last segment, HELD in a single-step cycle, and otherwise the next
segment, with the lock asked by its entry, where that segment goes on (R68, R90, R108, R114). -/
def DoneLeadsTo (s : State) (c : Cavity) (index : Nat) (f : Int) (l : LockCtl) (e : Engine) (l' : LockCtl)
    (e' : Engine) : Prop :=
  ((s.program c).length = index → e' = endedBy .completed .done l.state e ∧ l' = l)
  ∧ (index < (s.program c).length → e.singleStep = true → e' = heldAfter e ∧ l' = l)
  ∧ ∀ r start, e.singleStep = false → recordAt (s.program c) (index + 1) = some r → s.StartsAt c e index f start →
      EntryAnswered l r → s.GoesOn c f (entered (index + 1) start l.state r e) (askedByEntry (s.policy c) r l).state r →
      e' = entered (index + 1) start l.state r e ∧ l' = askedByEntry (s.policy c) r l

/-- A lock without the requests that the host has left waiting (R67). -/
def withoutHost (l : LockCtl) : LockCtl :=
  { l with
    slot := match l.slot with
      | some ⟨_, .host⟩ => none
      | x => x
    releasePending := if l.releasePending = some .host then none else l.releasePending }

/-- A lock that has begun a release (R58). -/
def releaseBegun (l : LockCtl) : LockCtl :=
  { l with state := .releasing, motor := .reverse, motion := some ⟨.release, 0⟩, releasePending := none }

/-- A lock at rest in a state (R53). -/
def atRest (x : LockState) (l : LockCtl) : LockCtl := { l with state := x, motor := .stopped, motion := none }

/-- A lock in FAULTED with LOCK_STUCK (R63). -/
def stuckAt (l : LockCtl) : LockCtl :=
  { l with state := .faulted, motor := .stopped, motion := none, slot := none, releasePending := none,
           faults := { l.faults with stuck := true } }

/-- A lock that has come home at the end of a motion, with no engage in its slot: RELEASED, with LOCK_JAM after a jam
return (R57, R60, R62). -/
def comeHome (l : LockCtl) : LockCtl :=
  { l with state := .released, motor := .stopped, motion := none, slot := none,
           faults := { l.faults with jam := l.faults.jam
             || (decide (l.state = .returning) && l.motion.any fun m => decide (m.cause = .jamReturn)) } }

/-- The shift of the slot-use record at a window start brings RUNAWAY to a cavity: it changes the record to one
without a held slot, at a rate of 40.0 °C per minute or more, with RUNAWAY not latched (R135, R165). -/
def RunawayAtShift (s : State) (c : Cavity) : Prop :=
  (∃ rate, (s.rateOf c).rate = some rate ∧ 400 ≤ rate) ∧ (s.alloc.slotUse.get c).heldThis = false
    ∧ (s.alloc.slotUse.get c).heldLast = true ∧ s.sup.runaway.get c = false

/-- A record of what happened is in the Event Queue. -/
def recorded (body : EventBody) (s : State) : Prop := ∃ r ∈ s.events.queue, r.body = body

/-- A record of what happened is in the Event Queue, or its loss is noted (R169). -/
def reported (body : EventBody) (s : State) : Prop := s.recorded body ∨ s.link.eventsLost = true

/-- No element of the cavity holds a grant in force. -/
def coldNow (s : State) (c : Cavity) : Prop := ∀ h, s.holdsGrant ⟨c, h⟩ = false

/-- The records of one event have joined the Event Queue in their order, as far as there was room, with the stamp of the
event, and the loss of the others is noted (R169). -/
def queued (bodies : List EventBody) (s t : State) : Prop :=
  t.events = ⟨(s.events.queue ++ bodies.map fun b => (⟨b, s.clock.stamp⟩ : EventRecord)).take 16, []⟩
    ∧ t.link = { s.link with
        eventsLost := s.link.eventsLost || decide (16 < s.events.queue.length + bodies.length) }

/-- Every lock fault that an event has latched is recorded, and one that it has not latched, or that was latched before,
is not recorded by it (R66). -/
def LockFaultsRecorded (c : Cavity) (s t : State) : Prop :=
  ∀ k : LockFault,
    let body := EventBody.faultRaised (some c) (lockFaultCode k) none
    let latchedNow := (s.lock c).faults.has k = false ∧ (t.lock c).faults.has k = true
    (latchedNow → t.reported body)
    ∧ (¬ latchedNow →
        t.events.queue.filter (fun r => decide (r.body = body))
          = s.events.queue.filter (fun r => decide (r.body = body)))

/-- The end of a cavity's cycle on a condition is recorded: the end of the segment in RUNNING and PAUSED, and the end of
the cycle where its engine is in IDLE (R110, R113). -/
def AbortRecorded (c : Cavity) (k : Condition) (s t : State) : Prop :=
  ((s.engine c).state = .running ∨ (s.engine c).state = .paused →
      t.reported (.segmentEnded c ((s.engine c).segmentIndex.getD 0) k))
    ∧ ((t.engine c).state = .idle → t.reported (.cycleEnded c .aborted k))

/-- No end of a cavity's segment or cycle is recorded by an event. -/
def CycleUnrecorded (c : Cavity) (s t : State) : Prop :=
  let ends := fun (r : EventRecord) => match r.body with
    | .segmentEnded d _ _ => decide (d = c)
    | .cycleEnded d _ _ => decide (d = c)
    | _ => false
  t.events.queue.filter ends = s.events.queue.filter ends

/-- What every end DONE of the segment at an index leaves beside the engine and the lock: its record, and with the last
segment that of the cycle; the table lock clear in IDLE; and no grant unless the engine runs on (R49, R90, R114, R131).
-/
def DoneRecorded (c : Cavity) (index : Nat) (s t : State) : Prop :=
  t.reported (.segmentEnded c index .done)
    ∧ ((s.program c).length = index → t.reported (.cycleEnded c .completed .done))
    ∧ t.tableLocks.get c = (s.tableLocks.get c && decide ((t.engine c).state ≠ .idle))
    ∧ ((t.engine c).state ≠ .running → coldNow t c)

/-- A channel has been measured, and readiness is as its conditions then stand, with READY and the drive enable and heat
inhibit of that moment where it is new (R161 to R163). -/
def ChannelMeasured (ch : Channel) (s t : State) : Prop :=
  t.sup.measured = s.sup.measured.set ch true ∧ t.sup.startupDone = s.sup.startupDone
    ∧ t.sup.adopted = s.sup.adopted
    ∧ (t.sup.readiness = true ↔ s.sup.readiness = true
        ∨ ((∀ d, d ≠ ch → s.sup.measured.get d = true) ∧ s.sup.startupDone = true
          ∧ ∀ c, s.sup.adopted.get c = true))
    ∧ (s.sup.readiness = false → t.sup.readiness = true → t.reported .ready ∧ t.EnableFollows)

/-- An engine after the count of one tick (R87). -/
def ticked (e : Engine) : Engine := { e with cycleSeconds := e.cycleSeconds + 1, secondTimer := some 0 }

/-- The lock holds an aborted engine in SAFE_COOL: it is neither RELEASED nor FAULTED (R113). -/
abbrev lockHolds (s : State) (c : Cavity) : Prop :=
  (s.lock c).state ≠ .released ∧ (s.lock c).state ≠ .faulted

/-- Nothing forces the end of the cavity's segment: the channel is VALID with an F that is not above the ceiling, and
the lock is not FAULTED (R102 to R104). -/
def unforced (s : State) (c : Cavity) (f : Int) : Prop :=
  s.isValid (.cav c) = true ∧ s.f (.cav c) = some f ∧ (∀ m, (s.engine c).ceiling = some m → f ≤ m)
    ∧ (s.lock c).state ≠ .faulted

/-- What a command that concerns one cavity leaves alone: the tables, the measurements, the pins, the clocks, the
waiting commands, and the engine and lock of the other cavity. -/
structure Elsewhere (c : Cavity) (s t : State) : Prop where
  tables : t.tables = s.tables
  channels : t.channels = s.channels
  rates : t.rates = s.rates
  converter : t.converter = s.converter
  pins : t.pins = s.pins
  clock : t.clock = s.clock
  pending : t.pending = s.pending
  engine : t.engine c.other = s.engine c.other
  lock : t.lock c.other = s.lock c.other
  tableLock : t.tableLocks.get c.other = s.tableLocks.get c.other
  bandIndex : t.bandIndex = s.bandIndex

/-! ## Safe runs -/

/-- A run is safe so far: every state it went through meets every standing condition. -/
def SafeRun : List State → Prop
  | [] => True
  | s :: rest => s.Sound ∧ SafeRun rest

end State

end Sys2Proof.Machine
end

