-- ==== Sys2Proof/Certificates/Slice0/Obligations.lean ====
section
/-!
DEFINITION. The statements about the block, for the provers: each a proposition named Obligations.<what it states>.
-/

open Sys2Proof Sys2Proof.Machine Sys2Proof.Machine.State Host

/-! ## The queue of waiting commands -/

/-- One step takes the command at the front of the queue and is its meaning on the state with the queue's rest. -/
def Obligations.StepRunsFrontCommand : Prop :=
  ∀ (i : Instr) (rest : List Instr) (s : State),
    step { s with pending := i :: rest } = exec i { s with pending := rest }

/-- No command stops the part, and none touches the queue of waiting commands (log entries 2 and 31). -/
def Obligations.CommandsAnswerNextAndKeepQueue : Prop :=
  ∀ (i : Instr) (s : State), ∃ t, exec i s = .next t ∧ t.pending = s.pending

/-! ## Requests that read -/

/-- IDENTIFY, CAVITY STATUS, PLANT STATUS, READ OUTCOME, READ BAND and READ SEGMENT change nothing but the link, whose
transmitter holds the reply with everything captured from the state as it stands; READ SEGMENT of an index outside the
program is refused with NO_SUCH and shows the count (R48, R78, R82, R83, R115, R179, R180). The three codes of IDENTIFY
are opaque (log entry 5). -/
def Obligations.StatusRequestsOnlyReply : Prop :=
  ∀ s : State, s.takesLine →
    exec (.identify []) s = .next (s.answered
      ([0x3F] ++ u16 Config.vendorCode.toNat ++ u16 Config.partCode.toNat ++ [Config.siliconRevision]
        ++ u8 (s.link.nodeAddress.val + 1) ++ flag s.sup.readiness ++ flag s.tables.frozen))
    ∧ (∀ c, exec (.cavityStatus (cavityPayload c)) s = .next (s.answered (encodeItems (s.cavityItems c))))
    ∧ (∀ x : Section, exec (.plantStatus (fieldPayload (codeIn sections x))) s
        = .next (s.answered (encodeItems (s.sectionItems x))))
    ∧ (∀ c, exec (.readOutcome (cavityPayload c)) s
        = .next (s.answered (encodeItems (outcomeItems (s.engine c).outcome))))
    ∧ (∀ (c : Cavity) (n : Fin 8), exec (.readBand (numberPayload c (n.val + 1))) s
        = .next (s.answered ([0x3F] ++ s16 (s.bandTable c)[n].limit ++ flag (s.bandTable c)[n].enabled
            ++ u8 (policyCode (s.bandTable c)[n].policy) ++ u8 (s.bandTable c)[n].fanFloor
            ++ setBytes (elementSetBits (s.bandTable c)[n].permitted)
            ++ u8 (catRequirementCode (s.bandTable c)[n].catRequirement))))
    ∧ (∀ c index r, index < 256 → recordAt (s.program c) index = some r →
        exec (.readSegment (numberPayload c index)) s
          = .next (s.answered (encodeItems (programItems index r (s.count c)))))
    ∧ (∀ c index, index < 256 → index = 0 ∨ (s.program c).length < index →
        exec (.readSegment (numberPayload c index)) s = .next
          (s.withReply ⟨some .noSuch, false, s.flagsOf s, [0, 8, BitVec.ofNat 8 (s.program c).length]⟩))

/-- READ EVENTS removes up to four records from the head of the queue and replies with the count left and those
records, oldest first; the capture of EVENTS_LOST clears it, and nothing else changes but the next draw of the open
orders (R170, R178). -/
def Obligations.ReadEventsTakesFourRecords : Prop :=
  ∀ s : State, s.takesLine → s.events.outbox = [] →
    exec (.readEvents []) s = .next
      { s.drawOrder with
        events := { queue := s.events.queue.drop 4, outbox := [] }
        link := { s.link with
          receiver := .waitBreak
          transmitter := .sending ⟨none, false,
            { s.flagsOf s with eventsPending := decide (4 < s.events.queue.length) },
            readEventsPayload (s.events.queue.length - 4) (s.events.queue.take 4)⟩
          collisionSeen := false
          eventsLost := false } }

/-! ## Tables -/

/-- WRITE BAND of an idle cavity, on a table that is neither frozen nor locked, for a record that keeps the standing
condition: the record is stored with its limit and fan floor clamped, the reply is DONE and carries the record as
stored, and nothing else of the tables changes; the band becomes the plain lookup while the channel is VALID and stays
as it is while it is not. A release that waits on the lock begins where the write puts a band with door policy FREE in
force, and the lock is left alone otherwise (R39, R45, R47, R59). The release has as premise that a VALID channel has
an F, which every step keeps (GrantsStayPermitted). -/
def Obligations.WriteBandStoresRecord : Prop :=
  ∀ (s : State) (c : Cavity) (n : Fin 8) (r : BandRecord) (limit : Int) (floor : Nat),
    s.takesLine → s.tables.frozen = false → s.tableLocks.get c = false →
    (s.engine c).state = .idle → -32768 ≤ limit → limit ≤ 32767 → floor ≤ 255 →
    r.limit = clampInt limit 0 6000 → r.fanFloor = min floor 3 →
    BandsAscend ((s.bandTable c).set n r) →
    ∃ t, exec (.writeBand (bandPayload c n limit floor r)) s = .next t
      ∧ t.tables = { s.tables with bands := s.tables.bands.set c ((s.bandTable c).set n r) }
      ∧ s.repliedDone (decide (r.limit ≠ limit) || decide (3 < floor)) (encodeItems (bandItems r)) t
      ∧ (∀ f, s.isValid (.cav c) = true → s.f (.cav c) = some f →
          t.bandIndex = s.bandIndex.set c (lookup ((s.bandTable c).set n r) f))
      ∧ (s.isValid (.cav c) = false → t.bandIndex = s.bandIndex)
      ∧ t.channels = s.channels ∧ t.rates = s.rates ∧ t.converter = s.converter ∧ t.pins = s.pins
      ∧ t.clock = s.clock ∧ t.tableLocks = s.tableLocks ∧ t.engines = s.engines ∧ t.pending = s.pending
      ∧ t.locks.get c.other = s.locks.get c.other ∧ t.sup = s.sup
      ∧ (s.ValidHasF → (s.lock c).state = .engaged → (s.lock c).releasePending ≠ none → s.policy c ≠ .free →
          t.policy c = .free → t.lock c = releaseBegun (s.lock c))
      ∧ ((s.lock c).state ≠ .engaged ∨ (s.lock c).releasePending = none ∨ t.policy c ≠ .free → t.lock c = s.lock c)

/-- SET ELEMENT, SET BUDGET and FREEZE: the rating as stored, the budget set and the freeze are new and nothing else
is but the supervision timers of an element that becomes fitted or is no longer fitted, the reply and the next draw of
the open orders. The window in progress keeps its budget and its plan (R50, R119, R120, R150). During a relay test the
settle timer of an element that becomes fitted stays stopped until the test's end: R150 and R141 leave that open (log
entry 38). -/
def Obligations.PlantSettingsAreStored : Prop :=
  ∀ s : State, s.takesLine → s.events.outbox = [] →
    (∀ (e : Element) (n : Nat), s.tables.frozen = false → s.bothIdle = true → n < 65536 →
      ∃ t, exec (.setElement (ratingPayload e n)) s = .next t
        ∧ t = { s.drawOrder with
            tables := { s.tables with ratings := s.tables.ratings.set e (min n 3500 / 10 * 10) }
            drive := t.drive
            link := t.link }
        ∧ (∀ r, r ≠ .element e → t.relay r = s.relay r)
        ∧ t.drive = { s.drive with entries := t.drive.entries }
        ∧ t.relay (.element e)
            = (if 0 < s.rating e ∧ n < 10 then
                { s.relay (.element e) with settle := none, mismatch := none }
              else if s.rating e = 0 ∧ 10 ≤ n ∧ s.testing = false then
                { s.relay (.element e) with settle := some 0, mismatch := none }
              else s.relay (.element e))
        ∧ s.repliedDone (decide (min n 3500 / 10 * 10 ≠ n))
            ([3, BitVec.ofNat 8 (elementCode e)] ++ u16 (min n 3500 / 10 * 10)) t)
    ∧ (∀ n, s.tables.frozen = false → n < 65536 →
      exec (.setBudget (budgetPayload n)) s = .next
        (State.withReply
          ⟨none, decide (n < 1000) || decide (7400 < n), s.flagsOf s,
            [3] ++ u16 (max 1000 (min n 7400)) ++ u16 s.alloc.budgetInForce⟩
          { s.drawOrder with tables := { s.tables with budgetSet := max 1000 (min n 7400) } }))
    ∧ (s.bothIdle = true → exec (.freeze []) s = .next
        (State.withReply ⟨none, false, s.flagsOf s, []⟩
          { s.drawOrder with tables := { s.tables with frozen := true } }))
    ∧ (s.bothIdle = false → exec (.freeze []) s = .next (s.refusedWith .notIdle).drawOrder)

/-- While the part is frozen, WRITE BAND, SET ELEMENT and SET BUDGET are refused with FROZEN before any field is judged;
otherwise WRITE BAND naming a cavity whose table lock is set is refused with LOCKED. Nothing changes but the link and
the next draw of the open orders (R45, R49, R50, R119, R120). -/
def Obligations.FrozenOrLockedWritesAreRefused : Prop :=
  ∀ s : State, s.takesLine → s.events.outbox = [] →
    (s.tables.frozen = true →
      (∀ p f, readFields writeBandFields p = some f →
        exec (.writeBand p) s = .next (s.refusedWith .frozen).drawOrder)
      ∧ (∀ p f, readFields setElementFields p = some f →
        exec (.setElement p) s = .next (s.refusedWith .frozen).drawOrder)
      ∧ (∀ p f, readFields setBudgetFields p = some f →
        exec (.setBudget p) s = .next (s.refusedWith .frozen).drawOrder))
    ∧ (∀ (c : Cavity) (n : Fin 8) (limit : Int) (floor : Nat) (r : BandRecord),
      s.tables.frozen = false → s.tableLocks.get c = true →
        exec (.writeBand (bandPayload c n limit floor r)) s = .next (s.refusedWith .locked).drawOrder)

/-- A payload that cannot be read as the fields of its request is refused with LENGTH, and a kind byte that names no
request with UNKNOWN; neither has an effect, and the reply carries no payload. A payload can be read where it is a
mask of two bytes and after it exactly the widths of the fields that the mask marks given (R175, R182, R183). A
payload that can be read, but lacks a required field, carries an undefined value or marks a field that the request
does not take, is refused with BAD_FIELD, each request in its own order of judgement; the reply carries no payload,
and nothing changes but the link and, for a request that may change the part, the next draw of the open orders (R16,
R45, R48, R50, R67, R78, R88, R105, R107, R109, R111, R115, R119, R120, R180, R184, R185). -/
def Obligations.UnreadableUndefinedAndUnknownAreRefused : Prop :=
  ∀ s : State, s.takesLine →
    (∀ (widths : List Nat) (p : List Byte), widths ≠ [] →
      ((readFields widths p).isSome = true ↔
        ∃ b0 b1 rest, p = b0 :: b1 :: rest
          ∧ rest.length = ((List.range widths.length).map fun i =>
              if (b0.toNat + 256 * b1.toNat).testBit i then widths.getD i 0 else 0).sum))
    ∧ (∀ kind p, (kind.toNat = 0 ∨ 25 < kind.toNat) →
      exec (.unknownRequest kind p) s = .next (s.refusedWith .unknown))
    ∧ (∀ p, p ≠ [] →
      exec (.identify p) s = .next (s.refusedWith .length)
      ∧ exec (.readEvents p) s = .next (s.refusedWith .length)
      ∧ exec (.freeze p) s = .next (s.refusedWith .length)
      ∧ exec (.allStop false p) s = .next (s.refusedWith .length)
      ∧ exec (.clear p) s = .next (s.refusedWith .length)
      ∧ exec (.relayTest p) s = .next (s.refusedWith .length))
    ∧ (∀ p, readFields [1] p = none →
      exec (.cavityStatus p) s = .next (s.refusedWith .length)
      ∧ exec (.plantStatus p) s = .next (s.refusedWith .length)
      ∧ exec (.readOutcome p) s = .next (s.refusedWith .length)
      ∧ exec (.clearProgram p) s = .next (s.refusedWith .length)
      ∧ exec (.pause p) s = .next (s.refusedWith .length)
      ∧ exec (.resume p) s = .next (s.refusedWith .length)
      ∧ exec (.step p) s = .next (s.refusedWith .length)
      ∧ exec (.abort p) s = .next (s.refusedWith .length)
      ∧ exec (.lock p) s = .next (s.refusedWith .length)
      ∧ exec (.sample p) s = .next (s.refusedWith .length))
    ∧ (∀ p, readFields [1, 1] p = none →
      exec (.readBand p) s = .next (s.refusedWith .length)
      ∧ exec (.readSegment p) s = .next (s.refusedWith .length)
      ∧ exec (.start p) s = .next (s.refusedWith .length)
      ∧ exec (.unlock p) s = .next (s.refusedWith .length))
    ∧ (∀ p, readFields [1, 1, 2, 1, 1, 1, 1, 1] p = none →
      exec (.writeBand p) s = .next (s.refusedWith .length))
    ∧ (∀ p, readFields [1, 2] p = none → exec (.setElement p) s = .next (s.refusedWith .length))
    ∧ (∀ p, readFields [2] p = none → exec (.setBudget p) s = .next (s.refusedWith .length))
    ∧ (∀ p, readFields [1, 1, 2, 2, 2, 2, 2, 1, 1, 2, 1] p = none →
      exec (.appendSegment p) s = .next (s.refusedWith .length))
    ∧ (∀ p, readFields [1, 1, 1, 2, 2, 2, 2, 2, 1, 1, 2, 1] p = none →
      exec (.replaceSegment p) s = .next (s.refusedWith .length))
    ∧ (∀ p f, readFields [1] p = some f →
      (f.extra = true ∨ f.NamesNone 0 2 →
        exec (.cavityStatus p) s = .next (s.refusedWith .badField)
        ∧ exec (.readOutcome p) s = .next (s.refusedWith .badField))
      ∧ (f.extra = true ∨ f.NamesNone 0 5 →
        exec (.plantStatus p) s = .next (s.refusedWith .badField)
        ∧ exec (.sample p) s = .next (s.refusedWith .badField)))
    ∧ (∀ p f, readFields [1, 1] p = some f →
      (f.extra = true ∨ f.NamesNone 0 2 ∨ (∀ n, f.nat 1 = some n → n = 0 ∨ 8 < n) →
        exec (.readBand p) s = .next (s.refusedWith .badField))
      ∧ (f.extra = true ∨ f.NamesNone 0 2 ∨ f.nat 1 = none →
        exec (.readSegment p) s = .next (s.refusedWith .badField)))
    ∧ (s.events.outbox = [] →
      let refused := Outcome.next (s.refusedWith .badField).drawOrder
      (∀ p f, readFields [1] p = some f → (f.extra = true ∨ f.NamesNone 0 2) →
        exec (.clearProgram p) s = refused ∧ exec (.pause p) s = refused ∧ exec (.resume p) s = refused
        ∧ exec (.step p) s = refused ∧ exec (.abort p) s = refused ∧ exec (.lock p) s = refused)
      ∧ (∀ p f, readFields [1, 1] p = some f →
          (f.extra = true ∨ f.NamesNone 0 2 ∨ ∃ n, f.nat 1 = some n ∧ 2 ≤ n) →
        exec (.start p) s = refused ∧ exec (.unlock p) s = refused)
      ∧ (∀ p f, readFields [1, 1, 2, 1, 1, 1, 1, 1] p = some f → s.tables.frozen = false →
          (∀ c, f.nat 0 = some (cavityCode c) → s.tableLocks.get c = false) →
          (f.extra = true ∨ f.NamesNone 0 2 ∨ (∀ n, f.nat 1 = some n → n = 0 ∨ 8 < n) ∨ f.nat 2 = none
            ∨ f.NamesNone 3 2 ∨ f.NamesNone 4 3 ∨ f.nat 5 = none ∨ f.NamesNone 6 8 ∨ f.NamesNone 7 2) →
        exec (.writeBand p) s = refused)
      ∧ (∀ p f, readFields [1, 2] p = some f → s.tables.frozen = false → s.bothIdle = true →
          (f.extra = true ∨ f.NamesNone 0 8 ∨ f.nat 1 = none) → exec (.setElement p) s = refused)
      ∧ (∀ p f, readFields [2] p = some f → s.tables.frozen = false → (f.extra = true ∨ f.nat 0 = none) →
        exec (.setBudget p) s = refused)
      ∧ (∀ p f, readFields [1, 1, 2, 2, 2, 2, 2, 1, 1, 2, 1] p = some f → (f.extra = true ∨ f.NamesNone 0 2) →
        exec (.appendSegment p) s = refused)
      ∧ (∀ p f, readFields [1, 1, 1, 2, 2, 2, 2, 2, 1, 1, 2, 1] p = some f →
          (f.extra = true ∨ f.NamesNone 0 2 ∨ f.nat 1 = none) → exec (.replaceSegment p) s = refused))

/-! ## Programs -/

/-- APPEND SEGMENT, REPLACE SEGMENT and CLEAR PROGRAM in their order of judgement: NOT_IDLE, FULL or NO_SUCH, BAD_FIELD,
each with the count in its reply, and otherwise the program with the completed record at its index. Nothing else
changes but the link and the next draw of the open orders (R78 to R81, R83). -/
def Obligations.ProgramEditsInOrder : Prop :=
  ∀ (s : State) (c : Cavity), s.takesLine → s.events.outbox = [] →
    let counted := fun (k : Reason) => Outcome.next
      (s.withReply ⟨some k, false, s.flagsOf s, [0, 8, BitVec.ofNat 8 (s.program c).length]⟩).drawOrder
    let stored := fun (p : List SegmentRecord) (clamped : Bool) (payload : List Byte) => Outcome.next
      (State.withReply ⟨none, clamped, s.flagsOf s, payload⟩
        { s.drawOrder with tables := { s.tables with programs := s.tables.programs.set c p } })
    (∀ p f, readFields appendFields p = some f → f.enum 0 cavityOf = some c → f.extra = false →
      exec (.appendSegment p) s =
        if (s.engine c).state ≠ .idle then counted .notIdle
        else if 12 ≤ (s.program c).length then counted .full
        else match completeRecord (rawRecord f 1) with
          | none => counted .badField
          | some r => stored (s.program c ++ [r.value]) r.clamped
              (encodeItems (programItems ((s.program c).length + 1) r.value ((s.program c).length + 1))))
    ∧ (∀ p f index, readFields replaceFields p = some f → f.enum 0 cavityOf = some c → f.nat 1 = some index →
        f.extra = false →
      exec (.replaceSegment p) s =
        if (s.engine c).state ≠ .idle then counted .notIdle
        else if index = 0 ∨ (s.program c).length < index then counted .noSuch
        else match completeRecord (rawRecord f 2) with
          | none => counted .badField
          | some r => stored ((s.program c).set (index - 1) r.value) r.clamped
              (encodeItems (programItems index r.value (s.program c).length)))
    ∧ exec (.clearProgram (cavityPayload c)) s =
        if (s.engine c).state ≠ .idle then Outcome.next
          (s.withReply ⟨some .notIdle, false, s.flagsOf s,
            [1, BitVec.ofNat 8 (s.program c).length]⟩).drawOrder
        else stored [] false [1, 0]

/-- What a record becomes when it is stored: numeric fields clamped to their ranges with the clamp noted, defaults
filled in without one, optional fields without a default left absent; a missing required field, an empty set of
elements or a field of another kind gives no record (R73 to R76). -/
def Obligations.RecordsAreCompleted : Prop :=
  (∀ (t : Int) (rate limit bias band : Option Nat) (e : ElementSet), e ≠ .empty →
    completeRecord ⟨some .ramp, some t, rate, none, none, limit, some (some e), bias, band, none⟩
      = some
        ⟨.ramp ⟨max 0 (min t 5500), rate.map fun n => max 1 (min n 300),
            limit.map fun n => max 60 (min n 21600), e, (bias.map fun n => min n 16).getD 4,
            (band.map fun n => max 50 (min n 1000)).getD 200⟩,
          decide (t < 0 ∨ 5500 < t) || rate.any (fun n => decide (n < 1 ∨ 300 < n))
            || limit.any (fun n => decide (n < 60 ∨ 21600 < n)) || bias.any (fun n => decide (16 < n))
            || band.any (fun n => decide (n < 50 ∨ 1000 < n))⟩)
  ∧ (∀ (t : Int) (d : Nat) (tol limit bias band : Option Nat) (e : ElementSet), e ≠ .empty →
    completeRecord ⟨some .soak, some t, none, some d, tol, limit, some (some e), bias, band, none⟩
      = some
        ⟨.soak ⟨max 0 (min t 5500), max 60 (min d 14400), (tol.map fun n => max 20 (min n 300)).getD 100,
            limit.map fun n => max 60 (min n 21600), e, (bias.map fun n => min n 16).getD 4,
            (band.map fun n => max 50 (min n 1000)).getD 200⟩,
          decide (t < 0 ∨ 5500 < t) || decide (d < 60 ∨ 14400 < d)
            || tol.any (fun n => decide (n < 20 ∨ 300 < n))
            || limit.any (fun n => decide (n < 60 ∨ 21600 < n)) || bias.any (fun n => decide (16 < n))
            || band.any (fun n => decide (n < 50 ∨ 1000 < n))⟩)
  ∧ (∀ (t : Int) (limit level : Option Nat),
    completeRecord ⟨some .catalyst, some t, none, none, none, limit, none, none, none, none⟩
      = some
        ⟨.catalyst (max 0 (min t 5500)) (limit.map fun n => max 60 (min n 21600)),
          decide (t < 0 ∨ 5500 < t) || limit.any (fun n => decide (n < 60 ∨ 21600 < n))⟩
    ∧ completeRecord ⟨some .cool, some t, none, none, none, limit, none, none, none, level⟩
      = some
        ⟨.cool (max 0 (min t 5500)) (limit.map fun n => max 60 (min n 21600))
            ((level.map fun n => min n 3).getD 3),
          decide (t < 0 ∨ 5500 < t) || limit.any (fun n => decide (n < 60 ∨ 21600 < n))
            || level.any (fun n => decide (3 < n))⟩)
  ∧ completeRecord ⟨some .engage, none, none, none, none, none, none, none, none, none⟩ = some ⟨.engage, false⟩
  ∧ completeRecord ⟨some .release, none, none, none, none, none, none, none, none, none⟩
      = some ⟨.release, false⟩
  ∧ ∀ r : RawRecord,
      (r.kind = none → completeRecord r = none)
      ∧ (r.kind ≠ some .engage → r.kind ≠ some .release → r.target = none → completeRecord r = none)
      ∧ (r.kind = some .soak → r.duration = none → completeRecord r = none)
      ∧ (r.kind = some .ramp ∨ r.kind = some .soak →
          (r.elements = none ∨ r.elements = some none ∨ r.elements = some (some .empty)) →
          completeRecord r = none)
      ∧ (r.kind ≠ some .ramp → r.rate ≠ none → completeRecord r = none)
      ∧ (r.kind ≠ some .soak → (r.duration ≠ none ∨ r.tolerance ≠ none) → completeRecord r = none)
      ∧ (r.kind ≠ some .cool → r.fanLevel ≠ none → completeRecord r = none)
      ∧ (r.kind ≠ some .ramp → r.kind ≠ some .soak →
          (r.elements ≠ none ∨ r.bias ≠ none ∨ r.band ≠ none) → completeRecord r = none)
      ∧ (r.kind = some .engage ∨ r.kind = some .release → (r.target ≠ none ∨ r.timeLimit ≠ none) →
          completeRecord r = none)

/-! ## Cycle requests -/

/-- A START that is carried out enters the program's first segment, of any kind: the engine's items, the table lock,
the host's waiting lock requests discarded, the lock asked by ENGAGE and RELEASE, and the ceiling in the reply;
nothing elsewhere changes, and no element gains a grant. A single segment that ends DONE at its entry completes the
cycle, and an ENGAGE that finds the door open ends it with DOOR_OPEN. A channel that is not VALID and an F above the
ceiling abort the cycle against segment 1 without its entry actions. The option may be left out, and is then no (R55,
R58, R67, R68, R84, R89, R90, R93 to R95, R97, R99, R100, R110, R113, R114). That such an abort leaves the entry items
as they were before START, and what the items hold in IDLE, is the model's reading (log entries 17 and 18). -/
def Obligations.StartEntersFirstSegment : Prop :=
  (∀ p, heatTargets p = [] → ceilingOf p = 6000)
  ∧ (∀ p t, t ∈ heatTargets p → t + 300 ≤ ceilingOf p)
  ∧ (∀ p, heatTargets p ≠ [] → ∃ t ∈ heatTargets p, ceilingOf p = t + 300)
  ∧ ∀ (s : State) (c : Cavity) (r : SegmentRecord) (rest : List SegmentRecord) (yes : Bool) (p : List Byte),
    s.takesLine → s.events.outbox = [] → (s.engine c).state = .idle → s.sup.readiness = true → s.testing = false →
    s.cavityBlocked c = false → s.systemBlocked = false → (s.lock c).state ≠ .faulted →
    s.program c = r :: rest → (p = optionPayload c yes ∨ (p = cavityPayload c ∧ yes = false)) →
    let ceiling := ceilingOf (r :: rest)
    let l := withoutHost (s.lock c)
    let asked := askedByEntry (s.policy c) r l
    let e := { s.engine c with
      state := .running
      singleStep := yes
      ceiling := some ceiling
      recorded := none
      peakF := s.f (.cav c)
      cycleSeconds := 0
      soakSeconds := 0
      secondTimer := some 0 }
    let becomes := fun (e' : Engine) (l' : LockCtl) (told : List EventBody) =>
      ∃ t, exec (.start p) s = .next t ∧ t.engine c = e' ∧ t.lock c = l'
        ∧ t.tableLocks.get c = decide (e'.state ≠ .idle)
        ∧ Elsewhere c s t ∧ t.sup = s.sup
        ∧ (told = [] → t.events = s.events) ∧ (∀ x ∈ told, t.reported x)
        ∧ (∀ x, t.holdsGrant x = true → s.holdsGrant x = true)
        ∧ s.repliedDone false ([1] ++ u16 ceiling.toNat) t
    (∀ f, s.isValid (.cav c) = true → s.f (.cav c) = some f → f ≤ ceiling →
      let e1 := entered 1 f l.state r e
      (EntryAnswered l r → s.GoesOn c f e1 asked.state r →
        becomes e1 asked (if asked.state = l.state then [] else [.lockChanged c asked.state]))
      ∧ (EntryAnswered l r → ¬ s.GoesOn c f e1 asked.state r → rest = [] →
        becomes (endedBy .completed .done asked.state e1) asked
          [.segmentEnded c 1 .done, .cycleEnded c .completed .done])
      ∧ (r = .engage → l.state = .released → l.levels.doorShut ≠ some true →
        becomes (endedBy .aborted .doorOpen .released e1) l
          [.segmentEnded c 1 .doorOpen, .cycleEnded c .aborted .doorOpen]))
    ∧ ∀ k, ((s.isValid (.cav c) = false ∧ k = Condition.sensorLost)
          ∨ (s.isValid (.cav c) = true ∧ k = .overshoot ∧ ∃ f, s.f (.cav c) = some f ∧ ceiling < f)) →
      becomes (abortedUnder l.state k { e with segmentIndex := some 1 }) (askedByAbort (s.policy c) l)
        [.segmentEnded c 1 k]

/-- START is refused in the order of its steps, with the faults of step 6 as they are listed, and a refused START
changes nothing but the link and the next draw of the open orders; with no reason to refuse it replies DONE (R88). -/
def Obligations.StartIsRefusedInOrder : Prop :=
  ∀ (s : State) (c : Cavity) (yes : Bool), s.takesLine → s.events.outbox = [] →
    let refused := fun (k : Reason) =>
      exec (.start (optionPayload c yes)) s = .next (s.refusedWith k).drawOrder
    let blocked :=
      (s.channel (.cav c)).state = .failed ∨ (s.channel (.cat c)).state = .failed
      ∨ (s.lock c).faults ≠ .empty ∨ (∃ h, s.drive.elementOpen.get ⟨c, h⟩ = true)
      ∨ s.drive.elementWelded = true ∨ s.drive.masterWelded = true
      ∨ (∃ d, s.sup.overheat.get d = true) ∨ (∃ d, s.sup.runaway.get d = true) ∨ s.fan.stall = true
      ∨ (s.channel .front).state = .failed ∨ s.sup.trip = true
    (∀ n : Byte, 2 ≤ n.toNat → exec (.start [1, 0, n]) s = .next (s.refusedWith .badField).drawOrder)
    ∧ (∀ n : Byte, 2 ≤ n.toNat →
        exec (.start [3, 0, BitVec.ofNat 8 (cavityCode c), n]) s = .next (s.refusedWith .badField).drawOrder)
    ∧ ((s.engine c).state ≠ .idle → refused .notIdle)
    ∧ ((s.engine c).state = .idle → s.sup.readiness = false → refused .notReady)
    ∧ ((s.engine c).state = .idle → s.sup.readiness = true → s.testing = true → refused .busy)
    ∧ ((s.engine c).state = .idle → s.sup.readiness = true → s.testing = false → s.program c = [] →
        refused .empty)
    ∧ ((s.engine c).state = .idle → s.sup.readiness = true → s.testing = false → s.program c ≠ [] → blocked →
        refused .fault)
    ∧ ((s.engine c).state = .idle → s.sup.readiness = true → s.testing = false → s.program c ≠ [] → ¬ blocked →
        ∃ t, exec (.start (optionPayload c yes)) s = .next t
          ∧ s.repliedDone false ([1] ++ u16 (ceilingOf (s.program c)).toNat) t)

/-- PAUSE freezes a CATALYST, RAMP, SOAK or COOL segment and is refused otherwise; RESUME goes on in the same segment,
where its end condition does not hold, ends it DONE where it holds already, and is refused outside PAUSED. PAUSE and a
RESUME that goes on ask the lock for nothing (R90, R105, R107, R108, R114). What the items of an engine hold in IDLE is
the model's reading (log entry 17). -/
def Obligations.PauseFreezesAndResumeGoesOn : Prop :=
  ∀ (s : State) (c : Cavity), s.takesLine → s.events.outbox = [] →
    ((s.engine c).state = .running → s.currentRecord c ≠ some .engage → s.currentRecord c ≠ some .release →
      ∃ t, exec (.pause (cavityPayload c)) s = .next t
        ∧ t.engine c = { s.engine c with
            state := .paused
            holdCount := some 1800
            catalyst := (match (s.engine c).catalyst with
              | .on x => .suspended x
              | y => y) }
        ∧ t.lock c = s.lock c ∧ t.tableLocks = s.tableLocks ∧ Elsewhere c s t ∧ t.sup = s.sup
        ∧ t.events = s.events ∧ coldNow t c ∧ s.repliedDone false [] t)
    ∧ ((s.engine c).state = .running → (s.currentRecord c = some .engage ∨ s.currentRecord c = some .release) →
      exec (.pause (cavityPayload c)) s = .next (s.refusedWith .busy).drawOrder)
    ∧ ((s.engine c).state ≠ .running →
      exec (.pause (cavityPayload c)) s = .next (s.refusedWith .notRunning).drawOrder)
    ∧ (let resumed := { s.engine c with
        state := .running
        holdCount := none
        undershootCount := 0
        catalyst := (match (s.engine c).catalyst with
          | .suspended x => .on x
          | y => y) }
      ∀ r f, (s.engine c).state = .paused → s.currentRecord c = some r → s.unforced c f →
        (s.GoesOn c f (s.engine c) (s.lock c).state r →
          ∃ t, exec (.resume (cavityPayload c)) s = .next t
            ∧ t.engine c = resumed
            ∧ t.lock c = s.lock c ∧ t.tableLocks = s.tableLocks ∧ Elsewhere c s t ∧ t.sup = s.sup
            ∧ t.events = s.events ∧ (∀ e, t.holdsGrant e = true → s.holdsGrant e = true)
            ∧ s.repliedDone false [] t)
        ∧ (∀ index, (s.engine c).segmentIndex = some index → ¬ s.GoesOn c f (s.engine c) (s.lock c).state r →
          ∃ t, exec (.resume (cavityPayload c)) s = .next t
            ∧ s.DoneLeadsTo c index f (s.lock c) resumed (t.lock c) (t.engine c)
            ∧ t.reported (.segmentEnded c index .done) ∧ Elsewhere c s t ∧ t.sup = s.sup
            ∧ s.repliedDone false [] t))
    ∧ ((s.engine c).state ≠ .paused →
      exec (.resume (cavityPayload c)) s = .next (s.refusedWith .notRunning).drawOrder)

/-- STEP in HELD enters the segment at the next index, of any kind, with the lock asked by ENGAGE and RELEASE; a
segment that ends DONE at its entry leaves the engine in HELD again, or completes the cycle. STEP is refused with BUSY
in RUNNING and PAUSED and with NOT_RUNNING in IDLE and SAFE_COOL (R55, R58, R68, R90, R93 to R95, R97, R99, R100,
R108, R109, R114). What the items of the engine hold in IDLE is the model's reading (log entry 17). -/
def Obligations.StepEntersNextSegment : Prop :=
  ∀ (s : State) (c : Cavity), s.takesLine → s.events.outbox = [] →
    (∀ index f start r, (s.engine c).state = .held → (s.engine c).segmentIndex = some index →
        recordAt (s.program c) (index + 1) = some r → s.unforced c f → s.StartsAt c (s.engine c) index f start →
        EntryAnswered (s.lock c) r →
      let e := entered (index + 1) start (s.lock c).state r { s.engine c with
        catalyst := match (s.engine c).catalyst with
          | .suspended x => .on x
          | y => y }
      let l := askedByEntry (s.policy c) r (s.lock c)
      let becomes := fun (e' : Engine) =>
        ∃ t, exec (.step (cavityPayload c)) s = .next t ∧ t.engine c = e' ∧ t.lock c = l
          ∧ t.tableLocks = (if e'.state = .idle then s.tableLocks.set c false else s.tableLocks)
          ∧ Elsewhere c s t ∧ t.sup = s.sup
          ∧ (e' = e → l.state = (s.lock c).state → t.events = s.events)
          ∧ (e' ≠ e → t.reported (.segmentEnded c (index + 1) .done))
          ∧ s.repliedDone false ([1] ++ u8 (index + 1)) t
      (s.GoesOn c f e l.state r → becomes e)
      ∧ (¬ s.GoesOn c f e l.state r → index + 1 < (s.program c).length → (s.engine c).singleStep = true →
          becomes (heldAfter e))
      ∧ (¬ s.GoesOn c f e l.state r → index + 1 = (s.program c).length →
          becomes (endedBy .completed .done l.state e)))
    ∧ ((s.engine c).state = .running ∨ (s.engine c).state = .paused →
      exec (.step (cavityPayload c)) s = .next (s.refusedWith .busy).drawOrder)
    ∧ ((s.engine c).state = .idle ∨ (s.engine c).state = .safeCool →
      exec (.step (cavityPayload c)) s = .next (s.refusedWith .notRunning).drawOrder)

/-- ABORT takes a cycle in RUNNING, PAUSED or HELD into SAFE_COOL with HOST_ABORT, or through it into IDLE where the
lock is RELEASED or FAULTED: every grant of the cavity is withdrawn, the lock is asked as its state says, the ending
is recorded; in IDLE and SAFE_COOL it replies DONE and changes nothing (R110, R111, R113, R115). What the items of the
engine hold in IDLE is the model's reading (log entry 17). -/
def Obligations.AbortGoesToSafeCool : Prop :=
  ∀ (s : State) (c : Cavity), s.takesLine → s.events.outbox = [] →
    (s.inCycle c = true →
      ∃ t, exec (.abort (cavityPayload c)) s = .next t
        ∧ t.engine c = s.afterAbort .hostAbort c
        ∧ t.lock c = askedByAbort (s.policy c) (s.lock c)
        ∧ (t.tableLocks.get c = true ↔ s.lockHolds c ∧ s.tableLocks.get c = true)
        ∧ coldNow t c ∧ Elsewhere c s t ∧ t.sup = s.sup
        ∧ ((s.engine c).state ≠ .held → s.events.queue.length ≤ 13 →
            t.recorded (.segmentEnded c ((s.engine c).segmentIndex.getD 0) .hostAbort))
        ∧ (¬ s.lockHolds c → s.events.queue.length ≤ 13 → t.recorded (.cycleEnded c .aborted .hostAbort))
        ∧ s.repliedDone false [] t)
    ∧ (s.inCycle c = false → exec (.abort (cavityPayload c)) s
        = .next (s.withReply ⟨none, false, s.flagsOf s, []⟩).drawOrder)

/-- ALL STOP does to each engine what an ABORT of its cavity does, under the node's own address with a DONE reply and
under broadcast, with length 0, without one; any other broadcast payload is ignored (R111, R175, R181).
What the items of the engine hold in IDLE is the model's reading (log entry 17). -/
def Obligations.AllStopAbortsBothEngines : Prop :=
  ∀ (s : State) (broadcast : Bool), s.takesLine → s.events.outbox = [] →
    (∃ t, exec (.allStop broadcast []) s = .next t
      ∧ (∀ c, t.engine c = s.afterAbort .hostAbort c)
      ∧ (∀ c, t.lock c = (if s.inCycle c = true then askedByAbort (s.policy c) (s.lock c) else s.lock c))
      ∧ (∀ c, s.inCycle c = true → coldNow t c)
      ∧ t.tables = s.tables ∧ t.channels = s.channels ∧ t.bandIndex = s.bandIndex ∧ t.sup = s.sup
      ∧ t.pins = s.pins ∧ t.clock = s.clock ∧ t.converter = s.converter ∧ t.rates = s.rates
      ∧ t.pending = s.pending
      ∧ (broadcast = false → s.repliedDone false [] t)
      ∧ (broadcast = true → t.link = { s.endOfFrame.link with eventsLost := t.link.eventsLost }))
    ∧ ∀ p, p ≠ [] → exec (.allStop true p) s = .next s.endOfFrame

/-! ## Door locks -/

/-- LOCK and UNLOCK of an idle cavity in every lock state: the controller after it, the answer, and the reply with the
lock state and release-pending as they then stand; NOT_IDLE otherwise (R55, R58, R61, R67).
That a refusal carries the payload too is the model's reading (log entry 16). -/
def Obligations.HostLockRequestsByState : Prop :=
  ∀ (s : State) (c : Cavity), s.takesLine → s.events.outbox = [] →
    let l := s.lock c
    let taken := fun (i : Instr) (k : Option Reason) (l' : LockCtl) =>
      ∃ t, exec i s = .next t ∧ t.lock c = l' ∧ t.engine c = s.engine c ∧ t.tableLocks = s.tableLocks
        ∧ Elsewhere c s t ∧ t.sup = s.sup
        ∧ s.replied k false ([3] ++ u8 (lockStateCode l'.state) ++ u8 (releasePendingCode l'.releasePending)) t
    let lock := Instr.lock (cavityPayload c)
    ((s.engine c).state ≠ .idle → exec lock s = .next (s.refusedWith .notIdle).drawOrder)
    ∧ ((s.engine c).state = .idle →
      (l.state = .released → l.levels.doorShut ≠ some true → taken lock (some .doorOpen) l)
      ∧ (l.state = .released → l.levels.doorShut = some true → l.levels.latchSet ≠ some true →
          taken lock none { l with state := .engaging, motor := .forward, motion := some ⟨.engage, 0⟩ })
      ∧ (l.state = .released → l.levels.doorShut = some true → l.levels.latchSet = some true →
          taken lock none { l with state := .engaged, motor := .stopped, motion := none })
      ∧ (l.state = .engaging → taken lock none { l with slot := (match l.slot with
          | some ⟨.release, _⟩ => none
          | x => x) })
      ∧ (l.state = .engaged → taken lock none { l with releasePending := none })
      ∧ (l.state = .releasing → taken lock none { l with slot := some ⟨.engage, .host⟩ })
      ∧ (l.state = .returning ∨ l.state = .notAdopted → taken lock (some .busy) l)
      ∧ (l.state = .faulted → taken lock (some .fault) l))
    ∧ ∀ (wait : Bool) (p : List Byte), (p = optionPayload c wait ∨ (p = cavityPayload c ∧ wait = false)) →
      let unlock := Instr.unlock p
      ((s.engine c).state ≠ .idle → exec unlock s = .next (s.refusedWith .notIdle).drawOrder)
      ∧ ((s.engine c).state = .idle →
        (l.state = .released ∨ l.state = .returning → taken unlock none l)
        ∧ (l.state = .engaging → taken unlock none { l with slot := some ⟨.release, .host⟩ })
        ∧ (l.state = .engaged → s.policy c = .free → taken unlock none
            { l with state := .releasing, motor := .reverse, motion := some ⟨.release, 0⟩,
                     releasePending := none })
        ∧ (l.state = .engaged → s.policy c ≠ .free → wait = true →
            taken unlock none { l with releasePending := some .host })
        ∧ (l.state = .engaged → s.policy c ≠ .free → wait = false → taken unlock (some .tooHot) l)
        ∧ (l.state = .releasing → taken unlock none { l with slot := (match l.slot with
            | some ⟨.engage, _⟩ => none
            | x => x) })
        ∧ (l.state = .faulted → taken unlock (some .fault) l)
        ∧ (l.state = .notAdopted → taken unlock (some .busy) l))

/-- A change of a filtered switch level in each lock state of an idle cavity: what ends a motion, with every request
in the slot, a jam return, a breach, a slip, a contradiction, and in every state the levels that are recorded alone. A
level already recorded is no change. Each event queues its records and no other: FAULT_RAISED of a fault that it
latches and that was not latched before, then LOCK_CHANGED of every state that it brings. Nothing elsewhere changes
(R51, R54 to R58, R60 to R66); that the event sets the input pin itself is the model's reading (log entry 7). -/
def Obligations.SwitchChangesByLockState : Prop :=
  ∀ (s : State) (c : Cavity) (sw : Switch) (level : Bool), s.events.outbox = [] →
    let l := s.lock c
    let l1 := { l with levels := l.levels.set sw (some level) }
    let becomes := fun (l' : LockCtl) (records : List EventBody) =>
      ∃ t, exec (.switchLevelChange c sw level) s = .next t ∧ t.lock c = l' ∧ t.engine c = s.engine c
        ∧ t.tableLocks = s.tableLocks ∧ Elsewhere c (s.setSwitchPin c sw level) t ∧ t.sup = s.sup
        ∧ (s.events.queue.length ≤ 16 → s.queued records t)
    let changed := fun (x : LockState) => EventBody.lockChanged c x
    let raised := fun (k : LockFault) (code : FaultCode) =>
      if l.faults.has k then [] else [EventBody.faultRaised (some c) code none]
    let bothTrue := l1.levels.latchHome = some true ∧ l1.levels.latchSet = some true
    (l.levels.get sw = some level → exec (.switchLevelChange c sw level) s = .next s)
    ∧ (l.levels.get sw ≠ some level → (s.engine c).state = .idle →
      (l.state ≠ .faulted → l.state ≠ .notAdopted → sw ≠ .doorShut → bothTrue →
          becomes (stuckAt l1) (raised .stuck .lockStuck ++ [changed .faulted]))
      ∧ (l.state = .engaging → sw = .latchSet → level = true → ¬ bothTrue →
          (l.slot = none →
              becomes { l1 with state := .engaged, motor := .stopped, motion := none } [changed .engaged])
          ∧ (∀ by_, l.slot = some ⟨.release, by_⟩ → s.policy c = .free →
              becomes { l1 with state := .releasing, motor := .reverse, motion := some ⟨.release, 0⟩,
                                slot := none, releasePending := none } [changed .engaged, changed .releasing])
          ∧ (∀ by_, l.slot = some ⟨.release, by_⟩ → s.policy c ≠ .free →
              becomes { l1 with state := .engaged, motor := .stopped, motion := none, slot := none,
                                releasePending := some by_ } [changed .engaged])
          ∧ (∀ by_, l.slot = some ⟨.engage, by_⟩ →
              becomes { l1 with state := .engaged, motor := .stopped, motion := none, slot := none,
                                releasePending := none } [changed .engaged]))
      ∧ (l.state = .engaging → sw = .doorShut → level = false →
          becomes { l1 with state := .returning, motor := .reverse, motion := some ⟨.jamReturn, 0⟩ }
            [changed .returning])
      ∧ (l.state = .engaged → sw = .doorShut → level = false →
          becomes { l1 with faults := { l.faults with breach := true } } (raised .breach .doorBreach))
      ∧ (l.state = .engaged → sw = .latchSet → level = false →
          becomes { l1 with
            state := if l.levels.doorShut = some true then .engaging else .returning
            motor := if l.levels.doorShut = some true then .forward else .reverse
            motion := some ⟨if l.levels.doorShut = some true then .slipRedrive else .slipReturn, 0⟩
            faults := { l.faults with slip := true }
            releasePending := none
            slot := (match l.releasePending with
              | some by_ => some ⟨.release, by_⟩
              | none => l.slot) }
            (raised .slip .latchSlip
              ++ [changed (if l.levels.doorShut = some true then .engaging else .returning)]))
      ∧ (l.state = .releasing → sw = .latchHome → level = true → ¬ bothTrue →
          (l.slot = none →
              becomes { l1 with state := .released, motor := .stopped, motion := none } [changed .released])
          ∧ (∀ by_, l.slot = some ⟨.engage, by_⟩ → l.levels.doorShut = some true →
              becomes { l1 with state := .engaging, motor := .forward, motion := some ⟨.engage, 0⟩,
                                slot := none } [changed .released, changed .engaging])
          ∧ (∀ by_, l.slot = some ⟨.engage, by_⟩ → l.levels.doorShut ≠ some true →
              becomes { l1 with state := .released, motor := .stopped, motion := none, slot := none }
                [changed .released])
          ∧ (∀ by_, l.slot = some ⟨.release, by_⟩ →
              becomes { l1 with state := .released, motor := .stopped, motion := none, slot := none }
                [changed .released]))
      ∧ (l.state = .returning → sw = .latchHome → level = true → ¬ bothTrue →
          ∀ cause n, l.motion = some ⟨cause, n⟩ →
            let faults := { l.faults with jam := l.faults.jam || decide (cause = .jamReturn) }
            let jammed := if cause = .jamReturn then raised .jam .lockJam else []
            ((∀ by_, l.slot ≠ some ⟨.engage, by_⟩) →
              becomes { l1 with state := .released, motor := .stopped, motion := none, slot := none,
                                faults := faults } (jammed ++ [changed .released]))
            ∧ (∀ by_, l.slot = some ⟨.engage, by_⟩ → l.levels.doorShut = some true →
              becomes { l1 with state := .engaging, motor := .forward, motion := some ⟨.engage, 0⟩, slot := none,
                                faults := faults } (jammed ++ [changed .released, changed .engaging]))
            ∧ (∀ by_, l.slot = some ⟨.engage, by_⟩ → l.levels.doorShut ≠ some true →
              becomes { l1 with state := .released, motor := .stopped, motion := none, slot := none,
                                faults := faults } (jammed ++ [changed .released])))
      ∧ (¬ (sw ≠ .doorShut ∧ bothTrue) →
          (l.state = .released
            ∨ (l.state = .engaging ∧ (sw = .latchHome ∨ (sw = .latchSet ∧ level = false)
                ∨ (sw = .doorShut ∧ level = true)))
            ∨ (l.state = .engaged ∧ (sw = .latchHome ∨ level = true))
            ∨ ((l.state = .releasing ∨ l.state = .returning) ∧ (sw ≠ .latchHome ∨ level = false))) →
          becomes l1 [])
      ∧ (l.state = .faulted → becomes l1 [])
      ∧ (l.state = .notAdopted →
          (l1.levels.doorShut = none ∨ l1.levels.latchHome = none ∨ l1.levels.latchSet = none) → becomes l1 []))

/-- The sample at which the last of the three switches gains a level adopts a lock state by the table of adoption,
marks the lock adopted and reports the state, with LOCK_STUCK where it is FAULTED, and READY where the part is ready
by it (R66, R69, R161). The event also sets the input pin (log entry 7). -/
def Obligations.LastSwitchLevelAdoptsLock : Prop :=
  ∀ (s : State) (c : Cavity) (sw : Switch) (level door home set : Bool), s.events.outbox = [] →
    (s.engine c).state = .idle → (s.lock c).state = .notAdopted → (s.lock c).levels.get sw = none →
    (s.lock c).levels.set sw (some level) = ⟨some door, some home, some set⟩ →
    ∃ t, exec (.switchLevelChange c sw level) s = .next t
      ∧ t.lock c = { s.lock c with
          levels := ⟨some door, some home, some set⟩
          state := if set && home then .faulted else if set then .engaged else if home then .released
            else if door then .engaging else .returning
          motor := if set || home then .stopped else if door then .forward else .reverse
          motion := if set || home then none else some ⟨.adopted, 0⟩
          slot := if set && home then none else (s.lock c).slot
          releasePending := if set && home then none else (s.lock c).releasePending
          faults := { (s.lock c).faults with stuck := (s.lock c).faults.stuck || (set && home) } }
      ∧ t.sup.adopted = s.sup.adopted.set c true
      ∧ (s.events.queue.length ≤ 12 → t.recorded (.lockChanged c (t.lock c).state))
      ∧ t.reported (.lockChanged c (t.lock c).state) ∧ s.LockFaultsRecorded c t
      ∧ (s.sup.readiness = false → t.sup.readiness = true → t.reported .ready ∧ t.EnableFollows)
      ∧ (s.sup.readiness = false → (t.sup.readiness = true ↔
          (∀ ch, s.sup.measured.get ch = true) ∧ s.sup.startupDone = true ∧ s.sup.adopted.get c.other = true))
      ∧ t.engine c = s.engine c ∧ Elsewhere c (s.setSwitchPin c sw level) t

/-- The motion timer at its 3.0 s, by the state and the cause of the motion: a jam return, or FAULTED with LOCK_STUCK.
In a cycle a jam return leaves a segment going on that does not end by it, and FAULTED ends the cycle with STUCK; it
ends SAFE_COOL with the condition recorded, too. The change of the lock state is recorded, and before it a LOCK_STUCK
that is new. A timer that has not reached its 3.0 s, stopped or started again since, does not expire (R53, R56, R57,
R60, R63, R66, R93, R100, R104, R110, R113). What the items of the engine hold in IDLE is the model's reading (log
entry 17). -/
def Obligations.MotionTimerEndsMotion : Prop :=
  ∀ (s : State) (c : Cavity), s.events.outbox = [] →
    let l := s.lock c
    let e := s.engine c
    let becomes := fun (l' : LockCtl) (e' : Engine) (ended : Option Condition) =>
      ∃ t, exec (.motionTimerExpiry c) s = .next t ∧ t.lock c = l' ∧ t.engine c = e'
        ∧ t.tableLocks = (if ended = none then s.tableLocks else s.tableLocks.set c false)
        ∧ Elsewhere c s t ∧ t.sup = s.sup ∧ t.reported (.lockChanged c l'.state) ∧ s.LockFaultsRecorded c t
        ∧ (e.state = .idle → s.events.queue.length ≤ 16 → s.queued
            ((if l.faults.stuck = false ∧ l'.faults.stuck = true then [.faultRaised (some c) .lockStuck none] else [])
              ++ [.lockChanged c l'.state]) t)
        ∧ (ended = none → s.CycleUnrecorded c t)
        ∧ ∀ k, ended = some k → coldNow t c ∧ s.AbortRecorded c k t
    let stuckEnds := (l.state = .engaging ∧ ∃ n, l.motion = some ⟨.slipRedrive, n⟩) ∨ l.state = .returning
      ∨ l.state = .releasing
    let jamReturn := { l with state := .returning, motor := .reverse, motion := some ⟨.jamReturn, 0⟩ }
    ((∀ m, l.motion = some m → m.elapsed < 3000) → exec (.motionTimerExpiry c) s = .next s)
    ∧ ∀ m, l.motion = some m → 3000 ≤ m.elapsed →
      (l.state = .engaging → m.cause ≠ .slipRedrive →
        (e.state = .idle ∨ e.state = .safeCool → becomes jamReturn e none)
        ∧ (∀ f, s.inCycle c = true → s.unforced c f →
            (e.state = .running → ∃ r, s.currentRecord c = some r ∧ s.GoesOn c f e .returning r) →
            becomes jamReturn e none))
      ∧ (stuckEnds →
        (e.state = .idle → becomes (stuckAt l) e none)
        ∧ (∀ k, e.state = .safeCool → e.recorded = some k →
            becomes (stuckAt l) (endedBy .aborted k .faulted e) (some k))
        ∧ (∀ f, s.inCycle c = true → s.currentRecord c ≠ none → s.unforced c f →
            becomes (stuckAt l) (endedBy .aborted .stuck .faulted e) (some .stuck)))

/-- What the lock's switches do to a cycle. A door that opens while the lock is ENGAGED, and a bolt that slips out of
the keeper, abort it with BREACH and withdraw every grant of the cavity; the abort asks the lock for a release.
Contradicting latch switches end it with STUCK. An engage motion that ends ENGAGED ends an ENGAGE segment DONE; a
motion that ends RELEASED ends a RELEASE segment DONE, and an ENGAGE segment JAMMED after a return, with DOOR_OPEN
where the engage that waits finds the door open, or not at all where that engage begins. DONE completes the cycle,
holds it or enters the next segment, which asks the lock where it is an ENGAGE or a RELEASE. Other segments go on.
SAFE_COOL ends at RELEASED and at FAULTED. Every lock state that the event brings and every lock fault that it latches
is recorded, and so is the end of the segment and of the cycle, and no end where the segment goes on (R54, R56, R57,
R60, R62 to R66, R68, R90, R93, R100, R104, R110, R113, R130). What the items of the engine hold in IDLE, and that the
event sets the input pin, is the model's reading (log entries 17 and 7). -/
def Obligations.LockSwitchesMoveCycle : Prop :=
  ∀ (s : State) (c : Cavity), s.events.outbox = [] →
    let l := s.lock c
    let e := s.engine c
    let moved := fun (sw : Switch) (level : Bool) => { l with levels := l.levels.set sw (some level) }
    let leads := fun (sw : Switch) (level : Bool) (through : LockState) (recorded : State → Prop)
        (P : LockCtl → Engine → Prop) =>
      ∃ t, exec (.switchLevelChange c sw level) s = .next t ∧ P (t.lock c) (t.engine c)
        ∧ (t.tableLocks.get c = (s.tableLocks.get c && decide ((t.engine c).state ≠ .idle)))
        ∧ ((t.engine c).state = .idle ∨ (t.engine c).state = .safeCool → coldNow t c)
        ∧ Elsewhere c (s.setSwitchPin c sw level) t ∧ t.sup = s.sup
        ∧ (through ≠ l.state → t.reported (.lockChanged c through))
        ∧ ((t.lock c).state ≠ through → t.reported (.lockChanged c (t.lock c).state))
        ∧ s.LockFaultsRecorded c t ∧ recorded t
    let nothing := s.CycleUnrecorded c
    let become := fun (l1 : LockCtl) (e1 : Engine) (l' : LockCtl) (e' : Engine) => l' = l1 ∧ e' = e1
    let ends := fun (k : Condition) (l1 : LockCtl) => become l1 (endedBy .aborted k l1.state e)
    let slotFree := ∀ by_, l.slot ≠ some ⟨.engage, by_⟩
    (∀ f, s.inCycle c = true → s.currentRecord c ≠ none → s.unforced c f →
      (l.state = .engaged → l.levels.doorShut ≠ some false →
        leads .doorShut false .engaged (s.AbortRecorded c .breach)
          (become
            (askedByAbort (s.policy c) { moved .doorShut false with faults := { l.faults with breach := true } })
            (abortedBy .breach e)))
      ∧ (l.state = .engaged → l.levels.latchSet ≠ some false → l.levels.doorShut = some true →
        leads .latchSet false .engaging (s.AbortRecorded c .breach)
          (become
            { moved .latchSet false with
              state := .engaging
              motor := .forward
              motion := some ⟨.slipRedrive, 0⟩
              faults := { l.faults with slip := true }
              releasePending := none
              slot := some ⟨.release, .engine⟩ }
            (abortedBy .breach e)))
      ∧ (l.state = .engaged → l.levels.latchSet ≠ some false → l.levels.doorShut ≠ some true →
        leads .latchSet false .returning (s.AbortRecorded c .breach)
          (become
            { moved .latchSet false with
              state := .returning
              motor := .reverse
              motion := some ⟨.slipReturn, 0⟩
              faults := { l.faults with slip := true }
              releasePending := none
              slot := (match l.releasePending with
                | some by_ => some ⟨.release, by_⟩
                | none => l.slot) }
            (abortedBy .breach e)))
      ∧ (l.state ≠ .notAdopted →
        (l.levels.latchHome = some true → l.levels.latchSet ≠ some true →
          leads .latchSet true .faulted (s.AbortRecorded c .stuck)
            (ends .stuck (stuckAt (moved .latchSet true))))
        ∧ (l.levels.latchSet = some true → l.levels.latchHome ≠ some true →
          leads .latchHome true .faulted (s.AbortRecorded c .stuck)
            (ends .stuck (stuckAt (moved .latchHome true)))))
      ∧ (l.state = .engaging → l.levels.latchSet ≠ some true → l.levels.latchHome ≠ some true → l.slot = none →
        (∀ index, e.state = .running → s.currentRecord c = some .engage → e.segmentIndex = some index →
          leads .latchSet true .engaged (s.DoneRecorded c index)
            (s.DoneLeadsTo c index f (atRest .engaged (moved .latchSet true)) e))
        ∧ ((e.state = .running → ∃ r, s.currentRecord c = some r ∧ s.GoesOn c f e .engaged r) →
          leads .latchSet true .engaged nothing (become (atRest .engaged (moved .latchSet true)) e)))
      ∧ (l.levels.latchHome ≠ some true → l.levels.latchSet ≠ some true →
        let home := comeHome (moved .latchHome true)
        let again := { home with state := .engaging, motor := .forward, motion := some ⟨.engage, 0⟩ }
        (l.state = .releasing ∨ l.state = .returning → slotFree →
          (∀ index, e.state = .running → s.currentRecord c = some .release → e.segmentIndex = some index →
            leads .latchHome true .released (s.DoneRecorded c index) (s.DoneLeadsTo c index f home e))
          ∧ (e.state = .running → s.currentRecord c = some .engage → e.engageWaiting = true →
            (l.levels.doorShut = some true →
              leads .latchHome true .released nothing (become again { e with engageWaiting := false }))
            ∧ (l.levels.doorShut ≠ some true →
              leads .latchHome true .released (s.AbortRecorded c .doorOpen) (ends .doorOpen home)))
          ∧ (l.state = .returning → e.state = .running → s.currentRecord c = some .engage →
            e.engageWaiting = false → leads .latchHome true .released (s.AbortRecorded c .jammed) (ends .jammed home))
          ∧ ((e.state = .running → ∃ r, s.currentRecord c = some r ∧ r ≠ .engage ∧ s.GoesOn c f e .released r) →
            leads .latchHome true .released nothing (become home e)))
        ∧ (l.state = .releasing → l.slot = some ⟨.engage, .engine⟩ → e.state = .running →
          s.currentRecord c = some .engage → e.engageWaiting = false →
          (l.levels.doorShut = some true → leads .latchHome true .released nothing (become again e))
          ∧ (l.levels.doorShut ≠ some true →
              leads .latchHome true .released (s.AbortRecorded c .doorOpen) (ends .doorOpen home)))))
    ∧ ∀ k, e.state = .safeCool → e.recorded = some k →
      (l.state = .releasing ∨ l.state = .returning → slotFree → l.levels.latchHome ≠ some true →
        l.levels.latchSet ≠ some true →
        leads .latchHome true .released (s.AbortRecorded c k) (ends k (comeHome (moved .latchHome true))))
      ∧ (l.state ≠ .notAdopted → l.state ≠ .faulted → l.levels.latchHome = some true →
        l.levels.latchSet ≠ some true →
        leads .latchSet true .faulted (s.AbortRecorded c k) (ends k (stuckAt (moved .latchSet true))))

/-! ## Ticks -/

/-- One tick of an engine, in every engine state and segment kind: a RAMP's setpoint advances by its rate, and the
RAMP ends DONE at the tick that brings the setpoint to its target with F not more than 5.0 °C below it, time limit or
not; a SOAK counts down or counts an undershoot, the other kinds and a RAMP without a rate count the elapsed second
alone, the count of PAUSED and HELD goes down, SAFE_COOL counts the second alone. Any other segment whose end
condition holds at the tick ends DONE as well; one that goes on changes nothing else but the next draw of the open
orders. The end of a SOAK stands in SoakCountdownEndsSegment and the endings by a count in CountedEndingsAbortCycle.
Before the second timer has run its second there is no tick (R87, R90, R91, R93 to R101, R105, R108, R114). What the
items of an engine hold in IDLE is the model's reading (log entry 17). -/
def Obligations.TickDoesSegmentWork : Prop :=
  ∀ (s : State) (c : Cavity), s.events.outbox = [] →
    let e := s.engine c
    let becomes := fun (e' : Engine) => exec (.tick c) s = .next (s.setEngine c e').drawOrder
    let done := fun (f : Int) (e' : Engine) => ∀ index, e.segmentIndex = some index →
      ∃ t, exec (.tick c) s = .next t ∧ s.DoneLeadsTo c index f (s.lock c) e' (t.lock c) (t.engine c)
        ∧ s.DoneRecorded c index t ∧ Elsewhere c s t ∧ t.sup = s.sup
    (¬ RanOut e.secondTimer 1000 → exec (.tick c) s = .next s)
    ∧ (RanOut e.secondTimer 1000 → e.cycleSeconds < 4294967295 → e.segmentElapsed < 4294967295 →
        e.soakSeconds < 4294967295 →
      (∀ r f sp rate, e.state = .running → s.currentRecord c = some (.ramp r) → s.unforced c f →
        r.timeLimit ≠ some (e.segmentElapsed + 1) → e.setpoint = some sp → r.rate = some rate →
        let sp' := min (sp + ((e.accumulator + rate) / 60 : Nat)) r.target
        (sp' < r.target ∨ f < r.target - 50) →
        becomes { ticked e with
          segmentElapsed := e.segmentElapsed + 1
          accumulator := (e.accumulator + rate) % 60
          setpoint := some sp' })
      ∧ (∀ r f sp rate, e.state = .running → s.currentRecord c = some (.ramp r) → s.unforced c f →
        e.setpoint = some sp → r.rate = some rate → r.target ≤ sp + ((e.accumulator + rate) / 60 : Nat) →
        r.target - 50 ≤ f →
        done f { ticked e with
          segmentElapsed := e.segmentElapsed + 1
          accumulator := (e.accumulator + rate) % 60
          setpoint := some r.target })
      ∧ (∀ r f, e.state = .running → s.currentRecord c = some r → s.unforced c f →
        (∀ x, r ≠ .soak x) → (∀ x, r = .ramp x → x.rate = none) → ¬ s.GoesOn c f e (s.lock c).state r →
        done f { ticked e with segmentElapsed := e.segmentElapsed + 1 })
      ∧ (∀ r f, e.state = .running → s.currentRecord c = some r → s.unforced c f →
        (∀ x, r ≠ .soak x) → (∀ x, r = .ramp x → x.rate = none) →
        (∀ t limit, (r = .catalyst t (some limit) ∨ (∃ level, r = .cool t (some limit) level)) →
          limit ≠ e.segmentElapsed + 1) →
        (∀ x, r = .ramp x → x.timeLimit ≠ some (e.segmentElapsed + 1)) →
        s.GoesOn c f e (s.lock c).state r →
        becomes { ticked e with segmentElapsed := e.segmentElapsed + 1 })
      ∧ (∀ r f n, e.state = .running → s.currentRecord c = some (.soak r) → s.unforced c f →
        r.timeLimit ≠ some (e.segmentElapsed + 1) → r.target - r.tolerance ≤ f → e.soakRemaining = some (n + 2) →
        becomes { ticked e with
          segmentElapsed := e.segmentElapsed + 1
          soakRemaining := some (n + 1)
          soakSeconds := e.soakSeconds + 1
          undershootCount := 0 })
      ∧ (∀ r f n, e.state = .running → s.currentRecord c = some (.soak r) → s.unforced c f →
        r.timeLimit ≠ some (e.segmentElapsed + 1) → f < r.target - r.tolerance → e.soakRemaining = some (n + 1) →
        e.undershootCount < 599 →
        becomes { ticked e with
          segmentElapsed := e.segmentElapsed + 1
          undershootCount := e.undershootCount + 1 })
      ∧ (∀ n, e.state = .paused ∨ e.state = .held → e.holdCount = some (n + 2) →
        becomes { ticked e with holdCount := some (n + 1) })
      ∧ (e.state = .safeCool → becomes (ticked e)))

/-- The tick that takes the count of PAUSED or HELD to 0, the 600th tick of a SOAK below its tolerance, and the tick
at which the elapsed count reaches the time limit of a COOL, CATALYST, RAMP or SOAK that goes on, after that tick's
own work, abort the cycle with EXPIRED, UNDERSHOOT and STALLED. They are ticks (log entry 10): TICK itself does the
same (R87, R96 to R98, R101, R105, R108, R110). -/
def Obligations.CountedEndingsAbortCycle : Prop :=
  ∀ (s : State) (c : Cavity), s.events.outbox = [] → s.lockHolds c → RanOut (s.engine c).secondTimer 1000 →
    (s.engine c).cycleSeconds < 4294967295 → (s.engine c).segmentElapsed < 4294967295 →
    let e := s.engine c
    let aborts := fun (i : Instr) (k : Condition) (e' : Engine) =>
      exec (.tick c) s = exec i s
      ∧ ∃ t, exec i s = .next t ∧ t.engine c = abortedBy k e' ∧ t.lock c = askedByAbort (s.policy c) (s.lock c)
        ∧ t.tableLocks = s.tableLocks ∧ coldNow t c ∧ Elsewhere c s t ∧ t.sup = s.sup
        ∧ (e.state ≠ .held → s.events.queue.length ≤ 13 → t.recorded (.segmentEnded c (e.segmentIndex.getD 0) k))
    (e.state = .paused ∨ e.state = .held → e.holdCount = some 1 → aborts (.expired c) .expired (ticked e))
    ∧ (∀ r f n, e.state = .running → s.currentRecord c = some (.soak r) → s.unforced c f →
        f < r.target - r.tolerance → e.soakRemaining = some (n + 1) → e.undershootCount = 599 →
        aborts (.undershoot c) .undershoot
          { ticked e with segmentElapsed := e.segmentElapsed + 1, undershootCount := 600 })
    ∧ (∀ r target limit f, e.state = .running → s.currentRecord c = some r →
        ((∃ level, r = .cool target (some limit) level) ∨ r = .catalyst target (some limit)) →
        s.unforced c f → s.GoesOn c f e (s.lock c).state r → e.segmentElapsed + 1 = limit →
        aborts (.stalled c) .stalled { ticked e with segmentElapsed := e.segmentElapsed + 1 })
    ∧ (∀ r f, e.state = .running → s.currentRecord c = some (.ramp r) → s.unforced c f →
        r.timeLimit = some (e.segmentElapsed + 1) →
        (∀ sp rate, e.setpoint = some sp → r.rate = some rate →
          let sp' := min (sp + ((e.accumulator + rate) / 60 : Nat)) r.target
          (sp' < r.target ∨ f < r.target - 50) →
          aborts (.stalled c) .stalled
            { ticked e with
              segmentElapsed := e.segmentElapsed + 1
              accumulator := (e.accumulator + rate) % 60
              setpoint := some sp' })
        ∧ (r.rate = none → s.GoesOn c f e (s.lock c).state (.ramp r) →
          aborts (.stalled c) .stalled { ticked e with segmentElapsed := e.segmentElapsed + 1 }))
    ∧ (∀ r f n, e.state = .running → s.currentRecord c = some (.soak r) → s.unforced c f →
        r.timeLimit = some (e.segmentElapsed + 1) →
        (r.target - r.tolerance ≤ f → e.soakRemaining = some (n + 2) → e.soakSeconds < 4294967295 →
          aborts (.stalled c) .stalled
            { ticked e with
              segmentElapsed := e.segmentElapsed + 1
              soakRemaining := some (n + 1)
              soakSeconds := e.soakSeconds + 1
              undershootCount := 0 })
        ∧ (f < r.target - r.tolerance → e.soakRemaining = some (n + 1) → e.undershootCount < 599 →
          aborts (.stalled c) .stalled
            { ticked e with
              segmentElapsed := e.segmentElapsed + 1
              undershootCount := e.undershootCount + 1 }))

/-- The tick that takes the soak remaining of the last segment to 0 completes the cycle: the engine is IDLE with the
outcome COMPLETED, the table lock is clear, the lock is left as it is, and the end is recorded; with segments to come
the engine is HELD in a single-step cycle, and otherwise enters the next segment, which asks the lock where it is an
ENGAGE or a RELEASE (R68, R90, R97, R108, R114, R115). SOAK_REMAINING_ZERO is a tick (log entry 10), and what the
items hold in IDLE is the model's reading (log entry 17). -/
def Obligations.SoakCountdownEndsSegment : Prop :=
  ∀ (s : State) (c : Cavity) (r : SoakRecord) (f : Int) (index : Nat), s.events.outbox = [] →
    let e := s.engine c
    e.state = .running → RanOut e.secondTimer 1000 → e.segmentIndex = some index →
    s.currentRecord c = some (.soak r) → s.unforced c f → r.target - r.tolerance ≤ f → e.soakRemaining = some 1 →
    e.cycleSeconds < 4294967295 → e.segmentElapsed < 4294967295 → e.soakSeconds < 4294967295 →
    let counted := { ticked e with
      segmentElapsed := e.segmentElapsed + 1
      soakRemaining := some 0
      soakSeconds := e.soakSeconds + 1
      undershootCount := 0 }
    exec (.tick c) s = exec (.soakRemainingZero c) s
    ∧ ((s.program c).length = index →
      ∃ t, exec (.soakRemainingZero c) s = .next t
        ∧ t.engine c = endedBy .completed .done (s.lock c).state counted
        ∧ t.tableLocks = s.tableLocks.set c false ∧ t.lock c = s.lock c ∧ coldNow t c ∧ Elsewhere c s t
        ∧ t.sup = s.sup
        ∧ (s.events.queue.length ≤ 14 →
            t.recorded (.segmentEnded c index .done) ∧ t.recorded (.cycleEnded c .completed .done)))
    ∧ (index < (s.program c).length → e.singleStep = true →
      ∃ t, exec (.soakRemainingZero c) s = .next t
        ∧ t.engine c = heldAfter counted
        ∧ t.tableLocks = s.tableLocks ∧ t.lock c = s.lock c ∧ coldNow t c ∧ Elsewhere c s t ∧ t.sup = s.sup
        ∧ (s.events.queue.length ≤ 15 → t.recorded (.segmentEnded c index .done)))
    ∧ (index < (s.program c).length → e.singleStep = false →
      ∃ t, exec (.soakRemainingZero c) s = .next t
        ∧ s.DoneLeadsTo c index f (s.lock c) counted (t.lock c) (t.engine c)
        ∧ t.reported (.segmentEnded c index .done) ∧ Elsewhere c s t ∧ t.sup = s.sup)

/-! ## Measurement -/

/-- The result of a conversion from its two codes, over the whole span of the codes: the reference check, the
resistance, the two classes without a temperature, the thirteen segments, the last table point and the two clamps (R20
to R24). -/
def Obligations.ConversionArithmetic : Prop :=
  ∀ codeRtd codeRef : BitVec 16,
    let ref := codeRef.toNat
    let r := (codeRtd.toNat * 20000 + ref / 2) / ref
    ((ref < 20000 ∨ 60000 < ref) → convert codeRtd codeRef = ⟨.reference, none, none, none⟩)
    ∧ (20000 ≤ ref → ref ≤ 60000 → r ≤ 65535
      ∧ (r < 7000 → convert codeRtd codeRef = ⟨.shortCircuit, some r, none, none⟩)
      ∧ (35000 < r → convert codeRtd codeRef = ⟨.openCircuit, some r, none, none⟩)
      ∧ (7000 ≤ r → r ≤ 8030 → convert codeRtd codeRef = ⟨.temperature, some r, some (-500), some .under⟩)
      ∧ (r = 31371 → convert codeRtd codeRef = ⟨.temperature, some r, some 6000, none⟩)
      ∧ (31372 ≤ r → r ≤ 35000 → convert codeRtd codeRef = ⟨.temperature, some r, some 6000, some .over⟩)
      ∧ ∀ seg ∈ ([(-500, 8031, 10000), (0, 10000, 11940), (500, 11940, 13851), (1000, 13851, 15733),
            (1500, 15733, 17586), (2000, 17586, 19410), (2500, 19410, 21205), (3000, 21205, 22972),
            (3500, 22972, 24709), (4000, 24709, 26418), (4500, 26418, 28098), (5000, 28098, 29749),
            (5500, 29749, 31371)] : List (Int × Nat × Nat)),
          seg.2.1 ≤ r → r < seg.2.2 →
          convert codeRtd codeRef = ⟨.temperature, some r,
            some (seg.1 + (((r - seg.2.1) * 500 + (seg.2.2 - seg.2.1) / 2) / (seg.2.2 - seg.2.1) : Nat)), none⟩)

/-- The conversion that the converter starts at a completion (R4, R5): a held on-demand request, with the scan position
left where it is, or the channel at the scan position. A conversion completes 50 ms after its start, and not before.
The codes stay on the channel's pins (log entry 7). -/
def Obligations.NextConversionIsChosen : Prop :=
  ∀ (s : State) (rtd ref : BitVec 16), s.events.outbox = [] →
    (s.converter.elapsed < 50 ∨ s.converter.origin = .sample →
      exec (.scanConversionComplete rtd ref) s = .next s)
    ∧ (s.converter.elapsed < 50 ∨ s.converter.origin = .scan →
      exec (.onDemandConversionComplete rtd ref) s = .next s)
    ∧ (50 ≤ s.converter.elapsed → s.converter.origin = .scan →
      ∃ t, exec (.scanConversionComplete rtd ref) s = .next t
        ∧ t.pins = { s.pins with codes := s.pins.codes.set s.converter.channel (rtd, ref) }
        ∧ t.converter = (match s.converter.onDemand with
          | some ch => ⟨ch, .sample, 0, s.converter.scanPos, some ch⟩
          | none => ⟨(#v[.cav .a, .cav .b, .cat .a, .cav .a, .cav .b, .cat .b, .cav .a, .cav .b, .front]
              : Vector Channel 9)[s.converter.scanPos], .scan, 0, s.converter.scanPos + 1, none⟩)
        ∧ t.tables = s.tables ∧ t.link.receiver = s.link.receiver ∧ t.link.transmitter = s.link.transmitter
        ∧ t.clock = s.clock ∧ t.pending = s.pending
        ∧ ∀ ch, ch ≠ s.converter.channel → t.channel ch = s.channel ch)
    ∧ (50 ≤ s.converter.elapsed → s.converter.origin = .sample →
      ∃ t, exec (.onDemandConversionComplete rtd ref) s = .next t
        ∧ t = { s with pins := t.pins, converter := t.converter, link := t.link }
        ∧ t.pins = { s.pins with codes := s.pins.codes.set s.converter.channel (rtd, ref) }
        ∧ t.converter = ⟨(#v[.cav .a, .cav .b, .cat .a, .cav .a, .cav .b, .cat .b, .cav .a, .cav .b, .front]
              : Vector Channel 9)[s.converter.scanPos], .scan, 0, s.converter.scanPos + 1, none⟩
        ∧ t.link = (if s.link.transmitter = .waitingSample then
            { s.link with
              transmitter := .sending ⟨none, false, s.attentionFlags,
                encodeItems (sampleItems s.converter.channel rtd ref (convert rtd ref))⟩
              collisionSeen := false }
          else s.link))

/-- A scan conversion that gives a temperature agreeing with the previous one is accepted: F is the temperature, or
the filter of it in VALID; the channel is VALID, its staleness timer starts again, a cavity channel's rate history
starts at its return to VALID, and the band in force follows F, with a release that waits begun under FREE (R59). What
the other readers do with the new F: the engine raises its peak F, ends the cycle with OVERSHOOT above its ceiling
(R102, R110, R113), ends a segment in RUNNING DONE where its end condition now holds, as for a COOL with F at or below
its target and a RAMP with its setpoint at the target and F not more than 5.0 °C below it, and otherwise goes on as it
was (R91, R95, R99); an F_cat not more than 20.0 °C below its target ends a CATALYST DONE (R94). DONE completes the
cycle, holds it or enters the next segment (R90, R108, R114), whose lock request meets the policy before or after the
change of band, in the open order of log entry 3. The Supervisor marks the channel measured, which may be the last
condition of readiness (R161), latches OVERHEAT from 5800, which turns drive enable off and aborts both cycles, and
runs its timer (R112, R164, R166); the fan judges the front-hot demand and inhibit, which is a source of heat inhibit,
and its tacho watch follows a rise of the level from 0 and a fall to 0 (R151, R153, R154, R156, R163) (R7, R8, R11,
R13, R26, R28, R38, R39). The clauses on the lock have as premise that the band index is OVER while the channel is not
VALID, which every step keeps (FanAndEnableStayFollowing). What the items of an engine hold in IDLE is the model's
reading (log entry 17). -/
def Obligations.AgreeingTemperatureIsAccepted : Prop :=
  ∀ (s : State) (rtd ref : BitVec 16) (x p : Int) (r : Option Nat) (q : Option Qualifier),
    let ch := s.converter.channel
    let e := s.channel ch
    s.converter.origin = .scan → 50 ≤ s.converter.elapsed → e.state ≠ .failed →
    convert rtd ref = ⟨.temperature, r, some x, q⟩ →
    e.previousRaw = some p →
    (x - p).natAbs ≤ (match ch with
      | .cav _ => 30
      | .cat _ => 50
      | .front => 20) →
    ∃ t, exec (.scanConversionComplete rtd ref) s = .next t
      ∧ t.channels = s.channels.set ch
          { e with
            state := .valid
            previousRaw := some x
            staleness := some 0
            f := (t.channel ch).f
            disagreements := 0
            runClass := none
            runCount := 0 }
      ∧ (e.state ≠ .valid → (t.channel ch).f = some x)
      ∧ (∀ old, e.state = .valid → e.f = some old → (t.channel ch).f = some ((3 * old + x + 2) / 4))
      ∧ (∀ c, ch = .cav c →
          t.rates = (if e.state = .valid then s.rates
            else s.rates.set c { mark := some x, timer := some 0, rate := none })
          ∧ (∀ f, (t.channel ch).f = some f →
              t.bandIndex = s.bandIndex.set c
                (if e.state = .valid then evaluate (s.bandTable c) (s.bandIndex.get c) f
                  else lookup (s.bandTable c) f)))
      ∧ ((∀ c, ch ≠ .cav c) → t.rates = s.rates ∧ t.bandIndex = s.bandIndex)
      ∧ t.tables = s.tables ∧ t.pending = s.pending ∧ s.ChannelMeasured ch t
      ∧ (∀ c f, ch = .cav c → (t.channel ch).f = some f →
          (s.IndexOverUnlessValid → s.inCycle c = false → (s.lock c).state = .engaged →
            (s.lock c).releasePending ≠ none → s.policy c ≠ .free → t.policy c = .free →
            t.lock c = releaseBegun (s.lock c))
          ∧ (f < 5800 → (s.lock c).releasePending = none →
            (t.engine c).peakF = (if (s.engine c).state = .idle then (s.engine c).peakF
              else some (match (s.engine c).peakF with
                | some p => max p f
                | none => f)))
          ∧ (∀ m, f < 5800 → (s.lock c).releasePending = none → s.inCycle c = true → s.currentRecord c ≠ none →
            (s.engine c).ceiling = some m → m < f →
            t.engine c = abortedUnder (s.lock c).state .overshoot { s.engine c with peakF := (t.engine c).peakF }
            ∧ coldNow t c
            ∧ (s.IndexOverUnlessValid → t.policy c = s.policy c → t.lock c = askedByAbort (s.policy c) (s.lock c)))
          ∧ (f < 5800 → s.inCycle c = true → s.currentRecord c ≠ none → (s.lock c).state ≠ .faulted →
            (∀ m, (s.engine c).ceiling = some m → f ≤ m) →
            let seen := { s.engine c with peakF := (t.engine c).peakF }
            (∀ index x, (s.engine c).state = .running → (s.engine c).segmentIndex = some index →
              s.currentRecord c = some x → ¬ s.GoesOn c f (s.engine c) (s.lock c).state x →
              (s.lock c).releasePending = none → s.IndexOverUnlessValid →
              (s.DoneLeadsTo c index f (s.lock c) seen (t.lock c) (t.engine c)
                ∨ t.DoneLeadsTo c index f (s.lock c) seen (t.lock c) (t.engine c))
              ∧ s.DoneRecorded c index t)
            ∧ (((s.engine c).state = .running →
                ∃ x, s.currentRecord c = some x ∧ s.GoesOn c f (s.engine c) (s.lock c).state x) →
              t.engine c = seen ∧ t.tableLocks = s.tableLocks ∧ (s.events.outbox = [] → s.CycleUnrecorded c t)
              ∧ ((s.lock c).releasePending = none → t.lock c = s.lock c)
              ∧ (s.IndexOverUnlessValid → (s.lock c).state = .engaged → (s.lock c).releasePending ≠ none →
                s.policy c ≠ .free → t.policy c = .free → t.lock c = releaseBegun (s.lock c))))
          ∧ (f < 5800 → t.sup.overheat = s.sup.overheat
            ∧ t.sup.overheatTimer = s.sup.overheatTimer.set c none)
          ∧ (5800 ≤ f → t.sup.overheat = s.sup.overheat.set c true
            ∧ t.sup.overheatTimer = s.sup.overheatTimer.set c
                (if s.sup.overheat.get c = true ∧ s.sup.overheatTimer.get c ≠ none then s.sup.overheatTimer.get c
                  else some 0)
            ∧ (s.sup.overheat.get c = false → t.sup.driveEnable = false ∧ (∀ d, t.inCycle d = false ∧ coldNow t d)
              ∧ t.engine c.other = s.afterAbort .system c.other ∧ t.reported (.faultRaised (some c) .overheat none))))
      ∧ (∀ c f, ch = .cat c → s.inCycle c = true → s.currentRecord c ≠ none → s.unforced c f →
          (∀ index x, (s.engine c).state = .running → (s.engine c).segmentIndex = some index →
            s.currentRecord c = some x → ¬ t.GoesOn c f (s.engine c) (s.lock c).state x →
            t.DoneLeadsTo c index f (s.lock c) (s.engine c) (t.lock c) (t.engine c) ∧ s.DoneRecorded c index t)
          ∧ (((s.engine c).state = .running →
              ∃ x, s.currentRecord c = some x ∧ t.GoesOn c f (s.engine c) (s.lock c).state x) →
            t.engine c = s.engine c ∧ t.lock c = s.lock c ∧ t.tableLocks = s.tableLocks
            ∧ (s.events.outbox = [] → s.CycleUnrecorded c t)))
      ∧ (∀ f, ch = .front → (t.channel ch).f = some f →
          t.fan.frontHotDemand = (if s.fan.frontHotDemand = true then decide (800 ≤ f) else decide (850 ≤ f))
          ∧ t.fan.frontHotInhibit = (if s.fan.frontHotInhibit = true then decide (900 ≤ f) else decide (1100 ≤ f))
          ∧ t.sup.inhibit.frontHot = t.fan.frontHotInhibit
          ∧ (t.fan.frontHotInhibit = true → ∀ c, coldNow t c)
          ∧ t.fan.frontInvalid = 0 ∧ t.fan.level = t.fan.greatest
          ∧ (s.fan.level = 0 → 0 < t.fan.level → s.fan.watch = .off →
              t.fan.watch = .grace ∧ t.fan.grace = some 0)
          ∧ (0 < s.fan.level → t.fan.level = 0 →
              (s.fan.watch = .grace → t.fan.watch = .off ∧ t.fan.grace = none)
              ∧ (s.fan.watch = .watching → t.fan.watch = .off ∧ t.fan.pulse = none))
          ∧ (0 < s.fan.level → 0 < t.fan.level →
              t.fan.watch = s.fan.watch ∧ t.fan.grace = s.fan.grace ∧ t.fan.pulse = s.fan.pulse)
          ∧ t.engines = s.engines ∧ t.locks = s.locks)

/-- A scan conversion that is not accepted: the first temperature is stored alone, a temperature outside the window
and a conversion without a temperature are disagreements, and one that fails no channel is made known to nobody. A
FAILED channel's result is discarded (R7 to R9, R13, R14). The codes stay on the channel's pins (log entry 7). -/
def Obligations.OtherScanResultsOnlyCount : Prop :=
  ∀ (s : State) (rtd ref : BitVec 16),
    let ch := s.converter.channel
    let e := s.channel ch
    let counts := fun (e' : ChannelEntry) =>
      exec (.scanConversionComplete rtd ref) s = .next (State.drawOrder
        { s with
          channels := s.channels.set ch e'
          converter := nextConversion s.converter
          pins := { s.pins with codes := s.pins.codes.set ch (rtd, ref) } })
    s.events.outbox = [] → s.converter.origin = .scan → 50 ≤ s.converter.elapsed →
    (e.state = .failed → counts e)
    ∧ (e.state ≠ .failed → e.disagreements < 7 →
      (∀ x, (convert rtd ref).temperature = some x → e.previousRaw = none →
        counts { e with previousRaw := some x, runClass := none, runCount := 0 })
      ∧ (∀ x p, (convert rtd ref).temperature = some x → e.previousRaw = some p →
        (agreementWindow ch).toNat < (x - p).natAbs →
        counts { e with
          previousRaw := some x
          disagreements := e.disagreements + 1
          runClass := none
          runCount := 0 })
      ∧ (∀ k limit,
        ((convert rtd ref).cls = .openCircuit ∧ k = NoTempClass.openCircuit ∧ limit = 2)
          ∨ ((convert rtd ref).cls = .shortCircuit ∧ k = .shortCircuit ∧ limit = 2)
          ∨ ((convert rtd ref).cls = .reference ∧ k = .reference ∧ limit = 8) →
        let n := if e.runClass = some k then e.runCount + 1 else 1
        n < limit →
        counts { e with
          previousRaw := none
          disagreements := e.disagreements + 1
          runClass := some k
          runCount := n }))

/-- The conversion that fails a channel: FAILED with its cause, the staleness timer stopped and the rate history of a
cavity channel emptied, with FAULT_RAISED. Two conversions in a row of class OPEN or SHORT, eight of class REFERENCE
and an eighth disagreement that completes none of these runs, a temperature outside the window or a conversion without
a temperature, do it. A channel that fails in WARMUP is measured by it, which may be the last condition of readiness.
A cavity channel's failure ends a cycle of its cavity with SENSOR_LOST, a catalyst channel's while regulation is ON or
SUSPENDED, from whatever state the channel fails, and FRONT's aborts both cycles with SYSTEM, inhibits heat and asks
for the full fan, whose tacho watch begins its grace where the fan stood still (R9, R10, R30, R36, R103, R110, R112,
R113, R153, R156, R161 to R163, R167). What the items of an engine hold in IDLE is the model's reading (log entry 17).
-/
def Obligations.RepeatedFailureFailsChannel : Prop :=
  ∀ (s : State) (rtd ref : BitVec 16) (cause : FailCause),
    let ch := s.converter.channel
    let e := s.channel ch
    s.converter.origin = .scan → 50 ≤ s.converter.elapsed → e.state ≠ .failed →
    ((cause = .openCircuit ∧ (convert rtd ref).cls = .openCircuit ∧ e.runClass = some .openCircuit
          ∧ e.runCount = 1)
      ∨ (cause = .shortCircuit ∧ (convert rtd ref).cls = .shortCircuit ∧ e.runClass = some .shortCircuit
          ∧ e.runCount = 1)
      ∨ (cause = .reference ∧ (convert rtd ref).cls = .reference ∧ e.runClass = some .reference
          ∧ e.runCount = 7)
      ∨ (cause = .erratic ∧ e.disagreements = 7 ∧ ∃ x p, (convert rtd ref).cls = .temperature
          ∧ (convert rtd ref).temperature = some x ∧ e.previousRaw = some p
          ∧ (agreementWindow ch).toNat < (x - p).natAbs)
      ∨ (cause = .erratic ∧ e.disagreements = 7 ∧ ∃ k limit,
          (((convert rtd ref).cls = .openCircuit ∧ k = NoTempClass.openCircuit ∧ limit = 2)
            ∨ ((convert rtd ref).cls = .shortCircuit ∧ k = .shortCircuit ∧ limit = 2)
            ∨ ((convert rtd ref).cls = .reference ∧ k = .reference ∧ limit = 8))
          ∧ (if e.runClass = some k then e.runCount + 1 else 1) < limit)) →
    ∃ t, exec (.scanConversionComplete rtd ref) s = .next t
      ∧ (t.channel ch).state = .failed ∧ (t.channel ch).cause = some cause ∧ (t.channel ch).staleness = none
      ∧ (t.channel ch).f = e.f ∧ (t.channel ch).disagreements = e.disagreements + 1
      ∧ (∀ d, d ≠ ch → t.channel d = s.channel d)
      ∧ s.ChannelMeasured ch t
      ∧ (∀ c, ch = .cav c → t.rates = s.rates.set c ⟨none, none, none⟩ ∧ t.bandIndex.get c = .over)
      ∧ t.reported (.faultRaised (match ch with
          | .cav c => some c
          | .cat c => some c
          | .front => none) (failCode cause) (some (.channel ch)))
      ∧ t.tables = s.tables ∧ t.pending = s.pending
      ∧ (∀ c f, ch = .cav c → s.inCycle c = true → s.currentRecord c ≠ none → s.unforced c f →
          t.engine c = s.afterAbort .sensorLost c ∧ coldNow t c ∧ t.lock c = askedByAbort .interlock (s.lock c))
      ∧ (∀ c f, ch = .cat c → s.inCycle c = true → s.currentRecord c ≠ none → s.unforced c f →
          ((s.engine c).catalyst ≠ .off →
            t.engine c = s.afterAbort .sensorLost c ∧ coldNow t c
            ∧ t.lock c = askedByAbort (s.policy c) (s.lock c))
          ∧ ((s.engine c).catalyst = .off →
            ((s.engine c).state = .running → ∃ x, s.currentRecord c = some x
              ∧ (∀ target limit, x ≠ .catalyst target limit) ∧ s.GoesOn c f (s.engine c) (s.lock c).state x) →
            t.engine c = s.engine c ∧ t.lock c = s.lock c))
      ∧ (ch = .front →
          (∀ d, t.engine d = s.afterAbort .system d ∧ coldNow t d)
          ∧ t.sup.inhibit.frontFailed = true ∧ t.sup.trip = s.sup.trip
          ∧ t.fan.frontInvalid = 3 ∧ t.fan.level = t.fan.greatest
          ∧ (s.fan.level = 0 → s.fan.watch = .off → t.fan.watch = .grace ∧ t.fan.grace = some 0))

/-- The expiry of a channel's staleness timer at its limit: STALE with F kept. A cavity channel's rate history is
emptied, the OVER band is in force, and a cycle of the cavity ends with SENSOR_LOST, its release waiting; a catalyst
channel's ends the cycle while regulation is ON or SUSPENDED; FRONT's asks for the full fan, whose tacho watch begins
its grace where the fan stood still, and ends no cycle. A timer that has not reached its limit, stopped or started
again since, does not expire (R1, R12, R30, R36, R103, R110, R113, R153, R156). What the items of an engine hold in
IDLE is the model's reading (log entry 17). -/
def Obligations.StalenessEndsValid : Prop :=
  ∀ (s : State) (ch : Channel),
    let limit := match ch with
      | .cav _ => 1000
      | .cat _ => 2000
      | .front => 3000
    (s.isValid ch = false ∨ ¬ RanOut (s.channel ch).staleness limit → exec (.stalenessTimerExpiry ch) s = .next s)
    ∧ (s.isValid ch = true → RanOut (s.channel ch).staleness limit →
    ∃ t, exec (.stalenessTimerExpiry ch) s = .next t
      ∧ t.channels = s.channels.set ch { s.channel ch with state := .stale, staleness := none }
      ∧ t.tables = s.tables ∧ t.converter = s.converter ∧ t.pins = s.pins ∧ t.clock = s.clock
      ∧ t.pending = s.pending
      ∧ ((∀ c, ch ≠ .cav c) → t.rates = s.rates ∧ t.bandIndex = s.bandIndex)
      ∧ (∀ c, ch = .cav c →
        t.rates = s.rates.set c ⟨none, none, none⟩ ∧ t.bandIndex = s.bandIndex.set c .over
        ∧ (∀ f, s.inCycle c = true → s.currentRecord c ≠ none → s.unforced c f →
            t.engine c = s.afterAbort .sensorLost c ∧ coldNow t c
            ∧ t.lock c = askedByAbort .interlock (s.lock c)))
      ∧ (∀ c f, ch = .cat c → s.inCycle c = true → s.currentRecord c ≠ none → s.unforced c f →
          (s.engine c).catalyst ≠ .off →
          t.engine c = s.afterAbort .sensorLost c ∧ coldNow t c
          ∧ t.lock c = askedByAbort (s.policy c) (s.lock c))
      ∧ (ch = .front → t.engines = s.engines ∧ t.locks = s.locks ∧ t.fan.frontInvalid = 3
          ∧ t.fan.level = t.fan.greatest
          ∧ (s.fan.level = 0 → s.fan.watch = .off → t.fan.watch = .grace ∧ t.fan.grace = some 0)))

/-- The expiry of a cavity's rate timer: the rate over the interval, clamped, with a fresh mark and timer; a rate of
40.0 °C per minute or more of a cavity that has held no slot in the last window or this one latches RUNAWAY, turns
drive enable off, withdraws every grant and aborts both cycles with SYSTEM; otherwise nothing else changes. A timer
that has not reached its 6 s, stopped or started again since, does not expire (R29, R31, R112, R162, R163, R165). What
the items of an engine hold in IDLE is the model's reading (log entry 17). -/
def Obligations.RateTimerJudgesRunaway : Prop :=
  ∀ (s : State) (c : Cavity), s.events.outbox = [] →
    (¬ RanOut (s.rateOf c).timer 6000 → exec (.rateTimerExpiry c) s = .next s)
    ∧ ∀ f mark, RanOut (s.rateOf c).timer 6000 → s.isValid (.cav c) = true → s.f (.cav c) = some f →
      (s.rateOf c).mark = some mark →
      let rate := max (-9990) (min ((f - mark) * 10) 9990)
      let unheld := 400 ≤ rate ∧ (s.alloc.slotUse.get c).heldLast = false
        ∧ (s.alloc.slotUse.get c).heldThis = false
      (¬ unheld ∨ s.sup.runaway.get c = true →
        exec (.rateTimerExpiry c) s = .next (s.setRate c ⟨some f, some 0, some rate⟩).drawOrder)
      ∧ (unheld → s.sup.runaway.get c = false →
        ∃ t, exec (.rateTimerExpiry c) s = .next t
          ∧ t.rates = s.rates.set c ⟨some f, some 0, some rate⟩
          ∧ t.sup.runaway = s.sup.runaway.set c true ∧ t.sup.driveEnable = false
          ∧ t.reported (.faultRaised (some c) .runaway none)
          ∧ (∀ d, t.engine d = s.afterAbort .system d ∧ coldNow t d)
          ∧ t.tables = s.tables ∧ t.channels = s.channels ∧ t.bandIndex = s.bandIndex ∧ t.pending = s.pending)

/-- Lookup finds the first enabled band whose limit is above the temperature, and OVER where there is none, and never
a lower band for a higher temperature (R37). Evaluation with hysteresis moves up to it at once, down to the lower of the
current band and the lookup of F + 50, and not at all where it is the current band, as R38 has it. -/
def Obligations.BandLookupAndHysteresis : Prop :=
  ∀ (tbl : Vector BandRecord 8) (x : Int) (c : BandIndex),
    (∀ n : Fin 8, lookup tbl x = .band n ↔
      (tbl[n].enabled = true ∧ x < tbl[n].limit ∧ ∀ m : Fin 8, m < n → ¬ (tbl[m].enabled = true ∧ x < tbl[m].limit)))
    ∧ (lookup tbl x = .over ↔ ∀ n : Fin 8, ¬ (tbl[n].enabled = true ∧ x < tbl[n].limit))
    ∧ (∀ y, x ≤ y → (lookup tbl x).rank ≤ (lookup tbl y).rank)
    ∧ (c.rank < (lookup tbl x).rank → evaluate tbl c x = lookup tbl x)
    ∧ ((lookup tbl x).rank < c.rank → evaluate tbl c x
        = if (lookup tbl (x + 50)).rank ≤ c.rank then lookup tbl (x + 50) else c)
    ∧ (lookup tbl x = c → evaluate tbl c x = c)

/-! ## Power -/

/-- The demand of an element at a window start: 0 without permission, and with it the proportional demand of its cavity
or of its catalyst, clamped to 0 to 16 slots (R116, R117, R124). -/
def Obligations.DemandFollowsTemperature : Prop :=
  ∀ (s : State) (e : Element),
    (s.permission e = false → s.demand e = 0)
    ∧ (s.permission e = true → s.fitted e = false → s.demand e = 0)
    ∧ (∀ h f, e.heater ≠ .cat → s.permission e = true → s.fitted e = true → s.heatCommand e.cavity = some h →
        s.f (.cav e.cavity) = some f →
        (s.demand e : Int)
          = max 0 (min ((h.bias : Int) + Int.fdiv (16 * (h.setpoint - f)) (h.band : Int)) 16))
    ∧ (∀ target f, e.heater = .cat → s.permission e = true → s.fitted e = true →
        (s.engine e.cavity).catalyst = .on target → s.f (.cat e.cavity) = some f →
        (s.demand e : Int) = max 0 (min (8 + Int.fdiv (16 * (target - f)) 400) 16))

/-- A window start, at the end of a reset or of slot 15: the budget set is in force, the lead alternates, the ratings
are read, the plan is the walk over the demands of this moment, slot 0 starts with the drive states of its grants, and
the slot-use records shift. Where the shift brings RUNAWAY to no cavity, nothing else changes but what the relays'
expected levels and timers follow, and the next draw of the open orders. Where it leaves a cavity without a held slot
at a rate of 40.0 °C per minute or more, RUNAWAY is latched for it, drive enable goes off and both cycles abort with
SYSTEM, in the open order of log entry 12 (R112, R165). At any other moment no window starts (R119, R121, R122, R124,
R135, R139). That a window start includes the start of slot 0, and what the items of an engine hold in IDLE, is the
model's reading (log entries 11 and 17). -/
def Obligations.WindowStartBuildsPlan : Prop :=
  ∀ s : State, s.events.outbox = [] →
    let due := s.alloc.slot = none ∨ (s.alloc.slot = some 15 ∧ 1000 ≤ s.alloc.slotElapsed)
    (¬ due → exec .windowStart s = .next s)
    ∧ (due → (∀ c, ¬ s.RunawayAtShift c) →
    ∃ t, exec .windowStart s = .next t
      ∧ t = { s.drawOrder with alloc := t.alloc, drive := t.drive }
      ∧ t.alloc = {
          budgetInForce := s.tables.budgetSet
          lead := s.alloc.lead.other
          slot := some 0
          slotElapsed := 0
          planRatings := s.tables.ratings
          grants := buildPlan s.tables.budgetSet s.alloc.lead.other s.tables.ratings (tabulate s.demand)
          slotUse := t.alloc.slotUse }
      ∧ (∀ c, (t.alloc.slotUse.get c).heldLast = (s.alloc.slotUse.get c).heldThis
          ∧ ((t.alloc.slotUse.get c).heldThis = true ↔
              ∃ h, h ≠ .cat ∧ 0 ∈ (t.alloc.grants.get ⟨c, h⟩).made))
      ∧ (∀ e, t.drive.driveState.get e = decide (0 ∈ (t.alloc.grants.get e).made))
      ∧ t.drive = { s.drive with entries := t.drive.entries, driveState := t.drive.driveState }
      ∧ (∀ r, (t.relay r).health = (s.relay r).health ∧ (t.relay r).sense = (s.relay r).sense
          ∧ (t.relay r).testDrive = (s.relay r).testDrive ∧ (t.relay r).hold = (s.relay r).hold
          ∧ (t.relay r).expectedClosed = (match r with
            | .element e => t.drive.driveState.get e && s.sup.driveEnable
            | .master => (s.relay .master).expectedClosed)))
    ∧ (due → (∃ c, s.RunawayAtShift c) →
      ∃ t, exec .windowStart s = .next t
        ∧ t.alloc.slot = some 0 ∧ t.alloc.slotElapsed = 0 ∧ t.alloc.budgetInForce = s.tables.budgetSet
        ∧ t.alloc.lead = s.alloc.lead.other ∧ t.alloc.planRatings = s.tables.ratings
        ∧ (∀ c, (t.alloc.slotUse.get c).heldLast = (s.alloc.slotUse.get c).heldThis)
        ∧ (∀ c, t.sup.runaway.get c = true ↔ s.sup.runaway.get c = true ∨ s.RunawayAtShift c)
        ∧ (∀ c, s.RunawayAtShift c → t.reported (.faultRaised (some c) .runaway none))
        ∧ t.sup.driveEnable = false ∧ (∀ d, t.engine d = s.afterAbort .system d ∧ coldNow t d)
        ∧ (∀ d, t.lock d = if s.inCycle d = true then askedByAbort (s.policy d) (s.lock d) else s.lock d)
        ∧ (∀ e, t.drive.driveState.get e = false)
        ∧ t.tables = s.tables ∧ t.channels = s.channels ∧ t.rates = s.rates ∧ t.sup.trip = s.sup.trip
        ∧ t.pending = s.pending)

/-- The walk of one element over the slots (R126): at most q slots, in rising order within 0 to 15, each where the sum
stays within the budget; a slot is left out while the element wants more only where there is no room; q = 0, and a
rating above the budget, place nothing. -/
def Obligations.WalkPlacesEarliestSlots : Prop :=
  ∀ (budget : Nat) (ratings demands : PerElement Nat) (placed : PerElement Grants) (e : Element),
    let g := (walkElement budget ratings demands placed e).get e
    let q := demands.get e
    let fits := fun k => slotSumOf placed ratings k + ratings.get e ≤ budget
    g.withdrawnAt = none ∧ g.made.length ≤ q ∧ g.made.Pairwise (· < ·)
    ∧ (∀ k ∈ g.made, k < 16 ∧ fits k)
    ∧ (∀ k, k < 16 → fits k → k ∉ g.made → g.made.length = q ∧ ∀ j ∈ g.made, j < k)
    ∧ (q = 0 → g.made = []) ∧ (budget < ratings.get e → g.made = [])
    ∧ ∀ d, d ≠ e → (walkElement budget ratings demands placed e).get d = placed.get d

/-- The start of the next slot of the window, a second after the one before: the drive state of every element is
whether its grant for that slot is in force, and a cavity element's grant counts in held this window, which brings no
RUNAWAY whatever the rates; nothing else of the window changes (R165). Before that second is over, after the last slot
of a window and before the first window, no slot starts (R122, R135, R139). That SLOT_START is the start of slots 1 to
15 alone is the model's reading (log entry 11). -/
def Obligations.SlotStartDrivesGrants : Prop :=
  ∀ s : State, s.events.outbox = [] →
    ((s.alloc.slot = none ∨ s.alloc.slot = some 15 ∨ s.alloc.slotElapsed < 1000) → exec .slotStart s = .next s)
    ∧ ∀ k, s.alloc.slot = some k → k < 15 → 1000 ≤ s.alloc.slotElapsed →
      ∃ t, exec .slotStart s = .next t
        ∧ t = { s.drawOrder with alloc := t.alloc, drive := t.drive }
        ∧ t.alloc = { s.alloc with slot := some (k + 1), slotElapsed := 0, slotUse := t.alloc.slotUse }
        ∧ (∀ c, (t.alloc.slotUse.get c).heldLast = (s.alloc.slotUse.get c).heldLast
            ∧ ((t.alloc.slotUse.get c).heldThis = true ↔ (s.alloc.slotUse.get c).heldThis = true
              ∨ ∃ h, h ≠ .cat ∧ (s.alloc.grants.get ⟨c, h⟩).inForce (k + 1) = true))
        ∧ (∀ e, t.drive.driveState.get e = (s.alloc.grants.get e).inForce (k + 1))
        ∧ t.drive = { s.drive with entries := t.drive.entries, driveState := t.drive.driveState }

/-! ## Relays -/

/-- A visit of the refresh walk closes and holds its relay where its drive asks for it, the test drive during a relay
test and the drive state under drive enable outside, and moves on to the next entry; nothing else changes. A visit is
due two milliseconds after the one before it, and at the end of a reset, and not before (R137, R138). -/
def Obligations.RefreshVisitHoldsDrivenRelay : Prop :=
  ∀ s : State,
    let r := ([.element ⟨.a, .top⟩, .element ⟨.a, .bottom⟩, .element ⟨.a, .ring⟩, .element ⟨.a, .cat⟩,
      .element ⟨.b, .top⟩, .element ⟨.b, .bottom⟩, .element ⟨.b, .ring⟩, .element ⟨.b, .cat⟩, .master]
      : List Relay).getD s.drive.walkPos.val .master
    let driven :=
      if s.testing = true then (s.relay r).testDrive = true ∧ s.sup.trip = false
      else s.sup.driveEnable = true ∧ ∀ e, r = .element e → s.drive.driveState.get e = true
    let visited := { s.clock with sinceVisit := 0 }
    (s.clock.sinceVisit < 2 → exec .refreshVisit s = .next s)
    ∧ (2 ≤ s.clock.sinceVisit → driven → exec .refreshVisit s = .next { s with
        clock := visited
        drive := { s.drive with
          walkPos := s.drive.walkPos + 1
          entries := s.drive.entries.set r { s.relay r with hold := some 0 } } })
    ∧ (2 ≤ s.clock.sinceVisit → ¬ driven → exec .refreshVisit s
        = .next { s with clock := visited, drive := { s.drive with walkPos := s.drive.walkPos + 1 } })

/-- A contact's sense level and the end of its settle time move its mismatch timer: it starts where sense and expected
level come to disagree with the settle timer stopped, and stops where they agree; an entry that is not supervised
keeps its timers. Nothing else changes but the pin and, at a sense level that is not the last of the nine to become
present, the next draw of the open orders. A settle timer that has not reached its 50 ms, started again since, does
not end (R140, R141, R150). That the event sets the pin is the model's reading (log entry 7). -/
def Obligations.SenseAndSettleMoveMismatch : Prop :=
  ∀ (s : State) (r : Relay),
    let x := s.relay r
    let follows := fun (sense : Bool) (y : RelayEntry) =>
      if s.supervised r = true ∧ y.settle = none then
        { y with mismatch :=
            if sense = y.expectedClosed then none else if y.mismatch = none then some 0 else y.mismatch }
      else y
    (∀ closed, x.sense = some closed → exec (.senseLevelChange r closed) s = .next s)
    ∧ (∀ closed, x.sense ≠ some closed → (x.sense = none → ∃ q, q ≠ r ∧ (s.relay q).sense = none) →
      s.events.outbox = [] →
      exec (.senseLevelChange r closed) s = .next (State.drawOrder
        ((s.setContactPin r closed).setRelay r (follows closed { x with sense := some closed }))))
    ∧ (¬ RanOut x.settle 50 → exec (.settleTimerExpiry r) s = .next s)
    ∧ (∀ closed, RanOut x.settle 50 → x.sense = some closed →
      exec (.settleTimerExpiry r) s = .next (s.setRelay r (follows closed { x with settle := none })))
    ∧ (RanOut x.settle 50 → x.sense = none →
      exec (.settleTimerExpiry r) s = .next (s.setRelay r { x with settle := none }))

/-- The sample that brings the last of the nine sense levels begins the start-up test, whatever test was requested
before it; under TRIP the test is complete at once, with no result, and start-up test done is known (R146, R147,
R161). That WELDED stands in the record from the step start is the model's reading (log entry 32), and that a
requested test still in progress gives way is its choice (log entry 34). -/
def Obligations.LastSenseLevelStartsTest : Prop :=
  ∀ (s : State) (r : Relay) (closed : Bool), (s.relay r).sense = none →
    (∀ q, q ≠ r → (s.relay q).sense ≠ none) →
    ∃ t, exec (.senseLevelChange r closed) s = .next t
      ∧ (t.relay r).sense = some closed
      ∧ (s.sup.trip = false →
          t.drive.test.state = .inProgress ∧ t.drive.test.origin = .startUp
          ∧ t.drive.test.visitList
              = ((allElements.filter fun e => decide (0 < s.rating e)).map Relay.element) ++ [.master]
          ∧ (∀ q, t.drive.test.results.get q =
              if t.drive.test.visitList.head? = some q ∧ (t.relay q).sense = some true then .welded
              else .notVisited)
          ∧ (∀ q, (t.relay q).testDrive = true ↔
              t.drive.test.visitList.head? = some q ∧ (t.relay q).sense = some false)
          ∧ (∀ q, (t.relay q).settle = none ∧ (t.relay q).mismatch = none)
          ∧ ∀ c, coldNow t c)
      ∧ (s.sup.trip = true →
          t.drive.test.state = .complete ∧ t.drive.test.origin = .startUp
          ∧ t.drive.test.results = .all .notVisited ∧ t.sup.startupDone = true)
      ∧ t.tables = s.tables ∧ t.engines = s.engines ∧ t.locks = s.locks ∧ t.channels = s.channels
      ∧ t.pending = s.pending

/-- RELAY TEST in its order: FAULT under TRIP, BUSY during a test, NOT_IDLE while an engine is not IDLE, and otherwise a
test of the fitted elements and the master: its record, its first step, every supervision timer stopped, every grant
withdrawn and the visit list in the reply (R146, R147).
That WELDED stands in the record from the step start is the model's reading (log entry 32). -/
def Obligations.RelayTestBegins : Prop :=
  ∀ s : State, s.takesLine → s.events.outbox = [] →
    (s.sup.trip = true → exec (.relayTest []) s = .next (s.refusedWith .fault).drawOrder)
    ∧ (s.sup.trip = false → s.testing = true → exec (.relayTest []) s = .next (s.refusedWith .busy).drawOrder)
    ∧ (s.sup.trip = false → s.testing = false → s.bothIdle = false →
        exec (.relayTest []) s = .next (s.refusedWith .notIdle).drawOrder)
    ∧ (s.sup.trip = false → s.testing = false → s.bothIdle = true →
        let visit := ((allElements.filter fun e => decide (0 < s.rating e)).map Relay.element) ++ [.master]
        ∃ t first rest, exec (.relayTest []) s = .next t ∧ visit = first :: rest
          ∧ t.drive.test = {
              state := .inProgress
              origin := .request
              visitList := visit
              step := some ⟨first, decide ((s.relay first).sense = some true), none, 0⟩
              todo := rest
              results := if (s.relay first).sense = some true then (PerRelay.all .notVisited).set first .welded
                else .all .notVisited }
          ∧ (t.relay first).testDrive = !decide ((s.relay first).sense = some true)
          ∧ (∀ r, (t.relay r).settle = none ∧ (t.relay r).mismatch = none
              ∧ (t.relay r).health = (s.relay r).health ∧ (t.relay r).sense = (s.relay r).sense
              ∧ (r ≠ first → (t.relay r).testDrive = (s.relay r).testDrive))
          ∧ (∀ c, coldNow t c)
          ∧ t.tables = s.tables ∧ t.engines = s.engines ∧ t.locks = s.locks ∧ t.sup = s.sup ∧ t.fan = s.fan
          ∧ t.events = s.events ∧ t.pending = s.pending
          ∧ s.repliedDone false ([1] ++ setBytes (allRelays.map fun r => visit.contains r)) t)

/-- The two moments of a test step: at 100 ms the sense level is read and the test drive goes off; at 200 ms the
result is fixed by the two readings, and the next relay's step begins, undriven and WELDED where its contact is closed
already. Neither comes before its moment (R147). That WELDED stands in the record from the step start is the model's
reading (log entry 32), and that an absent level reads as open is its choice (log entry 35). -/
def Obligations.TestStepsReadAndFixResult : Prop :=
  ∀ s : State, s.testing = true → s.events.outbox = [] →
    (s.drive.test.step = none → exec .testStepReading s = .next s ∧ exec .testStepEnd s = .next s)
    ∧ ∀ x, s.drive.test.step = some x →
      (x.elapsed < 100 → exec .testStepReading s = .next s) ∧ (x.elapsed < 200 → exec .testStepEnd s = .next s)
      ∧ (x.reading = none → exec .testStepEnd s = .next s
        ∧ (100 ≤ x.elapsed →
          exec .testStepReading s = .next (State.setRelay x.relay { s.relay x.relay with testDrive := false }
            (s.setDrive { s.drive with test := { s.drive.test with
              step := some { x with reading := some (decide ((s.relay x.relay).sense = some true)) } } }))))
      ∧ ∀ reading, x.reading = some reading → exec .testStepReading s = .next s
        ∧ ∀ r rest, 200 ≤ x.elapsed → s.drive.test.todo = r :: rest →
          let closed := decide ((s.relay r).sense = some true)
          let res := s.drive.test.results.set x.relay
            (if x.closedAtStart = true ∨ (s.relay x.relay).sense = some true then .welded
              else if reading = true then .pass else .stuckOpen)
          exec .testStepEnd s = .next (State.drawOrder
            (State.setRelay r { s.relay r with testDrive := !closed }
              (s.setDrive { s.drive with test := { s.drive.test with
                step := some ⟨r, closed, none, 0⟩
                todo := rest
                results := if closed = true then res.set r .welded else res } })))

/-- The end of the last step applies all results together: health by result, ELEMENT_OPEN by PASS and OPEN, a welded
fault by WELDED; where every listed relay passed, both welded faults are cleared and the relays not listed are healthy
too. Each fault cleared and each fault found is recorded. The start-up test is then done, whatever its results (R148,
R161). A sense level that is absent at the 200 ms reads as open, the model's choice (log entry 35), and so is that
the result of an element made not fitted during the test is applied like the others (log entry 43). -/
def Obligations.TestCompletionAppliesResults : Prop :=
  ∀ (s : State) (x : TestStep) (reading : Bool), s.testing = true → s.drive.test.step = some x →
    x.reading = some reading → 200 ≤ x.elapsed → s.drive.test.todo = [] →
    let visit := s.drive.test.visitList
    let res := s.drive.test.results.set x.relay
      (if x.closedAtStart = true ∨ (s.relay x.relay).sense = some true then .welded
        else if reading = true then .pass else .stuckOpen)
    let allPass := ∀ r ∈ visit, res.get r = .pass
    ∃ t, exec .testStepEnd s = .next t
      ∧ t.drive.test = { s.drive.test with state := .complete, step := none, todo := [], results := res }
      ∧ (∀ r ∈ visit, (t.relay r).health = (match res.get r with
          | .pass => .ok
          | .stuckOpen => .stuckOpen
          | .welded => .welded
          | .notVisited => (s.relay r).health))
      ∧ (∀ r, r ∉ visit → (allPass → (t.relay r).health = .ok)
          ∧ (¬ allPass → (t.relay r).health = (s.relay r).health))
      ∧ (∀ e, t.drive.elementOpen.get e = true ↔
          if Relay.element e ∈ visit ∧ res.get (.element e) = .pass then False
          else if Relay.element e ∈ visit ∧ res.get (.element e) = .stuckOpen then True
          else s.drive.elementOpen.get e = true)
      ∧ (t.drive.elementWelded = true ↔ ¬ allPass ∧ (s.drive.elementWelded = true
          ∨ ∃ e, Relay.element e ∈ visit ∧ res.get (.element e) = .welded))
      ∧ (t.drive.masterWelded = true ↔ ¬ allPass ∧ (s.drive.masterWelded = true
          ∨ (Relay.master ∈ visit ∧ res.get .master = .welded)))
      ∧ (∀ e, Relay.element e ∈ visit →
          (res.get (.element e) = .pass → s.drive.elementOpen.get e = true →
            t.reported (.faultCleared (some e.cavity) .elementOpen (some (.element e))))
          ∧ (res.get (.element e) = .stuckOpen → s.drive.elementOpen.get e = false →
            t.reported (.faultRaised (some e.cavity) .elementOpen (some (.element e))))
          ∧ (res.get (.element e) = .welded → (s.relay (.element e)).health ≠ .welded →
            t.reported (.faultRaised (some e.cavity) .elementWelded (some (.element e)))))
      ∧ (Relay.master ∈ visit → res.get .master = .welded → (s.relay .master).health ≠ .welded →
          t.reported (.faultRaised none .masterWelded none))
      ∧ (allPass → (s.drive.masterWelded = true → t.reported (.faultCleared none .masterWelded none))
          ∧ ∀ e, (s.relay (.element e)).health = .welded →
            t.reported (.faultCleared (some e.cavity) .elementWelded (some (.element e))))
      ∧ (s.drive.test.origin = .startUp → t.sup.startupDone = true)
      ∧ ((t.relay .master).settle = some 0
          ∧ ∀ e, 0 < s.rating e → (t.relay (.element e)).settle = some 0)
      ∧ t.tables = s.tables ∧ t.channels = s.channels ∧ t.pending = s.pending

/-- The expiry of a mismatch timer: an element that failed to close is OPEN, loses its grants and raises ELEMENT_OPEN;
a relay that stayed closed is WELDED, which latches its system fault, turns drive enable off, withdraws every grant,
aborts both cycles with SYSTEM and asserts TRIP where both welded faults then stand; a timer that has not reached its
100 ms, stopped or started again since, does not expire, and a master that stays open raises nothing (R112, R130, R141
to R145, R166). What the items of an engine hold in IDLE is the model's reading (log entry 17). -/
def Obligations.MismatchFindsOpenOrWelded : Prop :=
  ∀ s : State, s.events.outbox = [] →
    (∀ r, ¬ RanOut (s.relay r).mismatch 100 → exec (.mismatchTimerExpiry r) s = .next s)
    ∧ (RanOut (s.relay .master).mismatch 100 → (s.relay .master).expectedClosed = true →
        exec (.mismatchTimerExpiry .master) s
          = .next (s.setRelay .master { s.relay .master with mismatch := none }).drawOrder)
    ∧ (∀ e, RanOut (s.relay (.element e)).mismatch 100 → (s.relay (.element e)).expectedClosed = true →
        (s.relay (.element e)).sense = some false → (s.relay (.element e)).health = .ok →
        ∃ t, exec (.mismatchTimerExpiry (.element e)) s = .next t
          ∧ (t.relay (.element e)).health = .stuckOpen ∧ t.drive.elementOpen = s.drive.elementOpen.set e true
          ∧ (s.drive.elementOpen.get e = false →
              t.reported (.faultRaised (some e.cavity) .elementOpen (some (.element e))))
          ∧ t.holdsGrant e = false ∧ t.drive.elementWelded = s.drive.elementWelded
          ∧ (∀ r, r ≠ .element e → (t.relay r).health = (s.relay r).health)
          ∧ t.engines = s.engines ∧ t.locks = s.locks ∧ t.tables = s.tables ∧ t.channels = s.channels
          ∧ t.pending = s.pending)
    ∧ (∀ r, RanOut (s.relay r).mismatch 100 → (s.relay r).expectedClosed = false → (s.relay r).sense = some true →
        (s.relay r).health ≠ .welded →
        ∃ t, exec (.mismatchTimerExpiry r) s = .next t
          ∧ (t.relay r).health = .welded
          ∧ t.drive.elementWelded = (s.drive.elementWelded || decide (r ≠ .master))
          ∧ t.drive.masterWelded = (s.drive.masterWelded || decide (r = .master))
          ∧ t.drive.elementOpen = s.drive.elementOpen
          ∧ t.reported (match r with
            | .element e => .faultRaised (some e.cavity) .elementWelded (some (.element e))
            | .master => .faultRaised none .masterWelded none)
          ∧ t.sup.driveEnable = false ∧ (∀ c, coldNow t c)
          ∧ ((∀ e, r = .element e → s.drive.elementWelded = false) → (r = .master → s.drive.masterWelded = false) →
              (∀ d, t.engine d = s.afterAbort .system d)
              ∧ (t.sup.trip = true ↔ s.sup.trip = true
                  ∨ (t.drive.elementWelded = true ∧ t.drive.masterWelded = true)))
          ∧ (∀ q, q ≠ r → (t.relay q).health = (s.relay q).health)
          ∧ t.tables = s.tables ∧ t.channels = s.channels ∧ t.pending = s.pending)

/-! ## Fan and supervision -/

/-- The fan level takes the greatest of the demands, and the tacho watch follows it: a rise from 0 starts the grace
with the watch OFF, a fall to 0 ends GRACE and WATCHING with their timer, and no other change of the level moves it. A
pulse restarts the pulse timer in WATCHING alone, the end of the grace starts the watch, and the expiry of the pulse
timer in WATCHING is a stall: FAN_STALL latched, heat inhibited, every grant withdrawn and both cycles aborted with
SYSTEM. A timer that has not reached its limit, stopped or started again since, does not expire: a pulse taken first
leaves no stall (R112, R151, R156, R157, R163). What the items of an engine hold in IDLE is the model's reading (log
entry 17). -/
def Obligations.TachoWatchFindsStall : Prop :=
  (∀ x : Fan,
    (x.level = 0 → 0 < x.greatest → x.watch = .off →
      x.relevel = { x with level := x.greatest, watch := .grace, grace := some 0 })
    ∧ (0 < x.level → x.greatest = 0 →
      (x.watch = .grace → x.relevel = { x with level := 0, watch := .off, grace := none })
      ∧ (x.watch = .watching → x.relevel = { x with level := 0, watch := .off, pulse := none }))
    ∧ ((x.level = 0 → x.greatest = 0 ∨ x.watch ≠ .off) →
        (0 < x.level → 0 < x.greatest ∨ x.watch = .off ∨ x.watch = .stalled) →
      x.relevel = { x with level := x.greatest }))
  ∧ ∀ s : State,
    exec .tachoPulse s = .next (if s.fan.watch = .watching then s.setFan { s.fan with pulse := some 0 } else s)
    ∧ (RanOut s.fan.grace 3000 → s.fan.watch = .grace → exec .graceTimerExpiry s
        = .next (s.setFan { s.fan with watch := .watching, grace := none, pulse := some 0 }))
    ∧ (¬ RanOut s.fan.grace 3000 → exec .graceTimerExpiry s = .next s)
    ∧ (s.fan.watch ≠ .watching ∨ ¬ RanOut s.fan.pulse 250 → exec .pulseTimerExpiry s = .next s)
    ∧ (s.fan.watch = .watching → RanOut s.fan.pulse 250 →
        ∃ t, exec .pulseTimerExpiry s = .next t
          ∧ t.fan.stall = true ∧ t.fan.watch = .stalled ∧ t.fan.pulse = none
          ∧ t.sup.inhibit.fanStall = true ∧ t.reported (.faultRaised none .fanStall none)
          ∧ (∀ d, t.engine d = s.afterAbort .system d ∧ coldNow t d)
          ∧ t.sup.trip = s.sup.trip ∧ t.tables = s.tables ∧ t.channels = s.channels ∧ t.pending = s.pending)

/-- A new F of 5800 or more latches OVERHEAT for its cavity, starts its timer, turns drive enable off and aborts both
cycles; a new F below 5800 stops the timer, and one of 5800 or more starts it again. Its expiry asserts TRIP: drive
enable off, every grant withdrawn, both cycles aborted with SYSTEM, a relay test abandoned, the fan at no less than
level 3, and FAULT_RAISED; with TRIP asserted already the timer stops alone, and a timer that has not reached its 60 s,
stopped or started again since, does not expire (R112, R149, R155, R164, R166).
What the items of an engine hold in IDLE is the model's reading (log entry 17). -/
def Obligations.OverheatLatchesAndTrips : Prop :=
  (∀ (s : State) (c : Cavity) (f : Int),
    (5800 ≤ f → s.sup.overheat.get c = false →
      (s.judgeOverheat c f).sup.overheat = s.sup.overheat.set c true
      ∧ (s.judgeOverheat c f).sup.overheatTimer = s.sup.overheatTimer.set c (some 0)
      ∧ (s.judgeOverheat c f).sup.driveEnable = false
      ∧ ∀ d, (s.judgeOverheat c f).engine d = s.afterAbort .system d ∧ coldNow (s.judgeOverheat c f) d)
    ∧ (5800 ≤ f → s.sup.overheat.get c = true → s.sup.overheatTimer.get c ≠ none → s.judgeOverheat c f = s)
    ∧ (5800 ≤ f → s.sup.overheat.get c = true → s.sup.overheatTimer.get c = none →
      s.judgeOverheat c f
        = s.setSup { s.sup with overheatTimer := s.sup.overheatTimer.set c (some 0) })
    ∧ (f < 5800 →
      s.judgeOverheat c f = s.setSup { s.sup with overheatTimer := s.sup.overheatTimer.set c none }))
  ∧ ∀ (s : State) (c : Cavity), s.events.outbox = [] →
    (¬ RanOut (s.sup.overheatTimer.get c) 60000 → exec (.overheatTimerExpiry c) s = .next s)
    ∧ (RanOut (s.sup.overheatTimer.get c) 60000 → s.sup.trip = true → exec (.overheatTimerExpiry c) s
        = .next (s.setSup { s.sup with overheatTimer := s.sup.overheatTimer.set c none }).drawOrder)
    ∧ (RanOut (s.sup.overheatTimer.get c) 60000 → s.sup.trip = false →
        ∃ t, exec (.overheatTimerExpiry c) s = .next t
          ∧ t.sup.trip = true ∧ t.sup.driveEnable = false ∧ t.sup.overheat = s.sup.overheat
          ∧ t.sup.overheatTimer = s.sup.overheatTimer.set c none
          ∧ (∀ d, t.engine d = s.afterAbort .system d ∧ coldNow t d)
          ∧ (s.testing = true → t.drive.test.state = .abandoned ∧ ∀ r, (t.relay r).testDrive = false)
          ∧ (∀ r, (t.relay r).health = (s.relay r).health)
          ∧ t.fan.tripDemand = 3 ∧ 3 ≤ t.fan.level ∧ t.fan.level = t.fan.greatest
          ∧ t.reported (.faultRaised none .trip none)
          ∧ t.tables = s.tables ∧ t.channels = s.channels ∧ t.pending = s.pending)

/-- CLEAR with both engines IDLE, and NOT_IDLE otherwise: what each owner clears and under which condition, with the
FAULT_CLEARED of each fault cleared; what it does not clear stays. A lock with LOCK_STUCK takes the state, motor and
motion that its switch levels give, with LOCK_CHANGED, and LOCK_STUCK is latched again where both latch switches are
true; any other lock keeps its state and motion (R15, R69, R70, R145, R158, R164, R165, R168). -/
def Obligations.ClearClearsLatchedFaults : Prop :=
  ∀ s : State, s.takesLine → s.events.outbox = [] →
    (s.bothIdle = false → exec (.clear []) s = .next (s.refusedWith .notIdle).drawOrder)
    ∧ (s.bothIdle = true → ∃ t, exec (.clear []) s = .next t
      ∧ (∀ ch, t.channel ch = if (s.channel ch).state = .failed then
            ⟨.warmup, none, none, none, none, 0, none, 0⟩ else s.channel ch)
      ∧ (∀ e, t.drive.elementOpen.get e = false
          ∧ ((t.relay (.element e)).health = if s.drive.elementOpen.get e = true
                ∧ (s.relay (.element e)).health = .stuckOpen then .ok else (s.relay (.element e)).health))
      ∧ ((t.relay .master).health
          = if (s.relay .master).health = .stuckOpen then .ok else (s.relay .master).health)
      ∧ (∀ c, (t.lock c).faults.jam = false ∧ (t.lock c).faults.slip = false
          ∧ ((t.lock c).faults.breach = true ↔
              (s.lock c).faults.breach = true ∧ (s.lock c).levels.doorShut ≠ some true)
          ∧ ((t.lock c).faults.stuck = true ↔ (s.lock c).faults.stuck = true
              ∧ (s.lock c).levels.latchHome = some true ∧ (s.lock c).levels.latchSet = some true))
      ∧ (∀ c,
          let l := s.lock c
          let home := decide (l.levels.latchHome = some true)
          let set := decide (l.levels.latchSet = some true)
          let door := decide (l.levels.doorShut = some true)
          (l.faults.stuck = false → t.lock c = { l with faults := (t.lock c).faults })
          ∧ (l.faults.stuck = true →
            t.lock c = { l with
              state := if set && home then .faulted else if set then .engaged else if home then .released
                else if door then .engaging else .returning
              motor := if set || home then .stopped else if door then .forward else .reverse
              motion := if set || home then none else some ⟨.adopted, 0⟩
              slot := none
              releasePending := none
              faults := (t.lock c).faults }
            ∧ t.reported (.faultCleared (some c) .lockStuck none) ∧ t.reported (.lockChanged c (t.lock c).state)
            ∧ (set = true → home = true → t.reported (.faultRaised (some c) .lockStuck none)))
          ∧ (l.faults.jam = true → t.reported (.faultCleared (some c) .lockJam none))
          ∧ (l.faults.slip = true → t.reported (.faultCleared (some c) .latchSlip none))
          ∧ (l.faults.breach = true → door = true → t.reported (.faultCleared (some c) .doorBreach none)))
      ∧ (∀ ch cause, (s.channel ch).state = .failed → (s.channel ch).cause = some cause →
          t.reported (.faultCleared (match ch with
            | .cav c => some c
            | .cat c => some c
            | .front => none) (failCode cause) (some (.channel ch))))
      ∧ (∀ e, s.drive.elementOpen.get e = true →
          t.reported (.faultCleared (some e.cavity) .elementOpen (some (.element e))))
      ∧ (s.fan.stall = true → t.reported (.faultCleared none .fanStall none))
      ∧ (∀ c, (s.sup.runaway.get c = true → t.reported (.faultCleared (some c) .runaway none))
          ∧ (s.sup.overheat.get c = true → t.sup.overheat.get c = false →
            t.reported (.faultCleared (some c) .overheat none)))
      ∧ t.fan.stall = false
      ∧ (s.fan.stall = true → s.fan.watch = .stalled →
          t.fan.watch = (if t.fan.level = 0 then .off else .grace)
          ∧ t.fan.grace = (if t.fan.level = 0 then none else some 0))
      ∧ (∀ c, t.sup.runaway.get c = false
          ∧ (t.sup.overheat.get c = true ↔ s.sup.overheat.get c = true
              ∧ ¬ (s.isValid (.cav c) = true ∧ ∃ f, s.f (.cav c) = some f ∧ f < 5500)))
      ∧ t.sup.trip = s.sup.trip ∧ t.drive.elementWelded = s.drive.elementWelded
      ∧ t.drive.masterWelded = s.drive.masterWelded
      ∧ t.tables = s.tables ∧ t.engines = s.engines ∧ t.tableLocks = s.tableLocks ∧ t.pending = s.pending
      ∧ s.repliedDone false [] t)

/-! ## The line -/

/-- SAMPLE of a channel is held, and its reply waits for the conversion; while one is held it is refused with BUSY,
and an undefined channel with BAD_FIELD. Nothing but the converter and the link changes (R16, R175, R176). A frame
that ends while a sample reply waits has collided with it (log entry 15). -/
def Obligations.SampleWaitsForConversion : Prop :=
  ∀ s : State, s.takesLine →
    (∀ ch, s.converter.onDemand = none → exec (.sample (fieldPayload (channelCode ch))) s = .next
      { s with
        converter := { s.converter with onDemand := some ch }
        link := { s.link with
          receiver := .waitBreak
          transmitter := .waitingSample
          collisionSeen := s.collided } })
    ∧ (∀ ch, s.converter.onDemand ≠ none →
      exec (.sample (fieldPayload (channelCode ch))) s = .next (s.refusedWith .busy))
    ∧ ∀ n : Byte, 5 ≤ n.toNat → exec (.sample [1, 0, n]) s = .next (s.refusedWith .badField)

/-- The receiver through its events: a low of 1.2 ms is a break, which opens a frame from every state but LINE_FAULT
and abandons what the transmitter held; with 20 ms on the low timer it is a line fault, and no line fault with less; a
break ended before that goes to PACING, and the end of a line fault to WAIT_BREAK; a pacing span of 9000 to 60000
bit/s with a high stop bit opens the frame at that span, and every other character, a late edge, a long gap, a low
stop bit and a length above 24 go back to WAIT_BREAK (R171 to R173, R177). That an event which cannot occur in the
receiver's state changes nothing is the model's reading (log entry 2). The low timer is in units of 0.1 ms (log entry
41). The span is in units of 0.1 µs, good from 833 to 5556 (log entry 13), and a break ends a reply still held (log
entry 15). -/
def Obligations.ReceiverFollowsLine : Prop :=
  ∀ s : State,
    let goes := fun (r : Receiver) => Outcome.next { s with link := { s.link with receiver := r } }
    (s.takesLine → exec .lineBreak s = .next { s with link := { s.link with
        receiver := .inBreak 12
        transmitter := .idle
        collisionSeen := s.collided } })
    ∧ (s.link.receiver = .lineFault → exec .lineBreak s = .next s)
    ∧ (∀ low, s.link.receiver = .inBreak low →
        exec .lineFault s = (if 200 ≤ low then goes .lineFault else .next s)
        ∧ exec .breakEnd s = (if low < 200 then goes .pacing else .next s))
    ∧ ((∀ low, s.link.receiver ≠ .inBreak low) → exec .lineFault s = .next s ∧ exec .breakEnd s = .next s)
    ∧ exec .lineFaultEnd s = (if s.link.receiver = .lineFault then goes .waitBreak else .next s)
    ∧ (∀ span high, exec (.pacingCharacter span high) s =
        if s.link.receiver = .pacing then
          if 833 ≤ span ∧ span ≤ 5556 ∧ high = true then goes (.receiving span) else goes .waitBreak
        else .next s)
    ∧ exec .pacingTimeout s = (if s.link.receiver = .pacing then goes .waitBreak else .next s)
    ∧ (∀ bit, s.link.receiver = .receiving bit →
        exec .byteGapTimeout s = goes .waitBreak
        ∧ exec (.framingError .stopBitLow) s = goes .waitBreak
        ∧ ∀ n : Byte, 24 < n.toNat → exec (.framingError (.lengthByte n)) s = goes .waitBreak)
    ∧ ((∀ bit, s.link.receiver ≠ .receiving bit) →
        exec .byteGapTimeout s = .next s ∧ ∀ k, exec (.framingError k) s = .next s)

/-- A collision abandons the reply and sets COLLISION_SEEN; a frame with a bad check, and one that is another node's,
has no effect but the end of the frame (R174, R175, R177). A frame that ends while a sample reply waits has collided
with it (log entry 15). -/
def Obligations.CollisionsAndOtherFrames : Prop :=
  ∀ s : State,
    (s.link.transmitter ≠ .idle → exec .collision s
      = .next { s with link := { s.link with transmitter := .idle, collisionSeen := true } })
    ∧ (s.link.transmitter = .idle → exec .collision s = .next s)
    ∧ ∀ (bytes : List Byte) (f : Frame), s.takesLine → parseFrame bytes = some f →
      (f.good = false ∨ (f.address.toNat ≠ s.link.nodeAddress.val + 1
        ∧ ¬ (f.address = 0 ∧ f.kind = 0x14 ∧ f.payload = []))) →
      exec (.frameDiscarded bytes) s = .next { s with link := { s.link with
        receiver := .waitBreak
        transmitter := if s.link.transmitter = .waitingSample then .idle else s.link.transmitter
        collisionSeen := s.collided } }

/-- Every request frame is read back: the frame that carries a well-formed request to a node, or the broadcast ALL STOP,
is that command to the part with that node address. A reply frame carries its status, its reason with CLAMPED in bit 7,
the attention flags, the length, the payload and the check of all these. A change of any one byte changes the check, and
the computation run over bytes and their check ends at 0 (R173 to R176, R178, R179, R182). -/
def Obligations.RequestFramesRoundTrip : Prop :=
  (∀ (i : Instr) (node : Nat) (bytes : List Byte), 1 ≤ node → node ≤ 4 → i.wellFormed = true →
    requestFrame node i = some bytes →
    frameCommand node bytes = i ∧ (parseFrame bytes).isSome = true ∧ bytes.length = i.payload.length + 4)
  ∧ (∀ (before after : List Byte) (x y : Byte), x ≠ y →
    crc8 (before ++ x :: after) ≠ crc8 (before ++ y :: after))
  ∧ (∀ bytes : List Byte, crc8 (bytes ++ [crc8 bytes]) = 0)
  ∧ ∀ r : Reply,
    let reason := match r.reason with
      | none => 0
      | some .busy => 1
      | some .notIdle => 2
      | some .notRunning => 3
      | some .notReady => 4
      | some .locked => 5
      | some .frozen => 6
      | some .full => 7
      | some .empty => 8
      | some .noSuch => 9
      | some .badField => 10
      | some .order => 11
      | some .tooHot => 12
      | some .doorOpen => 13
      | some .fault => 14
      | some .unknown => 15
      | some .length => 16
    let bit := fun (n : Nat) (b : Bool) => if b then 2 ^ n else 0
    let checked := [if r.reason = none then 0 else 1, BitVec.ofNat 8 (reason + bit 7 r.clamped),
      BitVec.ofNat 8 (bit 0 r.flags.eventsPending + bit 1 r.flags.eventsLost + bit 2 r.flags.collisionSeen
        + bit 3 r.flags.faultActive + bit 4 r.flags.notReady + bit 5 r.flags.trip),
      BitVec.ofNat 8 r.payload.length] ++ r.payload
    r.bytes = checked ++ [crc8 checked] ∧ crc8 r.bytes = 0

/-! ## What every step keeps -/

/-- The plan stays within the budget in force through every step: the walk places no grant that exceeds it, a withdrawal
lowers no sum but downward, and a new budget or rating leaves the window in progress as it is (R127). -/
def Obligations.PlanStaysWithinBudget : Prop :=
  (∀ s t : State, s.PlanWithinBudget → step s = .next t → t.PlanWithinBudget)
  ∧ (∀ budget lead ratings demands k, slotSumOf (buildPlan budget lead ratings demands) ratings k ≤ budget)
  ∧ (∀ (s : State) (e : Element) k, (s.withdraw e).slotSum k ≤ s.slotSum k)
  ∧ ∀ (s t : State) (p : List Byte), (exec (.setBudget p) s = .next t ∨ exec (.setElement p) s = .next t) →
      t.alloc = s.alloc

/-- No element holds a grant in force for the current slot or a later one without permission, through every step; for
a cavity element under INTERLOCK the permission needs the lock ENGAGED (R128 to R131). The premise that a VALID
channel has an F is kept as well. -/
def Obligations.GrantsStayPermitted : Prop :=
  ∀ s t : State, s.GrantsPermitted → s.ValidHasF → step s = .next t → t.GrantsPermitted ∧ t.ValidHasF

/-- Through every step the fan level is the greatest of its demands and the demands are those of the bands, engines,
FRONT and TRIP as they stand; drive enable and the sources of heat inhibit are as their conditions stand. The premises
that a VALID channel has an F, and that the band index is OVER while the channel is not VALID, are kept as well (R36,
R151, R152, R155, R162, R163). -/
def Obligations.FanAndEnableStayFollowing : Prop :=
  (∀ s t : State, s.EnableFollows → step s = .next t → t.EnableFollows)
  ∧ ∀ s t : State, s.FanFollows → s.ValidHasF → s.IndexOverUnlessValid → step s = .next t →
      t.FanFollows ∧ t.ValidHasF ∧ t.IndexOverUnlessValid

/-- The band tables stay ordered and in range through every step: the condition stands after either reset, and a write
that would break it is refused with ORDER and leaves all as it was but the link and the next draw of the open orders
(R34, R45, R46). -/
def Obligations.BandTablesStayOrdered : Prop :=
  (∀ s t : State, s.BandsLegal → step s = .next t → t.BandsLegal)
  ∧ State.reset.BandsLegal
  ∧ (∀ s t : State, (exec .powerOnReset s = .next t ∨ exec .externalReset s = .next t) → t.BandsLegal)
  ∧ ∀ (s : State) (c : Cavity) (n : Fin 8) (r : BandRecord) (limit : Int) (floor : Nat),
      s.takesLine → s.events.outbox = [] → s.tables.frozen = false → s.tableLocks.get c = false →
      -32768 ≤ limit → limit ≤ 32767 → floor ≤ 255 →
      r.limit = clampInt limit 0 6000 → r.fanFloor = min floor 3 →
      ¬ BandsAscend ((s.bandTable c).set n r) →
      exec (.writeBand (bandPayload c n limit floor r)) s = .next (s.refusedWith .order).drawOrder

/-- Through every step, each by itself: the programs hold at most 12 records in range, the budget set and the ratings
are in range, the items of each lock go together, the table lock of a cavity is set exactly while its engine is not
IDLE, and the Event Queue holds at most 16 records with none on its way (R49, R52, R72, R73, R119, R120, R169). -/
def Obligations.StandingConditionsStay : Prop :=
  ∀ s t : State, step s = .next t →
    (s.ProgramsLegal → t.ProgramsLegal) ∧ (s.PowerLegal → t.PowerLegal) ∧ (s.LocksLegal → t.LocksLegal)
    ∧ (s.TableLockFollows → t.TableLockFollows) ∧ (s.QueueLegal → t.QueueLegal)

/-- What only a reset ends, what only a CLEAR or a reset ends, what only a relay test's end or a reset ends, and what
only the requests that write it change: TRIP, readiness, the freeze and the node address; FAILED channels, lock
faults, FAN_STALL, OVERHEAT and RUNAWAY; the welded faults; the tables (R10, R50, R66, R84, R121, R148, R161, R166,
R168, R175). -/
def Obligations.LatchedStateStays : Prop :=
  ∀ (i : Instr) (s t : State), exec i s = .next t →
    (i ≠ .powerOnReset → s.sup.trip = true → t.sup.trip = true)
    ∧ (i ≠ .powerOnReset → i ≠ .externalReset →
      (s.sup.readiness = true → t.sup.readiness = true)
      ∧ (s.tables.frozen = true → t.tables.frozen = true ∧ t.tables.bands = s.tables.bands
          ∧ t.tables.ratings = s.tables.ratings ∧ t.tables.budgetSet = s.tables.budgetSet)
      ∧ t.link.nodeAddress = s.link.nodeAddress
      ∧ (i ≠ .testStepEnd →
          (s.drive.elementWelded = true → t.drive.elementWelded = true)
          ∧ (s.drive.masterWelded = true → t.drive.masterWelded = true))
      ∧ ((∀ p, i ≠ .clear p) →
          (∀ ch, s.isFailed ch = true → t.channel ch = s.channel ch)
          ∧ (∀ c x, (s.lock c).faults.has x = true → (t.lock c).faults.has x = true)
          ∧ (s.fan.stall = true → t.fan.stall = true)
          ∧ (∀ c, s.sup.overheat.get c = true → t.sup.overheat.get c = true)
          ∧ (∀ c, s.sup.runaway.get c = true → t.sup.runaway.get c = true)
          ∧ (i ≠ .testStepEnd → ∀ e, s.drive.elementOpen.get e = true → t.drive.elementOpen.get e = true))
      ∧ ((∀ p, i ≠ .writeBand p) → t.tables.bands = s.tables.bands)
      ∧ ((∀ p, i ≠ .appendSegment p ∧ i ≠ .replaceSegment p ∧ i ≠ .clearProgram p) →
          t.tables.programs = s.tables.programs)
      ∧ ((∀ p, i ≠ .setElement p) → t.tables.ratings = s.tables.ratings)
      ∧ ((∀ p, i ≠ .setBudget p) → t.tables.budgetSet = s.tables.budgetSet)
      ∧ ((∀ p, i ≠ .freeze p) → t.tables.frozen = s.tables.frozen))

/-- The grants in force of the other cavity's elements stay through what concerns one cavity alone: its cycle requests,
its lock requests, a write to its band table, its ticks, its switches and its motion timer, and the staleness of its
channels (R128, R129, R131). -/
def Obligations.OneCavityLeavesOtherGrants : Prop :=
  ∀ (s t : State) (c : Cavity) (sw : Switch) (level : Bool), s.GrantsPermitted → s.EnableFollows →
    (exec (.pause (cavityPayload c)) s = .next t ∨ exec (.abort (cavityPayload c)) s = .next t
      ∨ exec (.resume (cavityPayload c)) s = .next t ∨ exec (.step (cavityPayload c)) s = .next t
      ∨ (∃ yes, exec (.start (optionPayload c yes)) s = .next t ∨ exec (.unlock (optionPayload c yes)) s = .next t)
      ∨ exec (.lock (cavityPayload c)) s = .next t
      ∨ (∃ n limit floor r, exec (.writeBand (bandPayload c n limit floor r)) s = .next t)
      ∨ exec (.tick c) s = .next t ∨ exec (.expired c) s = .next t ∨ exec (.undershoot c) s = .next t
      ∨ exec (.stalled c) s = .next t ∨ exec (.soakRemainingZero c) s = .next t
      ∨ exec (.switchLevelChange c sw level) s = .next t ∨ exec (.motionTimerExpiry c) s = .next t
      ∨ exec (.stalenessTimerExpiry (.cav c)) s = .next t ∨ exec (.stalenessTimerExpiry (.cat c)) s = .next t) →
    ∀ h, t.alloc.grants.get ⟨c.other, h⟩ = s.alloc.grants.get ⟨c.other, h⟩

/-! ## Reset -/

/-- After reset every block holds the values the manual gives, whatever the state before; the external reset keeps
TRIP, with its event in the queue, the fan's TRIP demand, and the relays that a refresh still holds closed. Every pin
keeps its level and its first sample is taken, the node address is read from the straps, and the waiting commands and
the model's open orders stay, with their next draw at the event of TRIP (log entries 3, 7, 21, 26, 27 and 31) (R3, R6,
R35, R69, R72, R86, R119 to R123, R136, R146, R151, R160, R166). -/
def Obligations.ResetsRestoreResetValues : Prop :=
  ∀ s : State,
    let values := fun (trip : Bool) (t : State) =>
      (∀ ch, t.channel ch = ⟨.warmup, none, none, none, none, 0, none, 0⟩)
      ∧ (∀ c, t.rateOf c = ⟨none, none, none⟩
        ∧ t.bandIndex.get c = .over ∧ t.tableLocks.get c = false ∧ t.program c = []
        ∧ t.bandTable c = #v[⟨700, true, .free, 0, ⟨true, true, true⟩, .none⟩,
            ⟨2500, true, .free, 1, ⟨true, true, true⟩, .none⟩, ⟨3200, true, .keep, 2, ⟨true, true, true⟩, .none⟩,
            ⟨6000, true, .interlock, 3, ⟨true, true, true⟩, .hot⟩,
            ⟨6000, false, .free, 0, ⟨false, false, false⟩, .none⟩,
            ⟨6000, false, .free, 0, ⟨false, false, false⟩, .none⟩,
            ⟨6000, false, .free, 0, ⟨false, false, false⟩, .none⟩,
            ⟨6000, false, .free, 0, ⟨false, false, false⟩, .none⟩]
        ∧ t.rating ⟨c, .top⟩ = 1200 ∧ t.rating ⟨c, .bottom⟩ = 1000 ∧ t.rating ⟨c, .ring⟩ = 2000
        ∧ t.rating ⟨c, .cat⟩ = 300
        ∧ t.lock c = ⟨.notAdopted, .stopped, none, none, none, ⟨false, false, false, false⟩, ⟨none, none, none⟩⟩
        ∧ t.engine c = ⟨.idle, false, none, 0, none, 0, none, 0, false, none, none, 0, .off, none, none, 0, 0, none,
            none⟩
        ∧ t.alloc.slotUse.get c = ⟨false, false⟩ ∧ t.sup.adopted.get c = false ∧ t.sup.overheat.get c = false
        ∧ t.sup.overheatTimer.get c = none ∧ t.sup.runaway.get c = false)
      ∧ t.converter = ⟨.cav .a, .scan, 0, 1, none⟩
      ∧ t.tables.budgetSet = 3600 ∧ t.alloc.budgetInForce = 3600 ∧ t.tables.frozen = false
      ∧ t.alloc.lead = .b ∧ t.alloc.slot = none
      ∧ (∀ e, (t.alloc.grants.get e).made = [] ∧ t.drive.driveState.get e = false
          ∧ t.drive.elementOpen.get e = false)
      ∧ (∀ r, (t.relay r).testDrive = false ∧ (t.relay r).sense = none ∧ (t.relay r).expectedClosed = false
          ∧ (t.relay r).settle = none ∧ (t.relay r).mismatch = none ∧ (t.relay r).health = .ok
          ∧ t.drive.test.results.get r = .notVisited)
      ∧ t.drive.elementWelded = false ∧ t.drive.masterWelded = false ∧ t.drive.walkPos = 0
      ∧ t.drive.test.state = .pending ∧ t.drive.test.origin = .startUp ∧ t.drive.test.visitList = []
      ∧ t.fan = ⟨⟨3, 3⟩, 3, false, false, if trip then 3 else 0, 3, .grace, some 0, none, false⟩
      ∧ t.sup.readiness = false ∧ (∀ ch, t.sup.measured.get ch = false) ∧ t.sup.startupDone = false
      ∧ t.sup.driveEnable = false ∧ t.sup.inhibit = ⟨true, false, false, false⟩ ∧ t.sup.trip = trip
      ∧ t.link = ⟨.waitBreak, .idle, false, false, s.pins.straps⟩ ∧ t.clock = ⟨0, 0, 0, 2⟩
      ∧ t.pins.straps = s.pins.straps ∧ t.pins.codes = s.pins.codes
      ∧ (∀ c sw, (t.pins.switches.get c).get sw
          = ⟨((s.pins.switches.get c).get sw).level, ((s.pins.switches.get c).get sw).level⟩)
      ∧ (∀ r, t.pins.contacts.get r = ⟨(s.pins.contacts.get r).level, (s.pins.contacts.get r).level⟩)
      ∧ t.pending = s.pending
      ∧ t.order = (if trip then Config.arrivalOrder s.draws else s.order)
      ∧ t.draws = (if trip then s.draws + 1 else s.draws)
    (∃ t, exec .powerOnReset s = .next t ∧ values false t ∧ t.events = ⟨[], []⟩ ∧ ∀ r, (t.relay r).hold = none)
    ∧ (∃ t, exec .externalReset s = .next t ∧ values s.sup.trip t
        ∧ t.events = ⟨if s.sup.trip then [⟨.faultRaised none .trip none, 0⟩] else [], []⟩
        ∧ ∀ r, (t.relay r).hold = (s.relay r).hold)

/-- Every standing condition holds right after reset. -/
def Obligations.ResetIsSound : Prop := State.reset.Sound

/-! ## Time -/

/-- With no command waiting, one millisecond passes: every running timer and clock counts it, a relay's hold ends at
its 20 ms, and what is due joins the queue: the expiry of a timer at its limit, a conversion at its 50 ms with the
codes on its channel's pins, the moments of a test step at 100 and 200 ms, the line fault of a low of 20 ms, a slot or
a window after its second, a visit every 2 ms, and at the sample every 8 ms each switch and contact level that two
successive samples agree on and that is not the filtered one. At the end of a reset, the first window start and the
first visit are due, at no time (R4, R12, R29, R51, R53, R87, R122, R137, R140, R141, R147, R156, R157, R166, R169,
R171; log entries 1, 7 and 41). -/
def Obligations.IdleStepPassesTime : Prop :=
  ∀ s : State, s.pending = [] →
    (s.alloc.slot = none ∨ 2 ≤ s.clock.sinceVisit → ∃ t, step s = .next t
      ∧ t = { s.drawOrder with pending := t.pending }
      ∧ t.pending.Perm ((if s.alloc.slot = none then [.windowStart] else [])
          ++ if 2 ≤ s.clock.sinceVisit then [.refreshVisit] else []))
    ∧ (s.alloc.slot ≠ none → s.clock.sinceVisit < 2 → ∃ t, step s = .next t
      ∧ t.tables = s.tables ∧ t.tableLocks = s.tableLocks ∧ t.bandIndex = s.bandIndex
      ∧ t.events = s.events
      ∧ t.link = { s.link with receiver := t.link.receiver }
      ∧ (∀ low, s.link.receiver = .inBreak low → t.link.receiver = .inBreak (low + 10))
      ∧ ((∀ low, s.link.receiver ≠ .inBreak low) → t.link.receiver = s.link.receiver)
      ∧ (.lineFault ∈ t.pending ↔ ∃ low, s.link.receiver = .inBreak low ∧ 200 ≤ low + 10)
      ∧ (∀ c, t.engine c = { s.engine c with secondTimer := (s.engine c).secondTimer.map (· + 1) }
          ∧ (.tick c ∈ t.pending ↔ ∃ n, (s.engine c).secondTimer = some n ∧ 1000 ≤ n + 1)
          ∧ t.lock c = { s.lock c with
              motion := (s.lock c).motion.map fun m => { m with elapsed := m.elapsed + 1 } }
          ∧ (.motionTimerExpiry c ∈ t.pending ↔ ∃ m, (s.lock c).motion = some m ∧ 3000 ≤ m.elapsed + 1)
          ∧ t.rateOf c = { s.rateOf c with timer := (s.rateOf c).timer.map (· + 1) }
          ∧ (.rateTimerExpiry c ∈ t.pending ↔ ∃ n, (s.rateOf c).timer = some n ∧ 6000 ≤ n + 1)
          ∧ t.sup.overheatTimer.get c = (s.sup.overheatTimer.get c).map (· + 1)
          ∧ (.overheatTimerExpiry c ∈ t.pending ↔
              ∃ n, s.sup.overheatTimer.get c = some n ∧ 60000 ≤ n + 1))
      ∧ t.sup = { s.sup with overheatTimer := t.sup.overheatTimer }
      ∧ (∀ ch, t.channel ch = { s.channel ch with staleness := (s.channel ch).staleness.map (· + 1) }
          ∧ (.stalenessTimerExpiry ch ∈ t.pending ↔ ∃ n, (s.channel ch).staleness = some n
            ∧ (match ch with
              | .cav _ => 1000
              | .cat _ => 2000
              | .front => 3000) ≤ n + 1))
      ∧ t.converter = { s.converter with elapsed := s.converter.elapsed + 1 }
      ∧ (∀ rtd ref, s.pins.codes.get s.converter.channel = (rtd, ref) →
          (.scanConversionComplete rtd ref ∈ t.pending ↔
            s.converter.origin = .scan ∧ 50 ≤ s.converter.elapsed + 1)
          ∧ (.onDemandConversionComplete rtd ref ∈ t.pending ↔
            s.converter.origin = .sample ∧ 50 ≤ s.converter.elapsed + 1))
      ∧ (∀ r, t.relay r = { s.relay r with
            settle := (s.relay r).settle.map (· + 1)
            mismatch := (s.relay r).mismatch.map (· + 1)
            hold := (match (s.relay r).hold with
              | some n => if n + 1 < 20 then some (n + 1) else none
              | none => none) }
          ∧ (.settleTimerExpiry r ∈ t.pending ↔ ∃ n, (s.relay r).settle = some n ∧ 50 ≤ n + 1)
          ∧ (.mismatchTimerExpiry r ∈ t.pending ↔ ∃ n, (s.relay r).mismatch = some n ∧ 100 ≤ n + 1))
      ∧ t.drive = { s.drive with entries := t.drive.entries, test := t.drive.test }
      ∧ t.drive.test = { s.drive.test with
          step := s.drive.test.step.map fun x => { x with elapsed := x.elapsed + 1 } }
      ∧ (.testStepReading ∈ t.pending ↔ ∃ x, s.drive.test.step = some x ∧ x.reading = none ∧ 100 ≤ x.elapsed + 1)
      ∧ (.testStepEnd ∈ t.pending ↔ ∃ x, s.drive.test.step = some x ∧ x.reading ≠ none ∧ 200 ≤ x.elapsed + 1)
      ∧ t.alloc = { s.alloc with slotElapsed := s.alloc.slotElapsed + 1 }
      ∧ (.windowStart ∈ t.pending ↔ s.alloc.slot = some 15 ∧ 1000 ≤ s.alloc.slotElapsed + 1)
      ∧ (.slotStart ∈ t.pending ↔ s.alloc.slot ≠ some 15 ∧ 1000 ≤ s.alloc.slotElapsed + 1)
      ∧ t.fan = { s.fan with grace := s.fan.grace.map (· + 1), pulse := s.fan.pulse.map (· + 1) }
      ∧ (.graceTimerExpiry ∈ t.pending ↔ ∃ n, s.fan.grace = some n ∧ 3000 ≤ n + 1)
      ∧ (.pulseTimerExpiry ∈ t.pending ↔ ∃ n, s.fan.pulse = some n ∧ 250 ≤ n + 1)
      ∧ (let sampled := 8 ≤ s.clock.sinceSample + 1
        let keeps := fun (p : SampledPin) => (⟨p.level, if sampled then p.level else p.lastSample⟩ : SampledPin)
        (∀ c sw,
          let p := (s.pins.switches.get c).get sw
          (t.pins.switches.get c).get sw = keeps p
          ∧ ∀ level, .switchLevelChange c sw level ∈ t.pending ↔
              sampled ∧ p = ⟨level, level⟩ ∧ (s.lock c).levels.get sw ≠ some level)
        ∧ (∀ r,
          let p := s.pins.contacts.get r
          t.pins.contacts.get r = keeps p
          ∧ ∀ closed, .senseLevelChange r closed ∈ t.pending ↔
              sampled ∧ p = ⟨closed, closed⟩ ∧ (s.relay r).sense ≠ some closed)
        ∧ t.pins.straps = s.pins.straps ∧ t.pins.codes = s.pins.codes
        ∧ t.clock = {
            stamp := if s.clock.millis + 1 < 1000 then s.clock.stamp else s.clock.stamp + 1
            millis := if s.clock.millis + 1 < 1000 then s.clock.millis + 1 else 0
            sinceSample := if sampled then 0 else s.clock.sinceSample + 1
            sinceVisit := s.clock.sinceVisit + 1 })
      ∧ (.refreshVisit ∈ t.pending ↔ s.clock.sinceVisit = 1))
end

