-- ==== Sys2Proof/Laws/Containers.lean ====
section
/-!
SUPPORT. Reading a container after a write: the value written at its own name, the old one at every other.
-/

namespace Sys2Proof.Machine

open Sys2Proof

variable {α : Type}

@[simp] theorem PerCavity.get_set_same (p : PerCavity α) (i : Cavity) (x : α) : (p.set i x).get i = x := by
  cases i <;> rfl

@[simp] theorem PerCavity.get_set_ne (p : PerCavity α) {i j : Cavity} (x : α) (h : j ≠ i) :
    (p.set i x).get j = p.get j := by
  cases i <;> cases j <;> first | rfl | exact absurd rfl h

@[simp] theorem PerHeater.get_set_same (p : PerHeater α) (i : Heater) (x : α) : (p.set i x).get i = x := by
  cases i <;> rfl

@[simp] theorem PerHeater.get_set_ne (p : PerHeater α) {i j : Heater} (x : α) (h : j ≠ i) :
    (p.set i x).get j = p.get j := by
  cases i <;> cases j <;> first | rfl | exact absurd rfl h

@[simp] theorem PerElement.get_set_same (p : PerElement α) (i : Element) (x : α) : (p.set i x).get i = x := by
  obtain ⟨c, k⟩ := i
  cases c <;> exact PerHeater.get_set_same _ k x

@[simp] theorem PerElement.get_set_ne (p : PerElement α) {i j : Element} (x : α) (h : j ≠ i) :
    (p.set i x).get j = p.get j := by
  obtain ⟨c, k⟩ := i
  obtain ⟨c', k'⟩ := j
  cases c <;> cases c' <;> first
    | rfl
    | exact PerHeater.get_set_ne _ x fun (e : k' = k) => h (by rw [e])

@[simp] theorem PerRelay.get_set_same (p : PerRelay α) (i : Relay) (x : α) : (p.set i x).get i = x := by
  cases i with
  | element e => exact PerElement.get_set_same _ e x
  | master => rfl

@[simp] theorem PerRelay.get_set_ne (p : PerRelay α) {i j : Relay} (x : α) (h : j ≠ i) :
    (p.set i x).get j = p.get j := by
  cases i <;> cases j <;> first
    | rfl
    | exact absurd rfl h
    | exact PerElement.get_set_ne _ x fun e => h (by rw [e])

@[simp] theorem PerChannel.get_set_same (p : PerChannel α) (i : Channel) (x : α) : (p.set i x).get i = x := by
  cases i with
  | front => rfl
  | cav c => exact PerCavity.get_set_same _ c x
  | cat c => exact PerCavity.get_set_same _ c x

@[simp] theorem PerChannel.get_set_ne (p : PerChannel α) {i j : Channel} (x : α) (h : j ≠ i) :
    (p.set i x).get j = p.get j := by
  cases i <;> cases j <;> first
    | rfl
    | exact absurd rfl h
    | exact PerCavity.get_set_ne _ x fun e => h (by rw [e])

@[simp] theorem PerSwitch.get_set_same (p : PerSwitch α) (i : Switch) (x : α) : (p.set i x).get i = x := by
  cases i <;> rfl

@[simp] theorem PerSwitch.get_set_ne (p : PerSwitch α) {i j : Switch} (x : α) (h : j ≠ i) :
    (p.set i x).get j = p.get j := by
  cases i <;> cases j <;> first | rfl | exact absurd rfl h

end Sys2Proof.Machine
end

