-- ==== Sys2Proof/Laws/State.lean ====
section
/-!
SUPPORT. One lemma per field of State for each of its updates, so that no proof unfolds a record update.
-/

namespace Sys2Proof.Machine.State

open Sys2Proof Sys2Proof.Machine

variable (s : State)

@[simp] theorem setTables_tables (x : Tables) : (s.setTables x).tables = x := rfl
@[simp] theorem setTables_tableLocks (x : Tables) : (s.setTables x).tableLocks = s.tableLocks := rfl
@[simp] theorem setTables_bandIndex (x : Tables) : (s.setTables x).bandIndex = s.bandIndex := rfl
@[simp] theorem setTables_channels (x : Tables) : (s.setTables x).channels = s.channels := rfl
@[simp] theorem setTables_rates (x : Tables) : (s.setTables x).rates = s.rates := rfl
@[simp] theorem setTables_converter (x : Tables) : (s.setTables x).converter = s.converter := rfl
@[simp] theorem setTables_locks (x : Tables) : (s.setTables x).locks = s.locks := rfl
@[simp] theorem setTables_engines (x : Tables) : (s.setTables x).engines = s.engines := rfl
@[simp] theorem setTables_alloc (x : Tables) : (s.setTables x).alloc = s.alloc := rfl
@[simp] theorem setTables_drive (x : Tables) : (s.setTables x).drive = s.drive := rfl
@[simp] theorem setTables_fan (x : Tables) : (s.setTables x).fan = s.fan := rfl
@[simp] theorem setTables_sup (x : Tables) : (s.setTables x).sup = s.sup := rfl
@[simp] theorem setTables_events (x : Tables) : (s.setTables x).events = s.events := rfl
@[simp] theorem setTables_link (x : Tables) : (s.setTables x).link = s.link := rfl
@[simp] theorem setTables_pins (x : Tables) : (s.setTables x).pins = s.pins := rfl
@[simp] theorem setTables_clock (x : Tables) : (s.setTables x).clock = s.clock := rfl
@[simp] theorem setTables_order (x : Tables) : (s.setTables x).order = s.order := rfl
@[simp] theorem setTables_draws (x : Tables) : (s.setTables x).draws = s.draws := rfl
@[simp] theorem setTables_pending (x : Tables) : (s.setTables x).pending = s.pending := rfl

@[simp] theorem setTableLock_tables (c : Cavity) (x : Bool) : (s.setTableLock c x).tables = s.tables := rfl
@[simp] theorem setTableLock_tableLocks (c : Cavity) (x : Bool) : (s.setTableLock c x).tableLocks = s.tableLocks.set c x := rfl
@[simp] theorem setTableLock_bandIndex (c : Cavity) (x : Bool) : (s.setTableLock c x).bandIndex = s.bandIndex := rfl
@[simp] theorem setTableLock_channels (c : Cavity) (x : Bool) : (s.setTableLock c x).channels = s.channels := rfl
@[simp] theorem setTableLock_rates (c : Cavity) (x : Bool) : (s.setTableLock c x).rates = s.rates := rfl
@[simp] theorem setTableLock_converter (c : Cavity) (x : Bool) : (s.setTableLock c x).converter = s.converter := rfl
@[simp] theorem setTableLock_locks (c : Cavity) (x : Bool) : (s.setTableLock c x).locks = s.locks := rfl
@[simp] theorem setTableLock_engines (c : Cavity) (x : Bool) : (s.setTableLock c x).engines = s.engines := rfl
@[simp] theorem setTableLock_alloc (c : Cavity) (x : Bool) : (s.setTableLock c x).alloc = s.alloc := rfl
@[simp] theorem setTableLock_drive (c : Cavity) (x : Bool) : (s.setTableLock c x).drive = s.drive := rfl
@[simp] theorem setTableLock_fan (c : Cavity) (x : Bool) : (s.setTableLock c x).fan = s.fan := rfl
@[simp] theorem setTableLock_sup (c : Cavity) (x : Bool) : (s.setTableLock c x).sup = s.sup := rfl
@[simp] theorem setTableLock_events (c : Cavity) (x : Bool) : (s.setTableLock c x).events = s.events := rfl
@[simp] theorem setTableLock_link (c : Cavity) (x : Bool) : (s.setTableLock c x).link = s.link := rfl
@[simp] theorem setTableLock_pins (c : Cavity) (x : Bool) : (s.setTableLock c x).pins = s.pins := rfl
@[simp] theorem setTableLock_clock (c : Cavity) (x : Bool) : (s.setTableLock c x).clock = s.clock := rfl
@[simp] theorem setTableLock_order (c : Cavity) (x : Bool) : (s.setTableLock c x).order = s.order := rfl
@[simp] theorem setTableLock_draws (c : Cavity) (x : Bool) : (s.setTableLock c x).draws = s.draws := rfl
@[simp] theorem setTableLock_pending (c : Cavity) (x : Bool) : (s.setTableLock c x).pending = s.pending := rfl

@[simp] theorem setBandIndex_tables (c : Cavity) (x : BandIndex) : (s.setBandIndex c x).tables = s.tables := rfl
@[simp] theorem setBandIndex_tableLocks (c : Cavity) (x : BandIndex) : (s.setBandIndex c x).tableLocks = s.tableLocks := rfl
@[simp] theorem setBandIndex_bandIndex (c : Cavity) (x : BandIndex) : (s.setBandIndex c x).bandIndex = s.bandIndex.set c x := rfl
@[simp] theorem setBandIndex_channels (c : Cavity) (x : BandIndex) : (s.setBandIndex c x).channels = s.channels := rfl
@[simp] theorem setBandIndex_rates (c : Cavity) (x : BandIndex) : (s.setBandIndex c x).rates = s.rates := rfl
@[simp] theorem setBandIndex_converter (c : Cavity) (x : BandIndex) : (s.setBandIndex c x).converter = s.converter := rfl
@[simp] theorem setBandIndex_locks (c : Cavity) (x : BandIndex) : (s.setBandIndex c x).locks = s.locks := rfl
@[simp] theorem setBandIndex_engines (c : Cavity) (x : BandIndex) : (s.setBandIndex c x).engines = s.engines := rfl
@[simp] theorem setBandIndex_alloc (c : Cavity) (x : BandIndex) : (s.setBandIndex c x).alloc = s.alloc := rfl
@[simp] theorem setBandIndex_drive (c : Cavity) (x : BandIndex) : (s.setBandIndex c x).drive = s.drive := rfl
@[simp] theorem setBandIndex_fan (c : Cavity) (x : BandIndex) : (s.setBandIndex c x).fan = s.fan := rfl
@[simp] theorem setBandIndex_sup (c : Cavity) (x : BandIndex) : (s.setBandIndex c x).sup = s.sup := rfl
@[simp] theorem setBandIndex_events (c : Cavity) (x : BandIndex) : (s.setBandIndex c x).events = s.events := rfl
@[simp] theorem setBandIndex_link (c : Cavity) (x : BandIndex) : (s.setBandIndex c x).link = s.link := rfl
@[simp] theorem setBandIndex_pins (c : Cavity) (x : BandIndex) : (s.setBandIndex c x).pins = s.pins := rfl
@[simp] theorem setBandIndex_clock (c : Cavity) (x : BandIndex) : (s.setBandIndex c x).clock = s.clock := rfl
@[simp] theorem setBandIndex_order (c : Cavity) (x : BandIndex) : (s.setBandIndex c x).order = s.order := rfl
@[simp] theorem setBandIndex_draws (c : Cavity) (x : BandIndex) : (s.setBandIndex c x).draws = s.draws := rfl
@[simp] theorem setBandIndex_pending (c : Cavity) (x : BandIndex) : (s.setBandIndex c x).pending = s.pending := rfl

@[simp] theorem setChannel_tables (c : Channel) (x : ChannelEntry) : (s.setChannel c x).tables = s.tables := rfl
@[simp] theorem setChannel_tableLocks (c : Channel) (x : ChannelEntry) : (s.setChannel c x).tableLocks = s.tableLocks := rfl
@[simp] theorem setChannel_bandIndex (c : Channel) (x : ChannelEntry) : (s.setChannel c x).bandIndex = s.bandIndex := rfl
@[simp] theorem setChannel_channels (c : Channel) (x : ChannelEntry) : (s.setChannel c x).channels = s.channels.set c x := rfl
@[simp] theorem setChannel_rates (c : Channel) (x : ChannelEntry) : (s.setChannel c x).rates = s.rates := rfl
@[simp] theorem setChannel_converter (c : Channel) (x : ChannelEntry) : (s.setChannel c x).converter = s.converter := rfl
@[simp] theorem setChannel_locks (c : Channel) (x : ChannelEntry) : (s.setChannel c x).locks = s.locks := rfl
@[simp] theorem setChannel_engines (c : Channel) (x : ChannelEntry) : (s.setChannel c x).engines = s.engines := rfl
@[simp] theorem setChannel_alloc (c : Channel) (x : ChannelEntry) : (s.setChannel c x).alloc = s.alloc := rfl
@[simp] theorem setChannel_drive (c : Channel) (x : ChannelEntry) : (s.setChannel c x).drive = s.drive := rfl
@[simp] theorem setChannel_fan (c : Channel) (x : ChannelEntry) : (s.setChannel c x).fan = s.fan := rfl
@[simp] theorem setChannel_sup (c : Channel) (x : ChannelEntry) : (s.setChannel c x).sup = s.sup := rfl
@[simp] theorem setChannel_events (c : Channel) (x : ChannelEntry) : (s.setChannel c x).events = s.events := rfl
@[simp] theorem setChannel_link (c : Channel) (x : ChannelEntry) : (s.setChannel c x).link = s.link := rfl
@[simp] theorem setChannel_pins (c : Channel) (x : ChannelEntry) : (s.setChannel c x).pins = s.pins := rfl
@[simp] theorem setChannel_clock (c : Channel) (x : ChannelEntry) : (s.setChannel c x).clock = s.clock := rfl
@[simp] theorem setChannel_order (c : Channel) (x : ChannelEntry) : (s.setChannel c x).order = s.order := rfl
@[simp] theorem setChannel_draws (c : Channel) (x : ChannelEntry) : (s.setChannel c x).draws = s.draws := rfl
@[simp] theorem setChannel_pending (c : Channel) (x : ChannelEntry) : (s.setChannel c x).pending = s.pending := rfl

@[simp] theorem setRate_tables (c : Cavity) (x : RateHistory) : (s.setRate c x).tables = s.tables := rfl
@[simp] theorem setRate_tableLocks (c : Cavity) (x : RateHistory) : (s.setRate c x).tableLocks = s.tableLocks := rfl
@[simp] theorem setRate_bandIndex (c : Cavity) (x : RateHistory) : (s.setRate c x).bandIndex = s.bandIndex := rfl
@[simp] theorem setRate_channels (c : Cavity) (x : RateHistory) : (s.setRate c x).channels = s.channels := rfl
@[simp] theorem setRate_rates (c : Cavity) (x : RateHistory) : (s.setRate c x).rates = s.rates.set c x := rfl
@[simp] theorem setRate_converter (c : Cavity) (x : RateHistory) : (s.setRate c x).converter = s.converter := rfl
@[simp] theorem setRate_locks (c : Cavity) (x : RateHistory) : (s.setRate c x).locks = s.locks := rfl
@[simp] theorem setRate_engines (c : Cavity) (x : RateHistory) : (s.setRate c x).engines = s.engines := rfl
@[simp] theorem setRate_alloc (c : Cavity) (x : RateHistory) : (s.setRate c x).alloc = s.alloc := rfl
@[simp] theorem setRate_drive (c : Cavity) (x : RateHistory) : (s.setRate c x).drive = s.drive := rfl
@[simp] theorem setRate_fan (c : Cavity) (x : RateHistory) : (s.setRate c x).fan = s.fan := rfl
@[simp] theorem setRate_sup (c : Cavity) (x : RateHistory) : (s.setRate c x).sup = s.sup := rfl
@[simp] theorem setRate_events (c : Cavity) (x : RateHistory) : (s.setRate c x).events = s.events := rfl
@[simp] theorem setRate_link (c : Cavity) (x : RateHistory) : (s.setRate c x).link = s.link := rfl
@[simp] theorem setRate_pins (c : Cavity) (x : RateHistory) : (s.setRate c x).pins = s.pins := rfl
@[simp] theorem setRate_clock (c : Cavity) (x : RateHistory) : (s.setRate c x).clock = s.clock := rfl
@[simp] theorem setRate_order (c : Cavity) (x : RateHistory) : (s.setRate c x).order = s.order := rfl
@[simp] theorem setRate_draws (c : Cavity) (x : RateHistory) : (s.setRate c x).draws = s.draws := rfl
@[simp] theorem setRate_pending (c : Cavity) (x : RateHistory) : (s.setRate c x).pending = s.pending := rfl

@[simp] theorem setConverter_tables (x : Converter) : (s.setConverter x).tables = s.tables := rfl
@[simp] theorem setConverter_tableLocks (x : Converter) : (s.setConverter x).tableLocks = s.tableLocks := rfl
@[simp] theorem setConverter_bandIndex (x : Converter) : (s.setConverter x).bandIndex = s.bandIndex := rfl
@[simp] theorem setConverter_channels (x : Converter) : (s.setConverter x).channels = s.channels := rfl
@[simp] theorem setConverter_rates (x : Converter) : (s.setConverter x).rates = s.rates := rfl
@[simp] theorem setConverter_converter (x : Converter) : (s.setConverter x).converter = x := rfl
@[simp] theorem setConverter_locks (x : Converter) : (s.setConverter x).locks = s.locks := rfl
@[simp] theorem setConverter_engines (x : Converter) : (s.setConverter x).engines = s.engines := rfl
@[simp] theorem setConverter_alloc (x : Converter) : (s.setConverter x).alloc = s.alloc := rfl
@[simp] theorem setConverter_drive (x : Converter) : (s.setConverter x).drive = s.drive := rfl
@[simp] theorem setConverter_fan (x : Converter) : (s.setConverter x).fan = s.fan := rfl
@[simp] theorem setConverter_sup (x : Converter) : (s.setConverter x).sup = s.sup := rfl
@[simp] theorem setConverter_events (x : Converter) : (s.setConverter x).events = s.events := rfl
@[simp] theorem setConverter_link (x : Converter) : (s.setConverter x).link = s.link := rfl
@[simp] theorem setConverter_pins (x : Converter) : (s.setConverter x).pins = s.pins := rfl
@[simp] theorem setConverter_clock (x : Converter) : (s.setConverter x).clock = s.clock := rfl
@[simp] theorem setConverter_order (x : Converter) : (s.setConverter x).order = s.order := rfl
@[simp] theorem setConverter_draws (x : Converter) : (s.setConverter x).draws = s.draws := rfl
@[simp] theorem setConverter_pending (x : Converter) : (s.setConverter x).pending = s.pending := rfl

@[simp] theorem setLock_tables (c : Cavity) (x : LockCtl) : (s.setLock c x).tables = s.tables := rfl
@[simp] theorem setLock_tableLocks (c : Cavity) (x : LockCtl) : (s.setLock c x).tableLocks = s.tableLocks := rfl
@[simp] theorem setLock_bandIndex (c : Cavity) (x : LockCtl) : (s.setLock c x).bandIndex = s.bandIndex := rfl
@[simp] theorem setLock_channels (c : Cavity) (x : LockCtl) : (s.setLock c x).channels = s.channels := rfl
@[simp] theorem setLock_rates (c : Cavity) (x : LockCtl) : (s.setLock c x).rates = s.rates := rfl
@[simp] theorem setLock_converter (c : Cavity) (x : LockCtl) : (s.setLock c x).converter = s.converter := rfl
@[simp] theorem setLock_locks (c : Cavity) (x : LockCtl) : (s.setLock c x).locks = s.locks.set c x := rfl
@[simp] theorem setLock_engines (c : Cavity) (x : LockCtl) : (s.setLock c x).engines = s.engines := rfl
@[simp] theorem setLock_alloc (c : Cavity) (x : LockCtl) : (s.setLock c x).alloc = s.alloc := rfl
@[simp] theorem setLock_drive (c : Cavity) (x : LockCtl) : (s.setLock c x).drive = s.drive := rfl
@[simp] theorem setLock_fan (c : Cavity) (x : LockCtl) : (s.setLock c x).fan = s.fan := rfl
@[simp] theorem setLock_sup (c : Cavity) (x : LockCtl) : (s.setLock c x).sup = s.sup := rfl
@[simp] theorem setLock_events (c : Cavity) (x : LockCtl) : (s.setLock c x).events = s.events := rfl
@[simp] theorem setLock_link (c : Cavity) (x : LockCtl) : (s.setLock c x).link = s.link := rfl
@[simp] theorem setLock_pins (c : Cavity) (x : LockCtl) : (s.setLock c x).pins = s.pins := rfl
@[simp] theorem setLock_clock (c : Cavity) (x : LockCtl) : (s.setLock c x).clock = s.clock := rfl
@[simp] theorem setLock_order (c : Cavity) (x : LockCtl) : (s.setLock c x).order = s.order := rfl
@[simp] theorem setLock_draws (c : Cavity) (x : LockCtl) : (s.setLock c x).draws = s.draws := rfl
@[simp] theorem setLock_pending (c : Cavity) (x : LockCtl) : (s.setLock c x).pending = s.pending := rfl

@[simp] theorem setEngine_tables (c : Cavity) (x : Engine) : (s.setEngine c x).tables = s.tables := rfl
@[simp] theorem setEngine_tableLocks (c : Cavity) (x : Engine) : (s.setEngine c x).tableLocks = s.tableLocks := rfl
@[simp] theorem setEngine_bandIndex (c : Cavity) (x : Engine) : (s.setEngine c x).bandIndex = s.bandIndex := rfl
@[simp] theorem setEngine_channels (c : Cavity) (x : Engine) : (s.setEngine c x).channels = s.channels := rfl
@[simp] theorem setEngine_rates (c : Cavity) (x : Engine) : (s.setEngine c x).rates = s.rates := rfl
@[simp] theorem setEngine_converter (c : Cavity) (x : Engine) : (s.setEngine c x).converter = s.converter := rfl
@[simp] theorem setEngine_locks (c : Cavity) (x : Engine) : (s.setEngine c x).locks = s.locks := rfl
@[simp] theorem setEngine_engines (c : Cavity) (x : Engine) : (s.setEngine c x).engines = s.engines.set c x := rfl
@[simp] theorem setEngine_alloc (c : Cavity) (x : Engine) : (s.setEngine c x).alloc = s.alloc := rfl
@[simp] theorem setEngine_drive (c : Cavity) (x : Engine) : (s.setEngine c x).drive = s.drive := rfl
@[simp] theorem setEngine_fan (c : Cavity) (x : Engine) : (s.setEngine c x).fan = s.fan := rfl
@[simp] theorem setEngine_sup (c : Cavity) (x : Engine) : (s.setEngine c x).sup = s.sup := rfl
@[simp] theorem setEngine_events (c : Cavity) (x : Engine) : (s.setEngine c x).events = s.events := rfl
@[simp] theorem setEngine_link (c : Cavity) (x : Engine) : (s.setEngine c x).link = s.link := rfl
@[simp] theorem setEngine_pins (c : Cavity) (x : Engine) : (s.setEngine c x).pins = s.pins := rfl
@[simp] theorem setEngine_clock (c : Cavity) (x : Engine) : (s.setEngine c x).clock = s.clock := rfl
@[simp] theorem setEngine_order (c : Cavity) (x : Engine) : (s.setEngine c x).order = s.order := rfl
@[simp] theorem setEngine_draws (c : Cavity) (x : Engine) : (s.setEngine c x).draws = s.draws := rfl
@[simp] theorem setEngine_pending (c : Cavity) (x : Engine) : (s.setEngine c x).pending = s.pending := rfl

@[simp] theorem setAlloc_tables (x : Alloc) : (s.setAlloc x).tables = s.tables := rfl
@[simp] theorem setAlloc_tableLocks (x : Alloc) : (s.setAlloc x).tableLocks = s.tableLocks := rfl
@[simp] theorem setAlloc_bandIndex (x : Alloc) : (s.setAlloc x).bandIndex = s.bandIndex := rfl
@[simp] theorem setAlloc_channels (x : Alloc) : (s.setAlloc x).channels = s.channels := rfl
@[simp] theorem setAlloc_rates (x : Alloc) : (s.setAlloc x).rates = s.rates := rfl
@[simp] theorem setAlloc_converter (x : Alloc) : (s.setAlloc x).converter = s.converter := rfl
@[simp] theorem setAlloc_locks (x : Alloc) : (s.setAlloc x).locks = s.locks := rfl
@[simp] theorem setAlloc_engines (x : Alloc) : (s.setAlloc x).engines = s.engines := rfl
@[simp] theorem setAlloc_alloc (x : Alloc) : (s.setAlloc x).alloc = x := rfl
@[simp] theorem setAlloc_drive (x : Alloc) : (s.setAlloc x).drive = s.drive := rfl
@[simp] theorem setAlloc_fan (x : Alloc) : (s.setAlloc x).fan = s.fan := rfl
@[simp] theorem setAlloc_sup (x : Alloc) : (s.setAlloc x).sup = s.sup := rfl
@[simp] theorem setAlloc_events (x : Alloc) : (s.setAlloc x).events = s.events := rfl
@[simp] theorem setAlloc_link (x : Alloc) : (s.setAlloc x).link = s.link := rfl
@[simp] theorem setAlloc_pins (x : Alloc) : (s.setAlloc x).pins = s.pins := rfl
@[simp] theorem setAlloc_clock (x : Alloc) : (s.setAlloc x).clock = s.clock := rfl
@[simp] theorem setAlloc_order (x : Alloc) : (s.setAlloc x).order = s.order := rfl
@[simp] theorem setAlloc_draws (x : Alloc) : (s.setAlloc x).draws = s.draws := rfl
@[simp] theorem setAlloc_pending (x : Alloc) : (s.setAlloc x).pending = s.pending := rfl

@[simp] theorem setDrive_tables (x : Drive) : (s.setDrive x).tables = s.tables := rfl
@[simp] theorem setDrive_tableLocks (x : Drive) : (s.setDrive x).tableLocks = s.tableLocks := rfl
@[simp] theorem setDrive_bandIndex (x : Drive) : (s.setDrive x).bandIndex = s.bandIndex := rfl
@[simp] theorem setDrive_channels (x : Drive) : (s.setDrive x).channels = s.channels := rfl
@[simp] theorem setDrive_rates (x : Drive) : (s.setDrive x).rates = s.rates := rfl
@[simp] theorem setDrive_converter (x : Drive) : (s.setDrive x).converter = s.converter := rfl
@[simp] theorem setDrive_locks (x : Drive) : (s.setDrive x).locks = s.locks := rfl
@[simp] theorem setDrive_engines (x : Drive) : (s.setDrive x).engines = s.engines := rfl
@[simp] theorem setDrive_alloc (x : Drive) : (s.setDrive x).alloc = s.alloc := rfl
@[simp] theorem setDrive_drive (x : Drive) : (s.setDrive x).drive = x := rfl
@[simp] theorem setDrive_fan (x : Drive) : (s.setDrive x).fan = s.fan := rfl
@[simp] theorem setDrive_sup (x : Drive) : (s.setDrive x).sup = s.sup := rfl
@[simp] theorem setDrive_events (x : Drive) : (s.setDrive x).events = s.events := rfl
@[simp] theorem setDrive_link (x : Drive) : (s.setDrive x).link = s.link := rfl
@[simp] theorem setDrive_pins (x : Drive) : (s.setDrive x).pins = s.pins := rfl
@[simp] theorem setDrive_clock (x : Drive) : (s.setDrive x).clock = s.clock := rfl
@[simp] theorem setDrive_order (x : Drive) : (s.setDrive x).order = s.order := rfl
@[simp] theorem setDrive_draws (x : Drive) : (s.setDrive x).draws = s.draws := rfl
@[simp] theorem setDrive_pending (x : Drive) : (s.setDrive x).pending = s.pending := rfl

@[simp] theorem setRelay_tables (r : Relay) (x : RelayEntry) : (s.setRelay r x).tables = s.tables := rfl
@[simp] theorem setRelay_tableLocks (r : Relay) (x : RelayEntry) : (s.setRelay r x).tableLocks = s.tableLocks := rfl
@[simp] theorem setRelay_bandIndex (r : Relay) (x : RelayEntry) : (s.setRelay r x).bandIndex = s.bandIndex := rfl
@[simp] theorem setRelay_channels (r : Relay) (x : RelayEntry) : (s.setRelay r x).channels = s.channels := rfl
@[simp] theorem setRelay_rates (r : Relay) (x : RelayEntry) : (s.setRelay r x).rates = s.rates := rfl
@[simp] theorem setRelay_converter (r : Relay) (x : RelayEntry) : (s.setRelay r x).converter = s.converter := rfl
@[simp] theorem setRelay_locks (r : Relay) (x : RelayEntry) : (s.setRelay r x).locks = s.locks := rfl
@[simp] theorem setRelay_engines (r : Relay) (x : RelayEntry) : (s.setRelay r x).engines = s.engines := rfl
@[simp] theorem setRelay_alloc (r : Relay) (x : RelayEntry) : (s.setRelay r x).alloc = s.alloc := rfl
@[simp] theorem setRelay_drive (r : Relay) (x : RelayEntry) : (s.setRelay r x).drive = { s.drive with entries := s.drive.entries.set r x } := rfl
@[simp] theorem setRelay_fan (r : Relay) (x : RelayEntry) : (s.setRelay r x).fan = s.fan := rfl
@[simp] theorem setRelay_sup (r : Relay) (x : RelayEntry) : (s.setRelay r x).sup = s.sup := rfl
@[simp] theorem setRelay_events (r : Relay) (x : RelayEntry) : (s.setRelay r x).events = s.events := rfl
@[simp] theorem setRelay_link (r : Relay) (x : RelayEntry) : (s.setRelay r x).link = s.link := rfl
@[simp] theorem setRelay_pins (r : Relay) (x : RelayEntry) : (s.setRelay r x).pins = s.pins := rfl
@[simp] theorem setRelay_clock (r : Relay) (x : RelayEntry) : (s.setRelay r x).clock = s.clock := rfl
@[simp] theorem setRelay_order (r : Relay) (x : RelayEntry) : (s.setRelay r x).order = s.order := rfl
@[simp] theorem setRelay_draws (r : Relay) (x : RelayEntry) : (s.setRelay r x).draws = s.draws := rfl
@[simp] theorem setRelay_pending (r : Relay) (x : RelayEntry) : (s.setRelay r x).pending = s.pending := rfl

@[simp] theorem setFan_tables (x : Fan) : (s.setFan x).tables = s.tables := rfl
@[simp] theorem setFan_tableLocks (x : Fan) : (s.setFan x).tableLocks = s.tableLocks := rfl
@[simp] theorem setFan_bandIndex (x : Fan) : (s.setFan x).bandIndex = s.bandIndex := rfl
@[simp] theorem setFan_channels (x : Fan) : (s.setFan x).channels = s.channels := rfl
@[simp] theorem setFan_rates (x : Fan) : (s.setFan x).rates = s.rates := rfl
@[simp] theorem setFan_converter (x : Fan) : (s.setFan x).converter = s.converter := rfl
@[simp] theorem setFan_locks (x : Fan) : (s.setFan x).locks = s.locks := rfl
@[simp] theorem setFan_engines (x : Fan) : (s.setFan x).engines = s.engines := rfl
@[simp] theorem setFan_alloc (x : Fan) : (s.setFan x).alloc = s.alloc := rfl
@[simp] theorem setFan_drive (x : Fan) : (s.setFan x).drive = s.drive := rfl
@[simp] theorem setFan_fan (x : Fan) : (s.setFan x).fan = x := rfl
@[simp] theorem setFan_sup (x : Fan) : (s.setFan x).sup = s.sup := rfl
@[simp] theorem setFan_events (x : Fan) : (s.setFan x).events = s.events := rfl
@[simp] theorem setFan_link (x : Fan) : (s.setFan x).link = s.link := rfl
@[simp] theorem setFan_pins (x : Fan) : (s.setFan x).pins = s.pins := rfl
@[simp] theorem setFan_clock (x : Fan) : (s.setFan x).clock = s.clock := rfl
@[simp] theorem setFan_order (x : Fan) : (s.setFan x).order = s.order := rfl
@[simp] theorem setFan_draws (x : Fan) : (s.setFan x).draws = s.draws := rfl
@[simp] theorem setFan_pending (x : Fan) : (s.setFan x).pending = s.pending := rfl

@[simp] theorem setSup_tables (x : Sup) : (s.setSup x).tables = s.tables := rfl
@[simp] theorem setSup_tableLocks (x : Sup) : (s.setSup x).tableLocks = s.tableLocks := rfl
@[simp] theorem setSup_bandIndex (x : Sup) : (s.setSup x).bandIndex = s.bandIndex := rfl
@[simp] theorem setSup_channels (x : Sup) : (s.setSup x).channels = s.channels := rfl
@[simp] theorem setSup_rates (x : Sup) : (s.setSup x).rates = s.rates := rfl
@[simp] theorem setSup_converter (x : Sup) : (s.setSup x).converter = s.converter := rfl
@[simp] theorem setSup_locks (x : Sup) : (s.setSup x).locks = s.locks := rfl
@[simp] theorem setSup_engines (x : Sup) : (s.setSup x).engines = s.engines := rfl
@[simp] theorem setSup_alloc (x : Sup) : (s.setSup x).alloc = s.alloc := rfl
@[simp] theorem setSup_drive (x : Sup) : (s.setSup x).drive = s.drive := rfl
@[simp] theorem setSup_fan (x : Sup) : (s.setSup x).fan = s.fan := rfl
@[simp] theorem setSup_sup (x : Sup) : (s.setSup x).sup = x := rfl
@[simp] theorem setSup_events (x : Sup) : (s.setSup x).events = s.events := rfl
@[simp] theorem setSup_link (x : Sup) : (s.setSup x).link = s.link := rfl
@[simp] theorem setSup_pins (x : Sup) : (s.setSup x).pins = s.pins := rfl
@[simp] theorem setSup_clock (x : Sup) : (s.setSup x).clock = s.clock := rfl
@[simp] theorem setSup_order (x : Sup) : (s.setSup x).order = s.order := rfl
@[simp] theorem setSup_draws (x : Sup) : (s.setSup x).draws = s.draws := rfl
@[simp] theorem setSup_pending (x : Sup) : (s.setSup x).pending = s.pending := rfl

@[simp] theorem setEvents_tables (x : Events) : (s.setEvents x).tables = s.tables := rfl
@[simp] theorem setEvents_tableLocks (x : Events) : (s.setEvents x).tableLocks = s.tableLocks := rfl
@[simp] theorem setEvents_bandIndex (x : Events) : (s.setEvents x).bandIndex = s.bandIndex := rfl
@[simp] theorem setEvents_channels (x : Events) : (s.setEvents x).channels = s.channels := rfl
@[simp] theorem setEvents_rates (x : Events) : (s.setEvents x).rates = s.rates := rfl
@[simp] theorem setEvents_converter (x : Events) : (s.setEvents x).converter = s.converter := rfl
@[simp] theorem setEvents_locks (x : Events) : (s.setEvents x).locks = s.locks := rfl
@[simp] theorem setEvents_engines (x : Events) : (s.setEvents x).engines = s.engines := rfl
@[simp] theorem setEvents_alloc (x : Events) : (s.setEvents x).alloc = s.alloc := rfl
@[simp] theorem setEvents_drive (x : Events) : (s.setEvents x).drive = s.drive := rfl
@[simp] theorem setEvents_fan (x : Events) : (s.setEvents x).fan = s.fan := rfl
@[simp] theorem setEvents_sup (x : Events) : (s.setEvents x).sup = s.sup := rfl
@[simp] theorem setEvents_events (x : Events) : (s.setEvents x).events = x := rfl
@[simp] theorem setEvents_link (x : Events) : (s.setEvents x).link = s.link := rfl
@[simp] theorem setEvents_pins (x : Events) : (s.setEvents x).pins = s.pins := rfl
@[simp] theorem setEvents_clock (x : Events) : (s.setEvents x).clock = s.clock := rfl
@[simp] theorem setEvents_order (x : Events) : (s.setEvents x).order = s.order := rfl
@[simp] theorem setEvents_draws (x : Events) : (s.setEvents x).draws = s.draws := rfl
@[simp] theorem setEvents_pending (x : Events) : (s.setEvents x).pending = s.pending := rfl

@[simp] theorem setLink_tables (x : Link) : (s.setLink x).tables = s.tables := rfl
@[simp] theorem setLink_tableLocks (x : Link) : (s.setLink x).tableLocks = s.tableLocks := rfl
@[simp] theorem setLink_bandIndex (x : Link) : (s.setLink x).bandIndex = s.bandIndex := rfl
@[simp] theorem setLink_channels (x : Link) : (s.setLink x).channels = s.channels := rfl
@[simp] theorem setLink_rates (x : Link) : (s.setLink x).rates = s.rates := rfl
@[simp] theorem setLink_converter (x : Link) : (s.setLink x).converter = s.converter := rfl
@[simp] theorem setLink_locks (x : Link) : (s.setLink x).locks = s.locks := rfl
@[simp] theorem setLink_engines (x : Link) : (s.setLink x).engines = s.engines := rfl
@[simp] theorem setLink_alloc (x : Link) : (s.setLink x).alloc = s.alloc := rfl
@[simp] theorem setLink_drive (x : Link) : (s.setLink x).drive = s.drive := rfl
@[simp] theorem setLink_fan (x : Link) : (s.setLink x).fan = s.fan := rfl
@[simp] theorem setLink_sup (x : Link) : (s.setLink x).sup = s.sup := rfl
@[simp] theorem setLink_events (x : Link) : (s.setLink x).events = s.events := rfl
@[simp] theorem setLink_link (x : Link) : (s.setLink x).link = x := rfl
@[simp] theorem setLink_pins (x : Link) : (s.setLink x).pins = s.pins := rfl
@[simp] theorem setLink_clock (x : Link) : (s.setLink x).clock = s.clock := rfl
@[simp] theorem setLink_order (x : Link) : (s.setLink x).order = s.order := rfl
@[simp] theorem setLink_draws (x : Link) : (s.setLink x).draws = s.draws := rfl
@[simp] theorem setLink_pending (x : Link) : (s.setLink x).pending = s.pending := rfl

@[simp] theorem setPins_tables (x : Pins) : (s.setPins x).tables = s.tables := rfl
@[simp] theorem setPins_tableLocks (x : Pins) : (s.setPins x).tableLocks = s.tableLocks := rfl
@[simp] theorem setPins_bandIndex (x : Pins) : (s.setPins x).bandIndex = s.bandIndex := rfl
@[simp] theorem setPins_channels (x : Pins) : (s.setPins x).channels = s.channels := rfl
@[simp] theorem setPins_rates (x : Pins) : (s.setPins x).rates = s.rates := rfl
@[simp] theorem setPins_converter (x : Pins) : (s.setPins x).converter = s.converter := rfl
@[simp] theorem setPins_locks (x : Pins) : (s.setPins x).locks = s.locks := rfl
@[simp] theorem setPins_engines (x : Pins) : (s.setPins x).engines = s.engines := rfl
@[simp] theorem setPins_alloc (x : Pins) : (s.setPins x).alloc = s.alloc := rfl
@[simp] theorem setPins_drive (x : Pins) : (s.setPins x).drive = s.drive := rfl
@[simp] theorem setPins_fan (x : Pins) : (s.setPins x).fan = s.fan := rfl
@[simp] theorem setPins_sup (x : Pins) : (s.setPins x).sup = s.sup := rfl
@[simp] theorem setPins_events (x : Pins) : (s.setPins x).events = s.events := rfl
@[simp] theorem setPins_link (x : Pins) : (s.setPins x).link = s.link := rfl
@[simp] theorem setPins_pins (x : Pins) : (s.setPins x).pins = x := rfl
@[simp] theorem setPins_clock (x : Pins) : (s.setPins x).clock = s.clock := rfl
@[simp] theorem setPins_order (x : Pins) : (s.setPins x).order = s.order := rfl
@[simp] theorem setPins_draws (x : Pins) : (s.setPins x).draws = s.draws := rfl
@[simp] theorem setPins_pending (x : Pins) : (s.setPins x).pending = s.pending := rfl

@[simp] theorem setClock_tables (x : Clock) : (s.setClock x).tables = s.tables := rfl
@[simp] theorem setClock_tableLocks (x : Clock) : (s.setClock x).tableLocks = s.tableLocks := rfl
@[simp] theorem setClock_bandIndex (x : Clock) : (s.setClock x).bandIndex = s.bandIndex := rfl
@[simp] theorem setClock_channels (x : Clock) : (s.setClock x).channels = s.channels := rfl
@[simp] theorem setClock_rates (x : Clock) : (s.setClock x).rates = s.rates := rfl
@[simp] theorem setClock_converter (x : Clock) : (s.setClock x).converter = s.converter := rfl
@[simp] theorem setClock_locks (x : Clock) : (s.setClock x).locks = s.locks := rfl
@[simp] theorem setClock_engines (x : Clock) : (s.setClock x).engines = s.engines := rfl
@[simp] theorem setClock_alloc (x : Clock) : (s.setClock x).alloc = s.alloc := rfl
@[simp] theorem setClock_drive (x : Clock) : (s.setClock x).drive = s.drive := rfl
@[simp] theorem setClock_fan (x : Clock) : (s.setClock x).fan = s.fan := rfl
@[simp] theorem setClock_sup (x : Clock) : (s.setClock x).sup = s.sup := rfl
@[simp] theorem setClock_events (x : Clock) : (s.setClock x).events = s.events := rfl
@[simp] theorem setClock_link (x : Clock) : (s.setClock x).link = s.link := rfl
@[simp] theorem setClock_pins (x : Clock) : (s.setClock x).pins = s.pins := rfl
@[simp] theorem setClock_clock (x : Clock) : (s.setClock x).clock = x := rfl
@[simp] theorem setClock_order (x : Clock) : (s.setClock x).order = s.order := rfl
@[simp] theorem setClock_draws (x : Clock) : (s.setClock x).draws = s.draws := rfl
@[simp] theorem setClock_pending (x : Clock) : (s.setClock x).pending = s.pending := rfl

@[simp] theorem drawOrder_tables : s.drawOrder.tables = s.tables := rfl
@[simp] theorem drawOrder_tableLocks : s.drawOrder.tableLocks = s.tableLocks := rfl
@[simp] theorem drawOrder_bandIndex : s.drawOrder.bandIndex = s.bandIndex := rfl
@[simp] theorem drawOrder_channels : s.drawOrder.channels = s.channels := rfl
@[simp] theorem drawOrder_rates : s.drawOrder.rates = s.rates := rfl
@[simp] theorem drawOrder_converter : s.drawOrder.converter = s.converter := rfl
@[simp] theorem drawOrder_locks : s.drawOrder.locks = s.locks := rfl
@[simp] theorem drawOrder_engines : s.drawOrder.engines = s.engines := rfl
@[simp] theorem drawOrder_alloc : s.drawOrder.alloc = s.alloc := rfl
@[simp] theorem drawOrder_drive : s.drawOrder.drive = s.drive := rfl
@[simp] theorem drawOrder_fan : s.drawOrder.fan = s.fan := rfl
@[simp] theorem drawOrder_sup : s.drawOrder.sup = s.sup := rfl
@[simp] theorem drawOrder_events : s.drawOrder.events = s.events := rfl
@[simp] theorem drawOrder_link : s.drawOrder.link = s.link := rfl
@[simp] theorem drawOrder_pins : s.drawOrder.pins = s.pins := rfl
@[simp] theorem drawOrder_clock : s.drawOrder.clock = s.clock := rfl
@[simp] theorem drawOrder_pending : s.drawOrder.pending = s.pending := rfl

@[simp] theorem drawOrder_draws : s.drawOrder.draws = s.draws + 1 := rfl
@[simp] theorem drawOrder_order : s.drawOrder.order = Config.arrivalOrder s.draws := rfl

end Sys2Proof.Machine.State
end

