-- ==== Sys2Proof/Laws/Quiet.lean ====
section
/-!
SUPPORT. What every operation that follows an event leaves alone: the tables, the measurements, the line, the pins, the
clocks, the waiting commands, and of the window everything but withdrawals. One lemma per shared operation.
-/

namespace Sys2Proof.Machine

open Sys2Proof

/-- What the operations that follow an event leave as it was. Records join the outbox, TRIP and readiness stay once
they are there, and a grant made stays made. -/
structure Quiet (s t : State) : Prop where
  tables : t.tables = s.tables
  channels : t.channels = s.channels
  rates : t.rates = s.rates
  converter : t.converter = s.converter
  link : t.link = s.link
  pins : t.pins = s.pins
  clock : t.clock = s.clock
  order : t.order = s.order
  draws : t.draws = s.draws
  pending : t.pending = s.pending
  queue : t.events.queue = s.events.queue
  outbox : s.events.outbox <+: t.events.outbox
  walkPos : t.drive.walkPos = s.drive.walkPos
  trip : s.sup.trip = true → t.sup.trip = true
  ready : s.sup.readiness = true → t.sup.readiness = true
  budget : t.alloc.budgetInForce = s.alloc.budgetInForce
  lead : t.alloc.lead = s.alloc.lead
  slot : t.alloc.slot = s.alloc.slot
  slotElapsed : t.alloc.slotElapsed = s.alloc.slotElapsed
  planRatings : t.alloc.planRatings = s.alloc.planRatings
  slotUse : t.alloc.slotUse = s.alloc.slotUse
  made : ∀ e, (t.alloc.grants.get e).made = (s.alloc.grants.get e).made

namespace Quiet

variable {s t u : State}

theorem refl (s : State) : Quiet s s :=
  ⟨rfl, rfl, rfl, rfl, rfl, rfl, rfl, rfl, rfl, rfl, rfl, List.prefix_refl _, rfl, id, id, rfl, rfl, rfl, rfl,
    rfl, rfl, fun _ => rfl⟩

theorem trans (h : Quiet s t) (k : Quiet t u) : Quiet s u :=
  ⟨k.tables.trans h.tables, k.channels.trans h.channels, k.rates.trans h.rates,
    k.converter.trans h.converter, k.link.trans h.link, k.pins.trans h.pins, k.clock.trans h.clock,
    k.order.trans h.order, k.draws.trans h.draws, k.pending.trans h.pending, k.queue.trans h.queue,
    h.outbox.trans k.outbox, k.walkPos.trans h.walkPos, fun x => k.trip (h.trip x),
    fun x => k.ready (h.ready x), k.budget.trans h.budget, k.lead.trans h.lead, k.slot.trans h.slot,
    k.slotElapsed.trans h.slotElapsed, k.planRatings.trans h.planRatings, k.slotUse.trans h.slotUse,
    fun e => (k.made e).trans (h.made e)⟩

/-! ## Writing one part -/

theorem tableLock (s : State) (c : Cavity) (x : Bool) : Quiet s (s.setTableLock c x) :=
  ⟨rfl, rfl, rfl, rfl, rfl, rfl, rfl, rfl, rfl, rfl, rfl, List.prefix_refl _, rfl, id, id, rfl, rfl, rfl, rfl,
    rfl, rfl, fun _ => rfl⟩

theorem bandIndex (s : State) (c : Cavity) (i : BandIndex) : Quiet s (s.setBandIndex c i) :=
  ⟨rfl, rfl, rfl, rfl, rfl, rfl, rfl, rfl, rfl, rfl, rfl, List.prefix_refl _, rfl, id, id, rfl, rfl, rfl, rfl,
    rfl, rfl, fun _ => rfl⟩

theorem lock (s : State) (c : Cavity) (l : LockCtl) : Quiet s (s.setLock c l) :=
  ⟨rfl, rfl, rfl, rfl, rfl, rfl, rfl, rfl, rfl, rfl, rfl, List.prefix_refl _, rfl, id, id, rfl, rfl, rfl, rfl,
    rfl, rfl, fun _ => rfl⟩

theorem engine (s : State) (c : Cavity) (e : Engine) : Quiet s (s.setEngine c e) :=
  ⟨rfl, rfl, rfl, rfl, rfl, rfl, rfl, rfl, rfl, rfl, rfl, List.prefix_refl _, rfl, id, id, rfl, rfl, rfl, rfl,
    rfl, rfl, fun _ => rfl⟩

theorem modEngine (s : State) (c : Cavity) (f : Engine → Engine) : Quiet s (s.modEngine c f) := engine ..

theorem fan (s : State) (x : Fan) : Quiet s (s.setFan x) :=
  ⟨rfl, rfl, rfl, rfl, rfl, rfl, rfl, rfl, rfl, rfl, rfl, List.prefix_refl _, rfl, id, id, rfl, rfl, rfl, rfl,
    rfl, rfl, fun _ => rfl⟩

theorem drive (s : State) (x : Drive) (h : x.walkPos = s.drive.walkPos) : Quiet s (s.setDrive x) :=
  ⟨rfl, rfl, rfl, rfl, rfl, rfl, rfl, rfl, rfl, rfl, rfl, List.prefix_refl _, h, id, id, rfl, rfl, rfl, rfl,
    rfl, rfl, fun _ => rfl⟩

theorem relay (s : State) (r : Relay) (x : RelayEntry) : Quiet s (s.setRelay r x) :=
  ⟨rfl, rfl, rfl, rfl, rfl, rfl, rfl, rfl, rfl, rfl, rfl, List.prefix_refl _, rfl, id, id, rfl, rfl, rfl, rfl,
    rfl, rfl, fun _ => rfl⟩

theorem sup (s : State) (x : Sup) (ht : s.sup.trip = true → x.trip = true)
    (hr : s.sup.readiness = true → x.readiness = true) : Quiet s (s.setSup x) :=
  ⟨rfl, rfl, rfl, rfl, rfl, rfl, rfl, rfl, rfl, rfl, rfl, List.prefix_refl _, rfl, ht, hr, rfl, rfl, rfl, rfl,
    rfl, rfl, fun _ => rfl⟩

theorem post (s : State) (b : Block) (x : EventBody) : Quiet s (s.post b x) :=
  ⟨rfl, rfl, rfl, rfl, rfl, rfl, rfl, rfl, rfl, rfl, rfl, List.prefix_append _ _, rfl, id, id, rfl, rfl, rfl,
    rfl, rfl, rfl, fun _ => rfl⟩

/-! ## Folding and branching -/

theorem forEach {α : Type} (l : List α) (op : α → State → State) (h : ∀ x s, Quiet s (op x s))
    (s : State) : Quiet s (Machine.forEach l op s) := by
  induction l generalizing s with
  | nil => exact refl s
  | cons x xs ih => exact (h x s).trans (ih (op x s))

theorem onlyIf (p : Bool) (op : State → State) (h : ∀ s, Quiet s (op s)) (s : State) :
    Quiet s (Machine.onlyIf p op s) := by
  unfold Machine.onlyIf
  split
  · exact h s
  · exact refl s

/-! ## Locks -/

theorem postNotice (c : Cavity) (n : LockNotice) (s : State) : Quiet s (s.postNotice c n) := by
  unfold State.postNotice
  split
  · exact post ..
  · exact refl s

theorem applyLock (c : Cavity) (x : LockStep) (s : State) : Quiet s (s.applyLock c x) :=
  (lock s c x.lock).trans (forEach _ _ (fun n s => postNotice c n s) _)

theorem askLock (c : Cavity) (w : Bool) (q : LockRequest) (s : State) : Quiet s (s.askLock c w q).1 :=
  applyLock ..

/-! ## Relays, grants, fan -/

theorem judgeExpected (r : Relay) (s : State) : Quiet s (State.judgeExpected r s) := by
  unfold State.judgeExpected
  dsimp only
  split
  · exact refl s
  · split <;> exact relay ..

theorem judgeAllExpected (s : State) : Quiet s s.judgeAllExpected := forEach _ _ judgeExpected s

theorem setDriveState (e : Element) (on : Bool) (s : State) : Quiet s (s.setDriveState e on) :=
  (drive s { s.drive with driveState := s.drive.driveState.set e on } rfl).trans (judgeExpected ..)

/-- A withdrawal touches one element's grants in the allocator, and nothing else of it. -/
theorem withdraw (e : Element) (s : State) : Quiet s (s.withdraw e) := by
  unfold State.withdraw
  split
  · exact refl s
  · dsimp only
    split
    · refine trans (t := s.setAlloc _) ?_ (setDriveState ..)
      refine ⟨rfl, rfl, rfl, rfl, rfl, rfl, rfl, rfl, rfl, rfl, rfl, List.prefix_refl _, rfl, id, id, rfl, rfl,
        rfl, rfl, rfl, rfl, fun e' => ?_⟩
      by_cases h : e' = e
      · subst h
        simp
      · simp [h]
    · exact refl s

theorem reviewElement (e : Element) (s : State) : Quiet s (State.reviewElement e s) := by
  unfold State.reviewElement
  split
  · exact refl s
  · exact withdraw ..

theorem review (s : State) : Quiet s s.review := forEach _ _ reviewElement s

theorem withdrawCavity (c : Cavity) (s : State) : Quiet s (s.withdrawCavity c) := forEach _ _ withdraw s

theorem fanSync (s : State) : Quiet s s.fanSync := fan ..

theorem announce (s : State) : Quiet s s.announce := (review s).trans (fanSync _)

/-! ## Engines -/

theorem toIdle (c : Cavity) (r : CycleResult) (k : Condition) (s : State) : Quiet s (s.toIdle c r k) :=
  (((modEngine s c _).trans (tableLock _ c false)).trans (post ..)).trans (announce _)

theorem judgeSafeCool (c : Cavity) (s : State) : Quiet s (s.judgeSafeCool c) := by
  unfold State.judgeSafeCool
  dsimp only
  split
  · exact toIdle ..
  · exact refl s

theorem abortAsk (c : Cavity) (s : State) : Quiet s (s.abortAsk c) := by
  unfold State.abortAsk
  split <;> first | exact askLock .. | exact refl s

theorem abortRecord (c : Cavity) (k : Condition) (s : State) : Quiet s (s.abortRecord c k) := by
  unfold State.abortRecord
  dsimp only
  split
  · exact post ..
  · exact refl s

theorem abortCycle (c : Cavity) (k : Condition) (s : State) : Quiet s (State.abortCycle c k s) := by
  unfold State.abortCycle
  split
  · exact ((((abortRecord c k s).trans (modEngine ..)).trans (announce _)).trans (abortAsk c _)).trans
      ((announce _).trans (judgeSafeCool c _))
  · exact refl s

theorem complete (c : Cavity) (s : State) : Quiet s (State.complete c s) := toIdle ..

theorem hold (c : Cavity) (s : State) : Quiet s (State.hold c s) := (modEngine ..).trans (announce _)

theorem noteBusy (c : Cavity) (a : LockAnswer) (s : State) : Quiet s (State.noteBusy c a s) := modEngine ..

theorem askEngage (c : Cavity) (s : State) : Quiet s (s.askEngage c).1 :=
  (askLock ..).trans (noteBusy ..)

theorem entryAsk (c : Cavity) (r : SegmentRecord) (s : State) : Quiet s (State.entryAsk c r s).1 := by
  unfold State.entryAsk
  split
  · exact askEngage c s
  · exact askLock ..
  · exact refl s

theorem enterSegment (c : Cavity) (i : Nat) (r : SegmentRecord) (s : State) :
    Quiet s (State.enterSegment c i r s).1 :=
  ((modEngine ..).trans (entryAsk c r _)).trans (announce _)

theorem postDone (c : Cavity) (i : Nat) (s : State) : Quiet s (State.postDone c i s) := post ..

theorem runFrom (c : Cavity) (l : List SegmentRecord) (i : Nat) (s : State) :
    Quiet s (State.runFrom c l i s) := by
  induction l generalizing i s with
  | nil => exact refl s
  | cons r rest ih =>
    unfold State.runFrom
    dsimp only
    have h := enterSegment c i r s
    split
    · exact h
    · split
      · exact (h.trans (postDone ..)).trans (complete ..)
      · split
        · exact (h.trans (postDone ..)).trans (hold ..)
        · exact (h.trans (postDone ..)).trans (ih _ _)
    · exact h.trans (abortCycle ..)

theorem endDone (c : Cavity) (i : Nat) (s : State) : Quiet s (State.endDone c i s) := by
  unfold State.endDone
  dsimp only
  split
  · exact (postDone c i s).trans (complete ..)
  · split
    · exact (postDone c i s).trans (hold ..)
    · exact (postDone c i s).trans (runFrom ..)

theorem judge (c : Cavity) (k : State.Causes) (s : State) : Quiet s (State.judge c k s) := by
  unfold State.judge
  split
  · split
    · split
      · exact refl s
      · exact endDone ..
      · exact abortCycle ..
    · exact refl s
  · split
    · exact abortCycle ..
    · exact refl s
  · split
    · exact abortCycle ..
    · exact refl s
  · exact refl s

theorem onLockChanged (c : Cavity) (a b : LockState) (s : State) :
    Quiet s (State.onLockChanged c a b s) := by
  unfold State.onLockChanged
  split
  · exact judgeSafeCool ..
  · exact refl s
  · split
    · split
      · exact ((askEngage c s).trans (announce _)).trans (judge ..)
      · exact judge ..
    · exact judge ..

theorem onLockNotice (c : Cavity) (n : LockNotice) (s : State) : Quiet s (State.onLockNotice c n s) := by
  unfold State.onLockNotice
  split
  · exact onLockChanged ..
  · exact judge ..
  · exact judge ..
  · split
    · exact judge ..
    · exact refl s
  · exact refl s

theorem runningWork (c : Cavity) (s : State) : Quiet s (State.runningWork c s) := by
  unfold State.runningWork
  split
  · exact modEngine ..
  · exact refl s

theorem holdWork (c : Cavity) (s : State) : Quiet s (State.holdWork c s) := by
  unfold State.holdWork
  dsimp only
  split
  · exact (modEngine s c _).trans (abortCycle ..)
  · exact modEngine ..

theorem tickEngine (c : Cavity) (s : State) : Quiet s (State.tickEngine c s) := by
  unfold State.tickEngine
  dsimp only
  have h := modEngine s c State.countTick
  split
  · exact (h.trans (runningWork c _)).trans (judge ..)
  · exact h.trans (holdWork ..)
  · exact h.trans (holdWork ..)
  · exact h

/-! ## The Supervisor and the relay test -/

theorem recomputeEnable (s : State) : Quiet s s.recomputeEnable :=
  (sup s { s.sup with driveEnable := s.driveEnableNow } id id).trans (judgeAllExpected _)

theorem recomputeInhibit (s : State) : Quiet s s.recomputeInhibit :=
  (sup s { s.sup with inhibit := s.inhibitNow } id id).trans (review _)

theorem recompute (s : State) : Quiet s s.recompute := (recomputeEnable s).trans (recomputeInhibit _)

theorem systemAbort (s : State) : Quiet s s.systemAbort :=
  forEach _ _ (fun c s => abortCycle c .system s) s

theorem systemFault (s : State) : Quiet s s.systemFault := (recompute s).trans (systemAbort _)

theorem setOverheat (c : Cavity) (x : Bool) (t : Timer) (s : State) : Quiet s (State.setOverheat c x t s) :=
  sup s _ id id

theorem judgeReady (s : State) : Quiet s s.judgeReady := by
  unfold State.judgeReady
  split
  · exact refl s
  · split
    · exact ((sup s { s.sup with readiness := true } id fun _ => rfl).trans (post ..)).trans (recompute _)
    · exact refl s

theorem followMismatch (r : Relay) (s : State) : Quiet s (State.followMismatch r s) := by
  unfold State.followMismatch
  dsimp only
  split
  · split
    · exact refl s
    · split
      · exact relay ..
      · split
        · exact relay ..
        · exact refl s
  · exact refl s

theorem stopTimers (r : Relay) (s : State) : Quiet s (State.stopTimers r s) := relay ..

theorem restartSettle (r : Relay) (s : State) : Quiet s (State.restartSettle r s) := by
  unfold State.restartSettle
  split
  · exact relay ..
  · exact refl s

theorem restartAllSettle (s : State) : Quiet s s.restartAllSettle := forEach _ _ restartSettle s

theorem setTest (t : RelayTest) (s : State) : Quiet s (s.setTest t) := drive s _ rfl

theorem setTestDrive (r : Relay) (on : Bool) (s : State) : Quiet s (State.setTestDrive r on s) := relay ..

theorem startStep (s : State) : Quiet s s.startStep := by
  unfold State.startStep
  dsimp only
  split
  · exact refl s
  · exact (setTest ..).trans (setTestDrive ..)

theorem beginTest (o : TestOrigin) (s : State) : Quiet s (State.beginTest o s) :=
  (((setTest ..).trans (forEach _ _ stopTimers _)).trans (review _)).trans (startStep _)

theorem testDrivesOff (s : State) : Quiet s s.testDrivesOff :=
  forEach _ _ (fun r s => setTestDrive r false s) s

theorem abandonTest (s : State) : Quiet s s.abandonTest := by
  unfold State.abandonTest
  split
  · exact ((setTest ..).trans (testDrivesOff _)).trans (restartAllSettle _)
  · exact refl s

theorem assertTrip (s : State) : Quiet s s.assertTrip := by
  unfold State.assertTrip
  split
  · exact refl s
  · exact ((((sup s { s.sup with trip := true } (fun _ => rfl) id).trans (post ..)).trans
      (abandonTest _)).trans (systemFault _)).trans (fanSync _)

theorem weldedLatched (s : State) : Quiet s s.weldedLatched := by
  unfold State.weldedLatched
  dsimp only
  split
  · exact (systemFault s).trans (assertTrip _)
  · exact systemFault s

theorem judgeOverheat (c : Cavity) (f : Int) (s : State) : Quiet s (State.judgeOverheat c f s) := by
  unfold State.judgeOverheat
  split
  · split
    · split
      · exact setOverheat ..
      · exact refl s
    · exact ((post ..).trans (setOverheat ..)).trans (systemFault _)
  · exact setOverheat ..

theorem judgeRunawayOn (u : SlotUse) (c : Cavity) (s : State) : Quiet s (State.judgeRunawayOn u c s) := by
  unfold State.judgeRunawayOn
  split
  · split
    · exact ((sup s { s.sup with runaway := s.sup.runaway.set c true } id id).trans (post ..)).trans
        (systemFault _)
    · exact refl s
  · exact refl s

theorem judgeRunaway (c : Cavity) (s : State) : Quiet s (State.judgeRunaway c s) := judgeRunawayOn ..

/-! ## What is made known -/

theorem markAdopted (c : Cavity) (s : State) : Quiet s (State.markAdopted c s) :=
  (sup s { s.sup with adopted := s.sup.adopted.set c true } id id).trans (judgeReady _)

theorem carryNotice (c : Cavity) (n : LockNotice) (s : State) : Quiet s (State.carryNotice c n s) := by
  unfold State.carryNotice
  refine trans ?_ (onLockNotice c n _)
  split
  · exact withdrawCavity ..
  · exact markAdopted ..
  · exact refl s

theorem lockEvent (c : Cavity) (x : LockStep) (s : State) : Quiet s (State.lockEvent c x s) :=
  ((applyLock c x s).trans (review _)).trans (forEach _ _ (carryNotice c) _)

theorem bandReaderActs (c : Cavity) (r : State.BandReader) (s : State) :
    Quiet s (State.bandReaderActs c r s) := by
  cases r with
  | allocator => exact review s
  | fan => exact fanSync s
  | lock => exact lockEvent ..

theorem bandKnown (c : Cavity) (s : State) : Quiet s (State.bandKnown c s) :=
  forEach _ _ (bandReaderActs c) s

theorem takeBand (c : Cavity) (i : BandIndex) (s : State) : Quiet s (State.takeBand c i s) := by
  unfold State.takeBand
  split
  · exact refl s
  · exact (bandIndex s c i).trans (bandKnown ..)

theorem bandReads (c : Cavity) (old : ChannelState) (s : State) : Quiet s (State.bandReads c old s) := by
  unfold State.bandReads
  dsimp only
  split
  · split
    · split <;> exact takeBand ..
    · exact refl s
  · exact takeBand ..

theorem raisePeak (c : Cavity) (s : State) : Quiet s (State.raisePeak c s) := by
  unfold State.raisePeak
  split
  · split
    · exact modEngine ..
    · exact refl s
  · exact refl s

theorem markMeasured (ch : Channel) (s : State) : Quiet s (State.markMeasured ch s) := by
  unfold State.markMeasured
  split
  · exact refl s
  · exact (sup s { s.sup with measured := s.sup.measured.set ch true } id id).trans (judgeReady _)

theorem supReadsF (c : Cavity) (newF : Bool) (s : State) : Quiet s (State.supReadsF c newF s) := by
  unfold State.supReadsF
  split
  · split
    · exact judgeOverheat ..
    · exact refl s
  · exact refl s

theorem supReadsFront (old : ChannelState) (s : State) : Quiet s (State.supReadsFront old s) := by
  unfold State.supReadsFront
  split
  · exact systemFault s
  · exact recompute s

theorem fanReadsFront (newF : Bool) (s : State) : Quiet s (State.fanReadsFront newF s) := by
  unfold State.fanReadsFront
  split
  · split
    · exact ((fan ..).trans (fanSync _)).trans (recompute _)
    · exact fanSync s
  · exact fanSync s

theorem readerActs (k : State.ChannelChange) (r : State.Reader) (s : State) :
    Quiet s (State.readerActs k r s) := by
  unfold State.readerActs
  split
  · exact bandReads ..
  · exact (onlyIf _ _ (raisePeak _) s).trans (judge ..)
  · exact (markMeasured ..).trans (supReadsF ..)
  · exact review s
  · exact judge ..
  · exact markMeasured ..
  · exact fanReadsFront ..
  · exact (markMeasured ..).trans (supReadsFront ..)
  · exact refl s

theorem channelKnown (k : State.ChannelChange) (s : State) : Quiet s (State.channelKnown k s) :=
  forEach _ _ (readerActs k) s

end Quiet

end Sys2Proof.Machine
end

