-- ==== Sys2Proof/Laws/Commands.lean ====
section
/-!
SUPPORT. What the ends of a command do: delivery of its records, the close, the taking of a channel entry, and the
acceptance of a request.
-/

namespace Sys2Proof.Machine

open Sys2Proof

namespace State

/-! ## Records on their way to the queue -/

/-- Everything but the Event Queue and EVENTS_LOST is as it was. -/
structure QueueOnly (s t : State) : Prop where
  rest : t = { s with events := t.events, link := { s.link with eventsLost := t.link.eventsLost } }
  short : s.events.queue.length ≤ 16 → t.events.queue.length ≤ 16
  outbox : t.events.outbox = s.events.outbox
  lost : s.link.eventsLost = true → t.link.eventsLost = true

theorem QueueOnly.refl (s : State) : QueueOnly s s := ⟨rfl, id, rfl, id⟩

theorem QueueOnly.trans {s t u : State} (h : QueueOnly s t) (k : QueueOnly t u) : QueueOnly s u := by
  refine ⟨?_, fun x => k.short (h.short x), k.outbox.trans h.outbox, fun x => k.lost (h.lost x)⟩
  rw [k.rest, h.rest]

theorem enqueue_only (r : EventRecord) (s : State) : QueueOnly s (s.enqueue r) := by
  unfold enqueue
  split
  · refine ⟨rfl, fun _ => ?_, rfl, id⟩
    simp only [setEvents_events, List.length_append, List.length_cons, List.length_nil]
    omega
  · exact ⟨rfl, id, rfl, fun _ => rfl⟩

theorem enqueueAll_only (l : List EventRecord) (s : State) : QueueOnly s (forEach l enqueue s) := by
  induction l generalizing s with
  | nil => exact QueueOnly.refl s
  | cons r rest ih => exact (enqueue_only r s).trans (ih _)

/-- Delivery empties the outbox and touches nothing but the Event Queue and EVENTS_LOST (R169). -/
theorem deliverRecords_only (s : State) :
    QueueOnly (s.setEvents { s.events with outbox := [] }) s.deliverRecords := enqueueAll_only ..

@[simp] theorem deliverRecords_outbox (s : State) : s.deliverRecords.events.outbox = [] :=
  (deliverRecords_only s).outbox

/-- The close of a command: all but the queue, EVENTS_LOST and the open orders is as it was. -/
theorem close_rest (s : State) :
    s.close = { s with
      events := s.close.events
      link := { s.link with eventsLost := s.close.link.eventsLost }
      order := Config.arrivalOrder s.draws
      draws := s.draws + 1 } := by
  have h := (deliverRecords_only s).rest
  show drawOrder s.deliverRecords = _
  conv_lhs => rw [h]
  rfl

theorem close_short (s : State) (h : s.events.queue.length ≤ 16) : s.close.events.queue.length ≤ 16 :=
  (deliverRecords_only s).short h

@[simp] theorem close_outbox (s : State) : s.close.events.outbox = [] := deliverRecords_outbox s

@[simp] theorem close_tables (s : State) : s.close.tables = s.tables := by rw [close_rest]
@[simp] theorem close_tableLocks (s : State) : s.close.tableLocks = s.tableLocks := by rw [close_rest]
@[simp] theorem close_bandIndex (s : State) : s.close.bandIndex = s.bandIndex := by rw [close_rest]
@[simp] theorem close_channels (s : State) : s.close.channels = s.channels := by rw [close_rest]
@[simp] theorem close_rates (s : State) : s.close.rates = s.rates := by rw [close_rest]
@[simp] theorem close_converter (s : State) : s.close.converter = s.converter := by rw [close_rest]
@[simp] theorem close_locks (s : State) : s.close.locks = s.locks := by rw [close_rest]
@[simp] theorem close_engines (s : State) : s.close.engines = s.engines := by rw [close_rest]
@[simp] theorem close_alloc (s : State) : s.close.alloc = s.alloc := by rw [close_rest]
@[simp] theorem close_drive (s : State) : s.close.drive = s.drive := by rw [close_rest]
@[simp] theorem close_fan (s : State) : s.close.fan = s.fan := by rw [close_rest]
@[simp] theorem close_sup (s : State) : s.close.sup = s.sup := by rw [close_rest]
@[simp] theorem close_pins (s : State) : s.close.pins = s.pins := by rw [close_rest]
@[simp] theorem close_clock (s : State) : s.close.clock = s.clock := by rw [close_rest]
@[simp] theorem close_pending (s : State) : s.close.pending = s.pending := by rw [close_rest]
@[simp] theorem close_draws (s : State) : s.close.draws = s.draws + 1 := by rw [close_rest]

/-- With no record on its way, a close draws the next orders alone. -/
theorem close_empty (s : State) (h : s.events.outbox = []) : s.close = s.drawOrder := by
  have e : s.setEvents { s.events with outbox := [] } = s := by
    show ({ s with events := { s.events with outbox := [] } } : State) = s
    rw [← h]
  unfold close deliverRecords
  rw [h, e]
  rfl

/-! ## A channel entry -/

/-- Taking a channel entry writes the entry and, for a cavity channel, its rate history; everything else that follows
is what the readers do (R13, R28, R30). -/
theorem takeEntry_quiet (ch : Channel) (new : ChannelEntry) (newF : Bool) (s : State) :
    Quiet
      (match ch with
        | .cav c => (s.setChannel ch new).setRate c (rateAfter (s.channel ch) new (s.rateOf c))
        | _ => s.setChannel ch new)
      (takeEntry ch new newF s) := by
  unfold takeEntry
  cases ch <;> dsimp only <;> split <;> first | exact Quiet.channelKnown .. | exact Quiet.refl _

theorem takeEntry_channels (ch : Channel) (new : ChannelEntry) (newF : Bool) (s : State) :
    (takeEntry ch new newF s).channels = s.channels.set ch new := by
  rw [(takeEntry_quiet ch new newF s).channels]
  cases ch <;> rfl

theorem takeEntry_tables (ch : Channel) (new : ChannelEntry) (newF : Bool) (s : State) :
    (takeEntry ch new newF s).tables = s.tables := by
  rw [(takeEntry_quiet ch new newF s).tables]
  cases ch <;> rfl

theorem takeEntry_converter (ch : Channel) (new : ChannelEntry) (newF : Bool) (s : State) :
    (takeEntry ch new newF s).converter = s.converter := by
  rw [(takeEntry_quiet ch new newF s).converter]
  cases ch <;> rfl

theorem takeEntry_pending (ch : Channel) (new : ChannelEntry) (newF : Bool) (s : State) :
    (takeEntry ch new newF s).pending = s.pending := by
  rw [(takeEntry_quiet ch new newF s).pending]
  cases ch <;> rfl

/-! ## The acceptance of a request -/

/-- In LINE_FAULT a request does not arrive (R171). -/
theorem serve_dead {finish : State → State} {widths : List Nat} {payload : List Byte}
    {owner : Fields → State → State × Answer} {s : State} (h : s.lineDead = true) :
    serve finish widths payload owner s = s := by simp [serve, h]

/-- A payload that cannot be read as the request's fields is refused with LENGTH (R175, R183). -/
theorem serve_length {finish : State → State} {widths : List Nat} {payload : List Byte}
    {owner : Fields → State → State × Answer} {s : State} (h : s.lineDead = false)
    (hf : readFields widths payload = none) :
    serve finish widths payload owner s = s.endOfFrame.sendReply (refuse .length) := by
  simp [serve, h, hf]

/-- A readable payload is handed to the owner (R175). -/
theorem serve_fields {finish : State → State} {widths : List Nat} {payload : List Byte}
    {owner : Fields → State → State × Answer} {s : State} {f : Fields} (h : s.lineDead = false)
    (hf : readFields widths payload = some f) :
    serve finish widths payload owner s
      = (finish (owner f s.endOfFrame).1).sendReply (owner f s.endOfFrame).2 := by
  simp [serve, h, hf]

/-- The end of a frame touches the link alone (R173, R177). -/
theorem endOfFrame_rest (s : State) : s.endOfFrame = { s with link := s.endOfFrame.link } := by
  unfold endOfFrame edgeOnLine
  dsimp only
  split <;> rfl

/-- The link at the end of a frame: the receiver in WAIT_BREAK, and a sample reply that waits has collided. -/
theorem endOfFrame_link (s : State) :
    s.endOfFrame.link = { s.link with
      receiver := .waitBreak
      transmitter := if s.link.transmitter = .waitingSample then .idle else s.link.transmitter
      collisionSeen := s.link.collisionSeen || decide (s.link.transmitter = .waitingSample) } := by
  unfold endOfFrame edgeOnLine
  dsimp only
  split <;> rename_i h <;> simp [h, setLink]

/-- A reply touches the link alone (R176, R178). -/
theorem sendReply_rest (a : Answer) (s : State) :
    s.sendReply a = { s with link := (s.sendReply a).link } := rfl

end State

end Sys2Proof.Machine
end

