-- ==== Sys2Proof/Laws/PerInstr.lean ====
section
/-!
SUPPORT. Claims for all commands, made per command: the payload of a well-formed request fits its frame (R173).
-/

/-- A well-formed command carries at most 24 payload bytes (R173). -/
def Sys2Proof.Laws.PayloadFits.Statement (i : Sys2Proof.Instr) : Prop :=
  i.wellFormed = true → i.payload.length ≤ 24

namespace Sys2Proof.Laws.PayloadFits

/-- The check on a payload says that it has at most 24 bytes. -/
theorem fits {p : List Byte} (h : payloadFits p = true) : p.length ≤ 24 := of_decide_eq_true h

theorem identify (payload : List Byte) : Statement (.identify payload) := fun h => fits h
theorem cavityStatus (payload : List Byte) : Statement (.cavityStatus payload) := fun h => fits h
theorem plantStatus (payload : List Byte) : Statement (.plantStatus payload) := fun h => fits h
theorem readOutcome (payload : List Byte) : Statement (.readOutcome payload) := fun h => fits h
theorem readEvents (payload : List Byte) : Statement (.readEvents payload) := fun h => fits h
theorem writeBand (payload : List Byte) : Statement (.writeBand payload) := fun h => fits h
theorem readBand (payload : List Byte) : Statement (.readBand payload) := fun h => fits h
theorem setElement (payload : List Byte) : Statement (.setElement payload) := fun h => fits h
theorem setBudget (payload : List Byte) : Statement (.setBudget payload) := fun h => fits h
theorem freeze (payload : List Byte) : Statement (.freeze payload) := fun h => fits h
theorem appendSegment (payload : List Byte) : Statement (.appendSegment payload) := fun h => fits h
theorem replaceSegment (payload : List Byte) : Statement (.replaceSegment payload) := fun h => fits h
theorem readSegment (payload : List Byte) : Statement (.readSegment payload) := fun h => fits h
theorem clearProgram (payload : List Byte) : Statement (.clearProgram payload) := fun h => fits h
theorem start (payload : List Byte) : Statement (.start payload) := fun h => fits h
theorem pause (payload : List Byte) : Statement (.pause payload) := fun h => fits h
theorem resume (payload : List Byte) : Statement (.resume payload) := fun h => fits h
theorem step (payload : List Byte) : Statement (.step payload) := fun h => fits h
theorem abort (payload : List Byte) : Statement (.abort payload) := fun h => fits h
theorem allStop (broadcast : Bool) (payload : List Byte) : Statement (.allStop broadcast payload) := by
  intro h
  cases broadcast
  · exact fits h
  · have e : payload = [] := List.isEmpty_iff.mp h
    simp [Instr.payload, e]
theorem lock (payload : List Byte) : Statement (.lock payload) := fun h => fits h
theorem unlock (payload : List Byte) : Statement (.unlock payload) := fun h => fits h
theorem clear (payload : List Byte) : Statement (.clear payload) := fun h => fits h
theorem relayTest (payload : List Byte) : Statement (.relayTest payload) := fun h => fits h
theorem sample (payload : List Byte) : Statement (.sample payload) := fun h => fits h
theorem unknownRequest (kind : Byte) (payload : List Byte) : Statement (.unknownRequest kind payload) := fun h => fits (Bool.and_eq_true_iff.mp h).1
theorem frameDiscarded (frame : List Byte) : Statement (.frameDiscarded frame) := fun _ => Nat.zero_le _
theorem lineBreak : Statement .lineBreak := fun _ => Nat.zero_le _
theorem lineFault : Statement .lineFault := fun _ => Nat.zero_le _
theorem collision : Statement .collision := fun _ => Nat.zero_le _
theorem scanConversionComplete (codeRtd codeRef : BitVec 16) : Statement (.scanConversionComplete codeRtd codeRef) := fun _ => Nat.zero_le _
theorem onDemandConversionComplete (codeRtd codeRef : BitVec 16) : Statement (.onDemandConversionComplete codeRtd codeRef) := fun _ => Nat.zero_le _
theorem stalenessTimerExpiry (ch : Channel) : Statement (.stalenessTimerExpiry ch) := fun _ => Nat.zero_le _
theorem rateTimerExpiry (c : Cavity) : Statement (.rateTimerExpiry c) := fun _ => Nat.zero_le _
theorem switchLevelChange (c : Cavity) (sw : Switch) (level : Bool) : Statement (.switchLevelChange c sw level) := fun _ => Nat.zero_le _
theorem motionTimerExpiry (c : Cavity) : Statement (.motionTimerExpiry c) := fun _ => Nat.zero_le _
theorem tick (c : Cavity) : Statement (.tick c) := fun _ => Nat.zero_le _
theorem expired (c : Cavity) : Statement (.expired c) := fun _ => Nat.zero_le _
theorem undershoot (c : Cavity) : Statement (.undershoot c) := fun _ => Nat.zero_le _
theorem stalled (c : Cavity) : Statement (.stalled c) := fun _ => Nat.zero_le _
theorem soakRemainingZero (c : Cavity) : Statement (.soakRemainingZero c) := fun _ => Nat.zero_le _
theorem windowStart : Statement .windowStart := fun _ => Nat.zero_le _
theorem slotStart : Statement .slotStart := fun _ => Nat.zero_le _
theorem refreshVisit : Statement .refreshVisit := fun _ => Nat.zero_le _
theorem senseLevelChange (r : Relay) (closed : Bool) : Statement (.senseLevelChange r closed) := fun _ => Nat.zero_le _
theorem settleTimerExpiry (r : Relay) : Statement (.settleTimerExpiry r) := fun _ => Nat.zero_le _
theorem mismatchTimerExpiry (r : Relay) : Statement (.mismatchTimerExpiry r) := fun _ => Nat.zero_le _
theorem testStepReading : Statement .testStepReading := fun _ => Nat.zero_le _
theorem testStepEnd : Statement .testStepEnd := fun _ => Nat.zero_le _
theorem tachoPulse : Statement .tachoPulse := fun _ => Nat.zero_le _
theorem graceTimerExpiry : Statement .graceTimerExpiry := fun _ => Nat.zero_le _
theorem pulseTimerExpiry : Statement .pulseTimerExpiry := fun _ => Nat.zero_le _
theorem overheatTimerExpiry (c : Cavity) : Statement (.overheatTimerExpiry c) := fun _ => Nat.zero_le _
theorem powerOnReset : Statement .powerOnReset := fun _ => Nat.zero_le _
theorem externalReset : Statement .externalReset := fun _ => Nat.zero_le _
theorem breakEnd : Statement .breakEnd := fun _ => Nat.zero_le _
theorem lineFaultEnd : Statement .lineFaultEnd := fun _ => Nat.zero_le _
theorem pacingCharacter (span : Nat) (stopBitHigh : Bool) : Statement (.pacingCharacter span stopBitHigh) := fun _ => Nat.zero_le _
theorem pacingTimeout : Statement .pacingTimeout := fun _ => Nat.zero_le _
theorem byteGapTimeout : Statement .byteGapTimeout := fun _ => Nat.zero_le _
theorem framingError (cause : FramingCause) : Statement (.framingError cause) := fun _ => Nat.zero_le _

end Sys2Proof.Laws.PayloadFits
end

