-- ==== Sys2Proof/Laws/Timers.lean ====
section
/-!
SUPPORT. When the timers of the part are due: one lemma for each question that an event asks of its timer.
-/

namespace Sys2Proof.Machine

open Sys2Proof

@[simp] theorem isDue_none (limit : Nat) : isDue none limit = false := rfl

@[simp] theorem isDue_some (n limit : Nat) : isDue (some n) limit = decide (limit ≤ n) := rfl

/-- A timer is due where it runs and has reached its limit. -/
theorem isDue_iff {t : Timer} {limit : Nat} : isDue t limit = true ↔ ∃ n, t = some n ∧ limit ≤ n := by
  cases t <;> simp

/-- A timer that has just been started is not due, so that an event of it that still waits changes nothing. -/
theorem isDue_started {limit : Nat} (h : 0 < limit) : isDue (some 0) limit = false := by
  simp [Nat.pos_iff_ne_zero.mp h]

theorem TestStep.readingDue_iff {t : TestStep} :
    t.readingDue = true ↔ t.reading = none ∧ 100 ≤ t.elapsed := by simp [TestStep.readingDue]

theorem TestStep.endDue_iff {t : TestStep} : t.endDue = true ↔ 200 ≤ t.elapsed := by simp [TestStep.endDue]

/-- A millisecond touches the receiver of the link alone, and that only in IN_BREAK (R171). -/
theorem Link.count_rest (k : Link) : k.count = { k with receiver := k.count.receiver } := by
  unfold Link.count
  split <;> rfl

namespace State

theorem motionDue_iff {s : State} {c : Cavity} :
    s.motionDue c = true ↔ ∃ m, (s.lock c).motion = some m ∧ 3000 ≤ m.elapsed := by
  unfold motionDue
  cases (s.lock c).motion <;> simp

theorem windowDue_iff {s : State} :
    s.windowDue = true ↔ s.alloc.slot = none ∨ (s.alloc.slot = some 15 ∧ 1000 ≤ s.alloc.slotElapsed) := by
  simp [windowDue, slotOver]

theorem lineFaultDue_iff {s : State} :
    s.lineFaultDue = true ↔ ∃ low, s.link.receiver = .inBreak low ∧ 200 ≤ low := by
  unfold lineFaultDue lowTimer
  split <;> simp_all

theorem breakHolds_iff {s : State} :
    s.breakHolds = true ↔ ∃ low, s.link.receiver = .inBreak low ∧ low < 200 := by
  unfold breakHolds lineFaultDue lowTimer
  split <;> simp_all

/-- A millisecond adds ten tenths to the low timer where it runs (R171). -/
@[simp] theorem lowTimer_countAll (s : State) : s.countAll.lowTimer = s.lowTimer.map (· + 10) := by
  cases h : s.link.receiver <;> simp [lowTimer, countAll, Link.count, h]

theorem visitDue_iff {s : State} : s.visitDue = true ↔ 2 ≤ s.clock.sinceVisit := by simp [visitDue]

end State

end Sys2Proof.Machine
end

