-- ==== Sys2Proof/Tests/Slice0.lean ====
section
/-!
SUPPORT. The model's own tests: the checks of WellFormed on ill-formed terms, the manual's worked examples, and for
every statement with hypotheses a witness, a concrete state and operands that meet all of them together, clause by
clause at the boundary values of their ranges.
-/

namespace Sys2Proof.Tests

open Sys2Proof Sys2Proof.Machine Sys2Proof.Machine.State Host

/-! ## WellFormed refuses what cannot arrive -/

def long : List Byte := List.replicate 25 0

theorem test_payload_of_25_bytes_refused : (Instr.identify long).wellFormed = false := by decide
theorem test_payload_of_24_bytes_accepted : (Instr.abort (List.replicate 24 0)).wellFormed = true := by decide
theorem test_broadcast_with_payload_refused : (Instr.allStop true [0]).wellFormed = false := by decide
theorem test_unknown_kind_that_names_refused : (Instr.unknownRequest 0x19 []).wellFormed = false := by decide
theorem test_unknown_kind_accepted : (Instr.unknownRequest 0x1A []).wellFormed = true := by decide
theorem test_incomplete_frame_refused : (Instr.frameDiscarded [1, 2, 1, 0]).wellFormed = false := by decide
theorem test_late_span_refused : (Instr.pacingCharacter 5557 true).wellFormed = false := by decide
theorem test_fitting_length_byte_refused : (Instr.framingError (.lengthByte 24)).wellFormed = false := by decide

/-! ## The manual's worked examples -/

/-- Chapter 11, R174: the bytes 01 02 00 give the check 41. -/
theorem test_check_of_R174 : crc8 [0x01, 0x02, 0x00] = 0x41 := by decide +kernel

/-- Section 11.7: CAVITY STATUS for cavity A to node 2. -/
theorem test_frame_of_cavity_status :
    frameCommand 2 [0x02, 0x02, 0x03, 0x01, 0x00, 0x00, crc8 [0x02, 0x02, 0x03, 0x01, 0x00, 0x00]]
      = .cavityStatus [0x01, 0x00, 0x00] := by decide +kernel

/-- Section 2.4, rows 1 and 4 of the worked conversions. -/
theorem test_conversion_3366 : convert 45000 40000 = ⟨.temperature, some 22500, some 3366, none⟩ := by
  decide +kernel
theorem test_conversion_2664 : convert 40000 40000 = ⟨.temperature, some 20000, some 2664, none⟩ := by
  decide +kernel
/-- Section 2.4, row 3: a temperature below zero. -/
theorem test_conversion_below_zero : convert 24000 50000 = ⟨.temperature, some 9600, some (-102), none⟩ := by
  decide +kernel
/-- Section 2.4, rows 5 to 9: the ends of the table and of the classes. -/
theorem test_conversion_ends :
    convert 13999 40000 = ⟨.temperature, some 7000, some (-500), some .under⟩
    ∧ convert 13998 40000 = ⟨.shortCircuit, some 6999, none, none⟩
    ∧ convert 52500 30000 = ⟨.temperature, some 35000, some 6000, some .over⟩
    ∧ convert 52501 30000 = ⟨.openCircuit, some 35001, none, none⟩
    ∧ convert 52501 19999 = ⟨.reference, none, none, none⟩ := by decide +kernel

/-- Section 2.5: the filter from above, from below and under zero. -/
theorem test_filter : filterF 3300 3366 = 3317 ∧ filterF 3310 3300 = 3308 ∧ filterF (-100) (-110) = -102 := by decide

/-- Section 2.6: the worked rate figures and both clamps. -/
theorem test_rate : rateFrom 3366 3340 = 260 ∧ rateFrom 4700 4730 = -300 ∧ rateFrom 4400 3400 = 9990
    ∧ rateFrom 2000 3200 = -9990 := by decide

/-- Section 3.3: the cooling cavity under the default table. -/
theorem test_cooling_cavity :
    evaluate defaultBands (.band 3) 3190 = .band 3 ∧ evaluate defaultBands (.band 3) 3150 = .band 3
    ∧ evaluate defaultBands (.band 3) 3149 = .band 2 ∧ evaluate defaultBands (.band 2) 2480 = .band 2
    ∧ evaluate defaultBands (.band 2) 2449 = .band 1 ∧ evaluate defaultBands (.band 1) 2460 = .band 1 := by decide

/-- Section 3.3: the rise, and the plain lookup at the return to VALID. -/
theorem test_rising_cavity : evaluate defaultBands (.band 2) 3200 = .band 3 ∧ lookup defaultBands 3176 = .band 2 := by
  decide

/-- Section 6.4: two ticks of a RAMP with rate 150 from 310, and the stop of a ramp at its target. -/
theorem test_setpoint_advance :
    let r : RampRecord := ⟨4800, some 150, none, .all, 4, 200⟩
    let e1 := advanceSetpoint r { Engine.reset with setpoint := some 310 }
    e1.setpoint = some 312 ∧ e1.accumulator = 30 ∧ (advanceSetpoint r e1).setpoint = some 315
      ∧ (advanceSetpoint r { e1 with setpoint := some 4799 }).setpoint = some 4800 := by decide

/-- Section 7.1: the worked demands of a SOAK with bias 6 and band 200. -/
theorem test_demands :
    let d := fun f => cavityDemandOf ⟨4800, .all, 6, 200⟩ f
    d 4650 = 16 ∧ d 4700 = 14 ∧ d 4800 = 6 ∧ d 4810 = 5 ∧ d 4850 = 2 ∧ d 4900 = 0
      ∧ catalystDemandOf 3500 3540 = 6 ∧ catalystDemandOf 3500 3680 = 0 := by decide

/-- Section 7.5: the worked allocation under 3600 W with lead A. -/
theorem test_worked_allocation :
    let g := buildPlan 3600 .a ⟨defaultRatings, defaultRatings⟩ ⟨⟨16, 16, 16, 6⟩, ⟨12, 12, 0, 0⟩⟩
    (g.get ⟨.a, .cat⟩).made = [0, 1, 2, 3, 4, 5] ∧ (g.get ⟨.a, .top⟩).made = windowSlots
      ∧ (g.get ⟨.a, .bottom⟩).made = windowSlots ∧ (g.get ⟨.a, .ring⟩).made = []
      ∧ (g.get ⟨.b, .top⟩).made = [6, 7, 8, 9, 10, 11, 12, 13, 14, 15]
      ∧ (g.get ⟨.b, .bottom⟩).made = [0, 1, 2, 3, 4, 5] ∧ (g.get ⟨.b, .ring⟩).made = [] := by decide +kernel

/-! ## States for the witnesses -/

def validAt (x : Int) : ChannelEntry := ⟨.valid, none, some x, some 0, some x, 0, none, 0⟩

def lockOf (st : LockState) (home set : Bool) : LockCtl :=
  { LockCtl.reset with state := st, levels := ⟨some true, some home, some set⟩ }

def movingLock (st : LockState) (m : Motor) (cause : MotionCause) : LockCtl :=
  { lockOf st false false with motor := m, motion := some ⟨cause, 3000⟩ }

/-- The part ready with both engines IDLE: every channel at 100.0 °C, the locks RELEASED behind shut doors. -/
def ready : State :=
  { State.reset with
    channels := .all (validAt 1000)
    bandIndex := .all (.band 1)
    locks := .all (lockOf .released true false)
    sup := { Sup.reset false with
      readiness := true, measured := .all true, adopted := .all true, startupDone := true, driveEnable := true,
      inhibit := ⟨false, false, false, false⟩ }
    drive := { Drive.reset with test := { RelayTest.reset with state := .complete } }
    fan := { Fan.reset false with cavityDemand := .all 1, frontInvalid := 0, level := 1 }
    alloc := { Alloc.reset with slot := some 0 } }

def rampTo (t : Int) : RampRecord := ⟨t, some 50, none, .all, 4, 200⟩
def soakAt (t : Int) : SoakRecord := ⟨t, 3600, 100, none, .all, 4, 200⟩

def withProgram (p : List SegmentRecord) (s : State) : State :=
  { s with tables := { s.tables with programs := ⟨p, []⟩ } }

def withLock (l : LockCtl) (s : State) : State := s.setLock .a l

/-- An engine in a segment, with the greatest counts that still go on. -/
def engineIn (st : EngineState) : Engine :=
  { Engine.reset with
    state := st, segmentIndex := some 1, setpoint := some 1000, ceiling := some 1000, peakF := some 1000,
    cycleSeconds := 4294967294, segmentElapsed := 4294967294, soakSeconds := 4294967294, secondTimer := some 1000 }

/-- Cavity A in a cycle of a program at its first segment, with the lock ENGAGED. -/
def cycle (e : Engine) (p : List SegmentRecord) : State :=
  withLock (lockOf .engaged false true)
    (withProgram p { ready with engines := ⟨e, .reset⟩, tableLocks := ⟨true, false⟩ })

def running (p : List SegmentRecord) : State := cycle (engineIn .running) p

theorem unforced_of (s : State) (c : Cavity) (f : Int) (h1 : s.isValid (.cav c) = true)
    (h2 : s.f (.cav c) = some f) (h3 : (s.engine c).ceiling.all (fun m => decide (f ≤ m)) = true)
    (h4 : (s.lock c).state ≠ .faulted) : s.unforced c f := by
  refine ⟨h1, h2, fun m hm => ?_, h4⟩
  rw [hm] at h3
  simpa using h3

/-- Nothing forces the end of the segment of the running cavity, with F at its ceiling. -/
theorem running_unforced (p : List SegmentRecord) : (running p).unforced .a 1000 :=
  unforced_of _ _ _ rfl rfl rfl nofun

theorem ranOut_of {t : Timer} {limit : Nat} (h : isDue t limit = true) : RanOut t limit := isDue_iff.mp h

theorem not_ranOut_of {t : Timer} {limit : Nat} (h : isDue t limit = false) : ¬ RanOut t limit := fun r =>
  absurd (isDue_iff.mpr r) (by simp [h])

theorem validHasF_of {s : State} (h : (allChannels.all fun ch => !s.isValid ch || (s.f ch).isSome) = true) :
    s.ValidHasF := by
  intro ch hv
  have m : ch ∈ allChannels := by
    match ch with
    | .cav .a | .cav .b | .cat .a | .cat .b | .front => decide
  simpa [hv] using List.all_eq_true.mp h ch m

theorem indexOver_of {s : State}
    (h : (cavities.all fun c => s.isValid (.cav c) || decide (s.bandIndex.get c = .over)) = true) :
    s.IndexOverUnlessValid := by
  intro c hv
  have m : c ∈ cavities := by cases c <;> decide
  simpa [hv] using List.all_eq_true.mp h c m

/-- A state after a command. -/
def after (i : Instr) (s : State) (p : State → Bool) : Bool :=
  match exec i s with
  | .next t => p t
  | _ => false

/-- What the next segment, the second of cavity A's program, needs so that its entry goes on. -/
def nextGoesOn (s : State) (e : Engine) (l : LockCtl) (r : SegmentRecord) : Prop :=
  recordAt (s.program .a) 2 = some r ∧ s.StartsAt .a e 1 1000 1000 ∧ EntryAnswered l r
    ∧ s.GoesOn .a 1000 (entered 2 1000 l.state r e) (askedByEntry (s.policy .a) r l).state r

theorem ready_takes : ready.takesLine ∧ ready.events.outbox = [] ∧ ready.bothIdle = true ∧ ready.testing = false := by
  decide

/-! ## Witnesses: requests that read, tables -/

theorem wit_StatusRequestsOnlyReply_record :
    (running (List.replicate 12 .engage)).takesLine
      ∧ recordAt ((running (List.replicate 12 .engage)).program .a) 12 = some .engage := by decide

/-- Index 0, the index after the last of an empty and of a full program, and the greatest. -/
theorem wit_StatusRequestsOnlyReply_noSuch :
    (ready.program .a).length < 1 ∧ ((running (List.replicate 12 .engage)).program .a).length < 13 ∧ 0 < 256
      ∧ 255 < 256 ∧ ready.takesLine := by decide

theorem wit_ReadEventsTakesFourRecords :
    let s := ready.setEvents ⟨List.replicate 5 ⟨.ready, 0⟩, []⟩
    s.takesLine ∧ s.events.outbox = [] := by decide

/-- The last band at its greatest limit and fan floor, both clamped, on a channel that is VALID. -/
theorem wit_WriteBandStoresRecord_valid :
    let r : BandRecord := ⟨6000, true, .interlock, 3, .all, .hot⟩
    ready.takesLine ∧ ready.tables.frozen = false ∧ ready.tableLocks.get .a = false
      ∧ (ready.engine .a).state = .idle ∧ r.limit = clampInt 32767 0 6000 ∧ r.fanFloor = min 255 3
      ∧ BandsAscend ((ready.bandTable .a).set (3 : Fin 8) r)
      ∧ ready.isValid (.cav .a) = true ∧ ready.f (.cav .a) = some 1000 := by
  refine ⟨by decide, rfl, rfl, rfl, by decide, by decide, ⟨4, by decide, by decide, by decide, by decide⟩, rfl, rfl⟩

/-- The first band at the least limit, on a channel that is not VALID. -/
theorem wit_WriteBandStoresRecord_not_valid :
    let s := State.reset
    let r : BandRecord := ⟨0, true, .free, 0, .empty, .none⟩
    s.takesLine ∧ s.tables.frozen = false ∧ s.tableLocks.get .b = false
      ∧ (s.engine .b).state = .idle ∧ r.limit = clampInt (-32768) 0 6000 ∧ r.fanFloor = min 0 3
      ∧ BandsAscend ((s.bandTable .b).set (0 : Fin 8) r) ∧ s.isValid (.cav .b) = false := by
  refine ⟨by decide, rfl, rfl, rfl, by decide, by decide, ⟨4, by decide, by decide, by decide, by decide⟩, rfl⟩

/-- Band 2 in force under KEEP, with a release that waits, until a write makes it FREE. -/
theorem wit_WriteBandStoresRecord_release :
    let kept : BandRecord := ⟨2500, true, .keep, 1, .all, .none⟩
    let s := withLock { lockOf .engaged false true with releasePending := some .host }
      (ready.setTables { ready.tables with bands := .all (defaultBands.set 1 kept) })
    s.takesLine ∧ (s.engine .a).state = .idle ∧ (s.lock .a).state = .engaged ∧ (s.lock .a).releasePending ≠ none
      ∧ s.policy .a ≠ .free
      ∧ after (.writeBand (bandPayload .a 1 2500 1 ⟨2500, true, .free, 1, .all, .none⟩)) s
          (fun t => decide (t.policy .a = .free)) = true
      ∧ s.ValidHasF :=
  ⟨by decide, by decide, by decide, nofun, by decide, by decide +kernel, validHasF_of rfl⟩

/-- An element that becomes no longer fitted at 9 W, one that becomes fitted at 10 W, and the ends of the budget. -/
theorem wit_PlantSettingsAreStored :
    (ready.takesLine ∧ ready.events.outbox = [] ∧ ready.tables.frozen = false ∧ ready.bothIdle = true
      ∧ 0 < ready.rating ⟨.a, .top⟩ ∧ 9 < 10)
    ∧ (let s := ready.setTables { ready.tables with ratings := .all 0 }
      s.takesLine ∧ s.events.outbox = [] ∧ s.tables.frozen = false ∧ s.bothIdle = true
      ∧ s.rating ⟨.a, .top⟩ = 0 ∧ s.testing = false)
    ∧ 65535 < 65536 ∧ (running [.engage]).bothIdle = false ∧ (running [.engage]).takesLine := by decide

theorem wit_FrozenOrLockedWritesAreRefused_frozen :
    let s := ready.setTables { ready.tables with frozen := true }
    s.takesLine ∧ s.events.outbox = [] ∧ s.tables.frozen = true
      ∧ (readFields writeBandFields [0, 0]).isSome = true ∧ (readFields setElementFields [1, 0, 0]).isSome = true
      ∧ (readFields setBudgetFields [1, 0, 0, 0]).isSome = true := by decide

theorem wit_FrozenOrLockedWritesAreRefused_locked :
    let s := running [.engage]
    s.takesLine ∧ s.events.outbox = [] ∧ s.tables.frozen = false ∧ s.tableLocks.get .a = true := by decide

theorem wit_UnreadableUndefinedAndUnknownAreRefused :
    ready.takesLine ∧ ((0x00 : Byte).toNat = 0 ∨ 25 < (0x00 : Byte).toNat) ∧ 25 < (0x1A : Byte).toNat
      ∧ [1] ≠ ([] : List Nat) ∧ readFields [1] [1, 0] = none ∧ readFields [1, 1] [3, 0, 0] = none
      ∧ readFields writeBandFields [1] = none ∧ readFields setElementFields [3, 0, 0, 0] = none
      ∧ readFields setBudgetFields [1, 0, 0] = none ∧ readFields appendFields [1, 0] = none
      ∧ readFields replaceFields [0, 0, 0] = none := by decide

/-- A payload is read, and its field names none of the codes below a number. -/
def namesNone (widths : List Nat) (p : List Byte) (i n : Nat) : Bool :=
  match readFields widths p with
  | some f => (f.nat i).all fun x => decide (n ≤ x)
  | none => false

theorem namesNone_of {widths : List Nat} {p : List Byte} {i n : Nat} (h : namesNone widths p i n = true) :
    ∃ f, readFields widths p = some f ∧ f.NamesNone i n := by
  unfold namesNone at h
  split at h
  · next f hf =>
    refine ⟨f, hf, fun x hx => ?_⟩
    rw [hx] at h
    simpa using h
  · exact absurd h nofun

/-- The first code that each enumerated field does not have, and each required field left out. -/
theorem wit_UnreadableUndefinedAndUnknownAreRefused_codes :
    (∃ f, readFields [1] [1, 0, 2] = some f ∧ f.NamesNone 0 2)
      ∧ (∃ f, readFields [1] [0, 0] = some f ∧ f.NamesNone 0 2)
      ∧ (∃ f, readFields [1] [1, 0, 5] = some f ∧ f.NamesNone 0 5)
      ∧ (∃ f, readFields [1, 1] [3, 0, 2, 1] = some f ∧ f.NamesNone 0 2)
      ∧ (∃ f, readFields [1, 2] [3, 0, 8, 0, 0] = some f ∧ f.NamesNone 0 8)
      ∧ (∃ f, readFields writeBandFields [0xFF, 0, 2, 1, 0, 0, 0, 0, 0, 0, 0] = some f ∧ f.NamesNone 0 2)
      ∧ (∃ f, readFields writeBandFields [0xFF, 0, 0, 1, 0, 0, 2, 0, 0, 0, 0] = some f ∧ f.NamesNone 3 2)
      ∧ (∃ f, readFields writeBandFields [0xFF, 0, 0, 1, 0, 0, 0, 3, 0, 0, 0] = some f ∧ f.NamesNone 4 3)
      ∧ (∃ f, readFields writeBandFields [0xFF, 0, 0, 1, 0, 0, 0, 0, 0, 8, 0] = some f ∧ f.NamesNone 6 8)
      ∧ (∃ f, readFields writeBandFields [0xFF, 0, 0, 1, 0, 0, 0, 0, 0, 0, 2] = some f ∧ f.NamesNone 7 2)
      ∧ (∃ f, readFields appendFields [0, 0] = some f ∧ f.NamesNone 0 2)
      ∧ (∃ f, readFields replaceFields [1, 0, 2] = some f ∧ f.NamesNone 0 2) := by
  refine ⟨?_, ?_, ?_, ?_, ?_, ?_, ?_, ?_, ?_, ?_, ?_, ?_⟩ <;> exact namesNone_of (by decide)

/-- Band numbers 0 and 9, an option of 2, a field beyond those of the request, and numbers left out. -/
theorem wit_UnreadableUndefinedAndUnknownAreRefused_numbers :
    let is := fun (widths : List Nat) (p : List Byte) (q : Fields → Bool) => (readFields widths p).any q = true
    let bad := fun (f : Fields) => (f.nat 1).all fun n => decide (n = 0 ∨ 8 < n)
    ready.events.outbox = [] ∧ ready.tables.frozen = false ∧ ready.bothIdle = true
      ∧ ready.tableLocks = ⟨false, false⟩
      ∧ is [1] [3, 0, 0] (·.extra) ∧ is [1, 1] [3, 0, 0, 0] bad ∧ is [1, 1] [3, 0, 0, 9] bad
      ∧ is [1, 1] [1, 0, 0] (fun f => decide (f.nat 1 = none))
      ∧ is [1, 1] [3, 0, 0, 2] (fun f => decide (f.nat 1 = some 2))
      ∧ is writeBandFields [0xFF, 0, 0, 9, 0, 0, 0, 0, 0, 0, 0] bad
      ∧ is writeBandFields [0xFB, 0, 0, 1, 0, 0, 0, 0, 0] (fun f => decide (f.nat 2 = none))
      ∧ is writeBandFields [0xDF, 0, 0, 1, 0, 0, 0, 0, 0, 0] (fun f => decide (f.nat 5 = none))
      ∧ is setElementFields [1, 0, 0] (fun f => decide (f.nat 1 = none))
      ∧ is setBudgetFields [0, 0] (fun f => decide (f.nat 0 = none))
      ∧ is replaceFields [1, 0, 0] (fun f => decide (f.nat 1 = none)) := by decide

/-! ## Witnesses: programs -/

/-- A segment that is stored, one that is refused with BAD_FIELD, a full program and a cycle. -/
theorem wit_ProgramEditsInOrder_append :
    let at_ := fun (s : State) (p : List Byte) =>
      ∃ f, readFields appendFields p = some f ∧ f.enum 0 cavityOf = some .a ∧ f.extra = false
        ∧ s.takesLine ∧ s.events.outbox = []
    at_ ready [3, 0, 0, 0] ∧ at_ ready [1, 0, 0] ∧ at_ (running [.engage]) [3, 0, 0, 0]
      ∧ at_ (withProgram (List.replicate 12 .engage) ready) [3, 0, 0, 0] := by
  refine ⟨⟨_, rfl, ?_⟩, ⟨_, rfl, ?_⟩, ⟨_, rfl, ?_⟩, ⟨_, rfl, ?_⟩⟩ <;> decide

/-- The last index of a program, index 0 and the index after the last. -/
theorem wit_ProgramEditsInOrder_replace :
    let at_ := fun (s : State) (p : List Byte) (n : Nat) =>
      ∃ f, readFields replaceFields p = some f ∧ f.enum 0 cavityOf = some .a ∧ f.nat 1 = some n
        ∧ f.extra = false ∧ s.takesLine ∧ s.events.outbox = []
    let s := withProgram [.engage, .release] ready
    at_ s [7, 0, 0, 2, 5] 2 ∧ at_ s [7, 0, 0, 0, 5] 0 ∧ at_ s [7, 0, 0, 3, 5] 3 ∧ at_ s [3, 0, 0, 1] 1 := by
  refine ⟨⟨_, rfl, ?_⟩, ⟨_, rfl, ?_⟩, ⟨_, rfl, ?_⟩, ⟨_, rfl, ?_⟩⟩ <;> decide

theorem wit_RecordsAreCompleted :
    ElementSet.all ≠ .empty
      ∧ (let r : RawRecord := ⟨some .ramp, none, some 1, some 1, some 1, none, some (some .empty), none, none, some 1⟩
        r.kind ≠ some .engage ∧ r.kind ≠ some .release ∧ r.target = none ∧ r.kind ≠ some .soak ∧ r.duration ≠ none
          ∧ r.kind ≠ some .cool ∧ r.fanLevel ≠ none ∧ r.elements = some (some .empty))
      ∧ (let r : RawRecord := ⟨some .soak, some 0, some 1, none, none, none, some none, none, none, none⟩
        r.kind = some .soak ∧ r.duration = none ∧ r.kind ≠ some .ramp ∧ r.rate ≠ none ∧ r.elements = some none)
      ∧ (let r : RawRecord := ⟨some .engage, some 0, none, none, none, some 60, some none, none, none, none⟩
        r.kind = some .engage ∧ r.target ≠ none ∧ r.kind ≠ some .ramp ∧ r.kind ≠ some .soak ∧ r.elements ≠ none) := by
  decide

/-! ## Witnesses: cycle requests -/

/-- The premises of a START that is carried out, for a program and a lock. -/
def startable (p : List SegmentRecord) (l : LockCtl) : State := withLock l (withProgram p ready)

/-- Every premise of START's carrying out holds there. -/
def startableAt (p : List SegmentRecord) (l : LockCtl) : Bool :=
  let s := startable p l
  s.takesLine ∧ s.events.outbox = [] ∧ (s.engine .a).state = .idle ∧ s.sup.readiness = true ∧ s.testing = false
    ∧ s.cavityBlocked .a = false ∧ s.systemBlocked = false ∧ (s.lock .a).state ≠ .faulted ∧ s.program .a = p
    ∧ s.isValid (.cav .a) = true ∧ s.f (.cav .a) = some 1000

theorem wit_StartEntersFirstSegment_taken :
    let at_ := fun (p : List SegmentRecord) (l : LockCtl) => startableAt p l = true
    at_ [.ramp (rampTo 1051), .soak (soakAt 1051)] (lockOf .released true false)
      ∧ at_ [.ramp (rampTo 699)] (lockOf .released true false)
      ∧ at_ [.engage] (lockOf .released true false) ∧ at_ [.engage] (movingLock .releasing .reverse .release)
      ∧ at_ [.engage] { lockOf .released true false with levels := ⟨some false, some true, some false⟩ }
      ∧ at_ [.release] (lockOf .released true false) ∧ at_ [.release] (lockOf .engaged false true)
      ∧ (cavityPayload .a = optionPayload .a false ∨ (cavityPayload .a = cavityPayload .a ∧ false = false)) := by
  decide

/-- A segment of each kind that goes on at its entry, here each just short of its end, from the part that is ready. -/
theorem wit_StartEntersFirstSegment_goesOn :
    let s := fun r => startable [r] (lockOf .released true false)
    let on_ := fun (r : SegmentRecord) (lock : LockState) =>
      (s r).GoesOn .a 1000 (entered 1 1000 .released r .reset) lock r
    on_ .engage .engaging ∧ on_ .release .engaged ∧ on_ (.catalyst 1201 none) .released
      ∧ on_ (.ramp (rampTo 1051)) .released ∧ on_ (.soak (soakAt 0)) .released ∧ on_ (.cool 999 none 3) .released := by
  refine ⟨nofun, nofun, ?_, Or.inr (by decide), by unfold GoesOn; decide, by unfold GoesOn; decide⟩
  rintro ⟨_, x, hx, h⟩
  cases hx
  exact absurd h (by decide)

/-- A segment of each kind that ends DONE at its entry, each exactly at its end, and an ENGAGE that finds an open
door. -/
theorem wit_StartEntersFirstSegment_done :
    let s := fun r => startable [r] (lockOf .released true false)
    let ends := fun (r : SegmentRecord) (lock : LockState) =>
      EntryAnswered (lockOf .released true false) r
        ∧ ¬ (s r).GoesOn .a 1000 (entered 1 1000 .released r .reset) lock r
    ends .engage .engaged ∧ ends .release .released ∧ ends (.catalyst 1200 none) .released
      ∧ ends (.ramp (rampTo 1000)) .released ∧ ends (.cool 1000 none 3) .released
      ∧ (let l := { lockOf .released true false with levels := ⟨some false, some true, some false⟩ }
        l.state = .released ∧ l.levels.doorShut ≠ some true) := by
  refine ⟨⟨fun _ => by decide, fun h => h rfl⟩, ⟨nofun, fun h => h rfl⟩,
    ⟨nofun, fun h => h ⟨rfl, 1000, rfl, by decide⟩⟩, ⟨nofun, ?_⟩, ⟨nofun, by unfold GoesOn; decide⟩, by decide⟩
  unfold GoesOn
  decide

/-- A channel that is not VALID, and an F one tenth of a degree above the ceiling. -/
theorem wit_StartEntersFirstSegment_aborted :
    let s := startable [.ramp (rampTo 699)] (lockOf .released true false)
    (s.setChannel (.cav .a) .reset).isValid (.cav .a) = false
      ∧ (s.setChannel (.cav .a) .reset).cavityBlocked .a = false
      ∧ s.isValid (.cav .a) = true ∧ s.f (.cav .a) = some 1000 ∧ ceilingOf [.ramp (rampTo 699)] < 1000 := by decide

theorem wit_StartIsRefusedInOrder_refusals :
    2 ≤ (2 : Byte).toNat ∧ ready.takesLine ∧ ready.events.outbox = []
      ∧ ((running [.engage]).engine .a).state ≠ .idle
      ∧ ((State.reset.engine .a).state = .idle ∧ State.reset.sup.readiness = false)
      ∧ (let s := ready.setDrive { ready.drive with test := { ready.drive.test with state := .inProgress } }
        (s.engine .a).state = .idle ∧ s.sup.readiness = true ∧ s.testing = true)
      ∧ ((ready.engine .a).state = .idle ∧ ready.sup.readiness = true ∧ ready.testing = false
        ∧ ready.program .a = []) := by decide

theorem wit_StartIsRefusedInOrder_blocked :
    let s := withProgram [.engage] (ready.setSup { ready.sup with trip := true })
    (s.engine .a).state = .idle ∧ s.sup.readiness = true ∧ s.testing = false ∧ s.program .a ≠ []
      ∧ s.sup.trip = true := by decide

theorem wit_StartIsRefusedInOrder_taken :
    let s := withProgram [.engage] ready
    (s.engine .a).state = .idle ∧ s.sup.readiness = true ∧ s.testing = false ∧ s.program .a ≠ []
      ∧ ¬ ((s.channel (.cav .a)).state = .failed ∨ (s.channel (.cat .a)).state = .failed
        ∨ (s.lock .a).faults ≠ .empty ∨ (∃ h, s.drive.elementOpen.get ⟨.a, h⟩ = true)
        ∨ s.drive.elementWelded = true ∨ s.drive.masterWelded = true
        ∨ (∃ d, s.sup.overheat.get d = true) ∨ (∃ d, s.sup.runaway.get d = true) ∨ s.fan.stall = true
        ∨ (s.channel .front).state = .failed ∨ s.sup.trip = true) := by
  refine ⟨rfl, rfl, rfl, nofun, ?_⟩
  rintro (h | h | h | ⟨x, h⟩ | h | h | ⟨x, h⟩ | ⟨x, h⟩ | h | h | h) <;> first | cases x | skip
  all_goals revert h; decide

theorem wit_PauseFreezesAndResumeGoesOn_pause :
    let s := running [.ramp (rampTo 5000)]
    s.takesLine ∧ s.events.outbox = [] ∧ (s.engine .a).state = .running ∧ s.currentRecord .a ≠ some .engage
      ∧ s.currentRecord .a ≠ some .release
      ∧ ((running [.release]).engine .a).state = .running ∧ (running [.release]).currentRecord .a = some .release
      ∧ (ready.engine .a).state ≠ .running ∧ (ready.engine .a).state ≠ .paused := by decide

/-- A segment of each kind that a RESUME goes on in. -/
theorem wit_PauseFreezesAndResumeGoesOn_resume :
    let at_ := fun (r : SegmentRecord) =>
      let s := cycle (engineIn .paused) [r]
      s.takesLine ∧ s.events.outbox = [] ∧ (s.engine .a).state = .paused ∧ s.currentRecord .a = some r
        ∧ s.unforced .a 1000 ∧ s.GoesOn .a 1000 (s.engine .a) (s.lock .a).state r
    at_ (.ramp (rampTo 1051)) ∧ at_ (.soak (soakAt 1000)) ∧ at_ (.cool 999 none 3) ∧ at_ (.catalyst 1201 none) := by
  refine ⟨⟨by decide, by decide, by decide, rfl, unforced_of _ _ _ rfl rfl rfl nofun, Or.inr (by decide)⟩,
    ⟨by decide, by decide, by decide, rfl, unforced_of _ _ _ rfl rfl rfl nofun, nofun⟩,
    ⟨by decide, by decide, by decide, rfl, unforced_of _ _ _ rfl rfl rfl nofun, by unfold GoesOn; decide⟩,
    ⟨by decide, by decide, by decide, rfl, unforced_of _ _ _ rfl rfl rfl nofun, ?_⟩⟩
  rintro ⟨_, x, hx, h⟩
  cases hx
  exact absurd h (by decide)

/-- A COOL whose end came during the pause: the last of its program, one of a single-step cycle, and one before a COOL
that goes on. -/
theorem wit_PauseFreezesAndResumeGoesOn_done :
    let at_ := fun (one : Bool) (rest : List SegmentRecord) =>
      let s := cycle { engineIn .paused with singleStep := one } (.cool 1000 none 3 :: rest)
      s.takesLine ∧ s.events.outbox = [] ∧ (s.engine .a).state = .paused
        ∧ s.currentRecord .a = some (.cool 1000 none 3) ∧ s.unforced .a 1000 ∧ (s.engine .a).segmentIndex = some 1
        ∧ ¬ s.GoesOn .a 1000 (s.engine .a) (s.lock .a).state (.cool 1000 none 3)
        ∧ (s.program .a).length = rest.length + 1 ∧ (s.engine .a).singleStep = one
    let n := cycle (engineIn .paused) [.cool 1000 none 3, .cool 999 none 3]
    at_ false [] ∧ at_ true [.release] ∧ at_ false [.cool 999 none 3]
      ∧ nextGoesOn n (engineIn .running) (n.lock .a) (.cool 999 none 3) := by
  refine ⟨?_, ?_, ?_, rfl, rfl, nofun, by unfold GoesOn; decide⟩ <;>
    exact ⟨by decide, by decide, by decide, rfl, unforced_of _ _ _ rfl rfl rfl nofun, rfl,
      by unfold GoesOn; decide, rfl, rfl⟩

/-- The premises of a STEP that enters a segment, each kind just short of its end. -/
theorem wit_StepEntersNextSegment_goesOn :
    let at_ := fun (r : SegmentRecord) (lock : LockState) =>
      let s := cycle (engineIn .held) [.soak (soakAt 1000), r]
      s.takesLine ∧ s.events.outbox = [] ∧ (s.engine .a).state = .held ∧ (s.engine .a).segmentIndex = some 1
        ∧ recordAt (s.program .a) 2 = some r ∧ s.unforced .a 1000 ∧ s.StartsAt .a (s.engine .a) 1 1000 1000
        ∧ EntryAnswered (s.lock .a) r
        ∧ s.GoesOn .a 1000 (entered 2 1000 (s.lock .a).state r (s.engine .a)) lock r
    at_ .release .releasing ∧ at_ (.catalyst 1201 none) .engaged ∧ at_ (.ramp (rampTo 1051)) .engaged
      ∧ at_ (.soak (soakAt 1000)) .engaged ∧ at_ (.cool 999 none 3) .engaged := by
  refine ⟨⟨by decide, by decide, by decide, by decide, rfl, unforced_of _ _ _ rfl rfl rfl nofun, rfl, nofun, nofun⟩,
    ⟨by decide, by decide, by decide, by decide, rfl, unforced_of _ _ _ rfl rfl rfl nofun, rfl, nofun, ?_⟩,
    ⟨by decide, by decide, by decide, by decide, rfl, unforced_of _ _ _ rfl rfl rfl nofun, rfl, nofun,
      Or.inr (by decide)⟩,
    ⟨by decide, by decide, by decide, by decide, rfl, unforced_of _ _ _ rfl rfl rfl nofun, rfl, nofun, nofun⟩,
    ⟨by decide, by decide, by decide, by decide, rfl, unforced_of _ _ _ rfl rfl rfl nofun, rfl, nofun,
      by unfold GoesOn; decide⟩⟩
  rintro ⟨_, x, hx, h⟩
  cases hx
  exact absurd h (by decide)

/-- A segment that ends DONE at its entry: the last of a program, and one of a single-step cycle with more to come. An
ENGAGE behind an open door is not answered, one under a RELEASING lock is. -/
theorem wit_StepEntersNextSegment_done :
    let cool : SegmentRecord := .cool 1000 none 3
    let last := cycle (engineIn .held) [.engage, .cool 1000 none 3]
    let more := cycle { engineIn .held with singleStep := true } [.engage, .cool 1000 none 3, .release]
    ¬ last.GoesOn .a 1000 (entered 2 1000 .engaged cool (last.engine .a)) .engaged cool
      ∧ last.unforced .a 1000
      ∧ last.StartsAt .a (last.engine .a) 1 1000 1000 ∧ recordAt (last.program .a) 2 = some (.cool 1000 none 3)
      ∧ 1 + 1 = (last.program .a).length
      ∧ ¬ more.GoesOn .a 1000 (entered 2 1000 .engaged cool (more.engine .a)) .engaged cool
      ∧ more.unforced .a 1000
      ∧ more.StartsAt .a (more.engine .a) 1 1000 1000 ∧ recordAt (more.program .a) 2 = some (.cool 1000 none 3)
      ∧ 1 + 1 < (more.program .a).length ∧ (more.engine .a).singleStep = true
      ∧ EntryAnswered (movingLock .releasing .reverse .release) .engage :=
  ⟨by unfold GoesOn; decide, unforced_of _ _ _ rfl rfl rfl nofun, rfl, rfl, rfl,
    by unfold GoesOn; decide, unforced_of _ _ _ rfl rfl rfl nofun, rfl, rfl, by decide, rfl,
    fun _ => ⟨nofun, nofun⟩⟩

theorem wit_StepEntersNextSegment_refused :
    ((running [.engage]).engine .a).state = .running ∧ ((cycle (engineIn .paused) [.engage]).engine .a).state = .paused
      ∧ (ready.engine .a).state = .idle ∧ ((cycle (engineIn .safeCool) [.engage]).engine .a).state = .safeCool := by
  decide

/-- A cycle whose lock holds it in SAFE_COOL, one whose lock does not, and no cycle. -/
theorem wit_AbortGoesToSafeCool :
    let s := running [.engage]
    s.takesLine ∧ s.events.outbox = [] ∧ s.inCycle .a = true ∧ (s.engine .a).state ≠ .held
      ∧ s.events.queue.length ≤ 13 ∧ s.lockHolds .a
      ∧ (withLock (lockOf .released true false) s).inCycle .a = true
      ∧ ¬ (withLock (lockOf .released true false) s).lockHolds .a ∧ ready.inCycle .a = false := by decide

theorem wit_AllStopAbortsBothEngines :
    let s := running [.engage]
    s.takesLine ∧ s.events.outbox = [] ∧ s.inCycle .a = true ∧ [0x01] ≠ ([] : List Byte) := by decide

/-! ## Witnesses: door locks -/

theorem wit_HostLockRequestsByState_engine :
    (running [.engage]).takesLine ∧ (running [.engage]).events.outbox = []
      ∧ ((running [.engage]).engine .a).state ≠ .idle := by decide

/-- Every lock state of an idle cavity, with the door shut and open, LATCH_SET true and false, FREE and not FREE. -/
theorem wit_HostLockRequestsByState_states :
    let at_ := fun (l : LockCtl) (p : LockCtl → Bool) =>
      let s := withLock l ready
      s.takesLine ∧ s.events.outbox = [] ∧ (s.engine .a).state = .idle ∧ p (s.lock .a) = true
    at_ { lockOf .released true false with levels := ⟨some false, some true, some false⟩ }
        (fun l => decide (l.state = .released ∧ l.levels.doorShut ≠ some true))
      ∧ at_ (lockOf .released true false)
        (fun l => decide (l.state = .released ∧ l.levels.doorShut = some true ∧ l.levels.latchSet ≠ some true))
      ∧ at_ (lockOf .released false true)
        (fun l => decide (l.state = .released ∧ l.levels.doorShut = some true ∧ l.levels.latchSet = some true))
      ∧ at_ (movingLock .engaging .forward .engage) (fun l => decide (l.state = .engaging))
      ∧ at_ (movingLock .releasing .reverse .release) (fun l => decide (l.state = .releasing))
      ∧ at_ (movingLock .returning .reverse .jamReturn) (fun l => decide (l.state = .returning))
      ∧ at_ .reset (fun l => decide (l.state = .notAdopted))
      ∧ at_ (lockOf .faulted true true) (fun l => decide (l.state = .faulted)) := by decide

theorem wit_HostLockRequestsByState_engaged :
    let free := withLock (lockOf .engaged false true) ready
    let kept := free.setBandIndex .a .over
    (free.engine .a).state = .idle ∧ (free.lock .a).state = .engaged ∧ free.policy .a = .free
      ∧ (kept.engine .a).state = .idle ∧ (kept.lock .a).state = .engaged ∧ kept.policy .a ≠ .free
      ∧ kept.takesLine ∧ kept.events.outbox = []
      ∧ (optionPayload .a true = optionPayload .a true
        ∨ (optionPayload .a true = cavityPayload .a ∧ true = false)) := by decide

theorem wit_SwitchChangesByLockState_recorded :
    (ready.lock .a).levels.get .doorShut = some true ∧ ready.events.outbox = []
      ∧ (ready.engine .a).state = .idle := by decide

/-- A change on a lock of an idle cavity: the premises that every clause shares, and the clause's own. -/
def switchCase (l : LockCtl) (sw : Switch) (level : Bool) (own : State → LockCtl → Bool) : Bool :=
  let s := withLock l ready
  let l1 := { l with levels := l.levels.set sw (some level) }
  s.events.outbox = [] ∧ (s.lock .a).levels.get sw ≠ some level ∧ (s.engine .a).state = .idle ∧ own s l1 = true

/-- Both latch switches true, in every lock state that contradicts it. -/
theorem wit_SwitchChangesByLockState_contradiction :
    let both := fun (_ : State) (l1 : LockCtl) => decide (l1.state ≠ .faulted ∧ l1.state ≠ .notAdopted
      ∧ l1.levels.latchHome = some true ∧ l1.levels.latchSet = some true)
    switchCase (lockOf .released true false) .latchSet true both
      ∧ switchCase (lockOf .engaged false true) .latchHome true both := by decide

def freeOf (p : Bool) (s : State) : Bool := decide (s.policy .a = .free) == p

/-- The end of an engage motion: no request, a release under FREE, and a release that waits. -/
theorem wit_SwitchChangesByLockState_engaged :
    let l := movingLock .engaging .forward .engage
    let own := fun (s : State) (l1 : LockCtl) => decide (l1.state = .engaging
      ∧ ¬ (l1.levels.latchHome = some true ∧ l1.levels.latchSet = some true)) && freeOf true s
    switchCase l .latchSet true (fun s l1 => own s l1 && decide (l1.slot = none))
      ∧ switchCase { l with slot := some ⟨.release, .host⟩ } .latchSet true own
      ∧ (let s := (withLock { l with slot := some ⟨.release, .host⟩ } ready).setBandIndex .a .over
        s.events.outbox = [] ∧ (s.lock .a).levels.get .latchSet ≠ some true ∧ (s.engine .a).state = .idle
          ∧ (s.lock .a).state = .engaging ∧ (s.lock .a).slot = some ⟨.release, .host⟩ ∧ s.policy .a ≠ .free) := by
  decide

/-- A door that opens during an engage motion and on an engaged lock; a bolt that slips behind a shut and an open
door. -/
theorem wit_SwitchChangesByLockState_breach_and_slip :
    let is := fun (x : LockState) (door : Option Bool) (_ : State) (l1 : LockCtl) =>
      decide (l1.state = x ∧ l1.levels.doorShut = door)
    switchCase (movingLock .engaging .forward .engage) .doorShut false (is .engaging (some false))
      ∧ switchCase (lockOf .engaged false true) .doorShut false (is .engaged (some false))
      ∧ switchCase (lockOf .engaged false true) .latchSet false (is .engaged (some true))
      ∧ switchCase { lockOf .engaged false true with levels := ⟨some false, some false, some true⟩ } .latchSet false
          (is .engaged (some false)) := by decide

/-- The end of a release motion: no request, an engage with the door shut and with it open. -/
theorem wit_SwitchChangesByLockState_released :
    let l := movingLock .releasing .reverse .release
    let own := fun (door : Bool) (slot : Option LockRequest) (_ : State) (l1 : LockCtl) =>
      decide (l1.state = .releasing ∧ ¬ (l1.levels.latchHome = some true ∧ l1.levels.latchSet = some true)
        ∧ l1.slot = slot ∧ l1.levels.doorShut = some door)
    switchCase l .latchHome true (own true none)
      ∧ switchCase { l with slot := some ⟨.engage, .host⟩ } .latchHome true (own true (some ⟨.engage, .host⟩))
      ∧ switchCase { l with slot := some ⟨.engage, .engine⟩, levels := ⟨some false, some false, some false⟩ }
          .latchHome true (own false (some ⟨.engage, .engine⟩)) := by decide

/-- The end of a return after a jam and after a slip, with no request and with an engage behind a shut and an open door;
and levels in FAULTED and before adoption. -/
theorem wit_SwitchChangesByLockState_returned :
    let own := fun (cause : MotionCause) (slot : Option LockRequest) (door : Bool) (_ : State) (l1 : LockCtl) =>
      decide (l1.state = .returning ∧ ¬ (l1.levels.latchHome = some true ∧ l1.levels.latchSet = some true)
        ∧ l1.slot = slot ∧ l1.motion = some ⟨cause, 3000⟩ ∧ l1.levels.doorShut = some door)
    let l := movingLock .returning .reverse .jamReturn
    switchCase l .latchHome true (own .jamReturn none true)
      ∧ switchCase (movingLock .returning .reverse .slipReturn) .latchHome true (own .slipReturn none true)
      ∧ switchCase { l with slot := some ⟨.engage, .engine⟩ } .latchHome true
          (own .jamReturn (some ⟨.engage, .engine⟩) true)
      ∧ switchCase { l with slot := some ⟨.engage, .host⟩, levels := ⟨some false, some false, some false⟩ } .latchHome
          true (own .jamReturn (some ⟨.engage, .host⟩) false)
      ∧ switchCase (lockOf .faulted true true) .latchHome false (fun _ l1 => decide (l1.state = .faulted))
      ∧ switchCase .reset .latchHome true (fun _ l1 => decide (l1.state = .notAdopted ∧ l1.levels.doorShut = none))
      := by decide

/-- The changes that a lock records alone, in each state that takes them so. -/
theorem wit_SwitchChangesByLockState_alone :
    let is := fun (x : LockState) (_ : State) (l1 : LockCtl) => decide (l1.state = x
      ∧ ¬ (l1.levels.latchHome = some true ∧ l1.levels.latchSet = some true))
    let open_ := fun (l : LockCtl) => { l with levels := { l.levels with doorShut := some false } }
    switchCase (lockOf .released true false) .latchHome false (is .released)
      ∧ switchCase (lockOf .released true false) .doorShut false (is .released)
      ∧ switchCase (movingLock .engaging .forward .engage) .latchHome true (is .engaging)
      ∧ switchCase { movingLock .engaging .forward .engage with levels := ⟨some true, some false, some true⟩ }
          .latchSet false (is .engaging)
      ∧ switchCase (open_ (movingLock .engaging .forward .engage)) .doorShut true (is .engaging)
      ∧ switchCase { lockOf .engaged true true with levels := ⟨some true, some true, some false⟩ } .latchHome false
          (is .engaged)
      ∧ switchCase (open_ (lockOf .engaged false true)) .doorShut true (is .engaged)
      ∧ switchCase (movingLock .releasing .reverse .release) .doorShut false (is .releasing)
      ∧ switchCase (movingLock .releasing .reverse .release) .latchSet true (is .releasing)
      ∧ switchCase { movingLock .returning .reverse .adopted with levels := ⟨some true, some true, some false⟩ }
          .latchHome false (is .returning) := by decide

/-- A full queue, which loses every record of a change, and one with room for the first of two. -/
theorem wit_SwitchChangesByLockState_records :
    let at_ := fun (n : Nat) => ready.setEvents ⟨List.replicate n ⟨.ready, 0⟩, []⟩
    (at_ 16).events.queue.length ≤ 16 ∧ (at_ 15).events.queue.length ≤ 16 ∧ (at_ 15).events.outbox = []
      ∧ ((at_ 15).engine .a).state = .idle := by decide

/-- A door that opens again on a lock whose breach is latched queues nothing, and a first breach its fault (R64, R66).
-/
theorem test_second_breach_is_not_recorded :
    let s := fun (b : Bool) =>
      withLock { lockOf .engaged false true with faults := { LockFaults.empty with breach := b } } ready
    after (.switchLevelChange .a .doorShut false) (s true) (fun t => t.events.queue.isEmpty) = true
      ∧ after (.switchLevelChange .a .doorShut false) (s false)
          (fun t => decide (t.events.queue.map (·.body) = [.faultRaised (some .a) .doorBreach none])) = true := by
  decide +kernel

/-- The last adoption that the part's readiness waits for. -/
theorem wit_LastSwitchLevelAdoptsLock_ready :
    let s := withLock { LockCtl.reset with levels := ⟨some true, some true, none⟩ }
      (ready.setSup { ready.sup with readiness := false, adopted := ⟨false, true⟩ })
    s.events.outbox = [] ∧ (s.engine .a).state = .idle ∧ (s.lock .a).state = .notAdopted
      ∧ (s.lock .a).levels.get .latchSet = none ∧ s.sup.readiness = false
      ∧ after (.switchLevelChange .a .latchSet false) s (fun t => t.sup.readiness) = true := by decide +kernel

/-- The four adoptions, with the last level at each of the switches. -/
theorem wit_LastSwitchLevelAdoptsLock :
    let at_ := fun (door home set : Option Bool) (sw : Switch) (level : Bool) (all : Bool × Bool × Bool) =>
      let s := withLock { LockCtl.reset with levels := ⟨door, home, set⟩ } ready
      s.events.outbox = [] ∧ (s.engine .a).state = .idle ∧ (s.lock .a).state = .notAdopted
        ∧ (s.lock .a).levels.get sw = none
        ∧ (s.lock .a).levels.set sw (some level) = ⟨some all.1, some all.2.1, some all.2.2⟩
        ∧ s.events.queue.length ≤ 12
    at_ (some true) (some true) none .latchSet true (true, true, true)
      ∧ at_ (some true) (some false) none .latchSet true (true, false, true)
      ∧ at_ (some true) none (some false) .latchHome true (true, true, false)
      ∧ at_ none (some false) (some false) .doorShut true (true, false, false)
      ∧ at_ none (some false) (some false) .doorShut false (false, false, false)
      ∧ (withLock .reset State.reset).sup.readiness = false := by decide

/-- The motion timer at its limit in each motion, one a millisecond short of it, and no motion. -/
theorem wit_MotionTimerEndsMotion :
    let at_ := fun (l : LockCtl) (st : LockState) (cause : MotionCause) =>
      let s := withLock l ready
      s.events.outbox = [] ∧ (s.engine .a).state = .idle
        ∧ (s.lock .a).motion = some ⟨cause, 3000⟩ ∧ (s.lock .a).state = st
    at_ (movingLock .engaging .forward .engage) .engaging .engage ∧ MotionCause.engage ≠ .slipRedrive
      ∧ at_ (movingLock .engaging .forward .slipRedrive) .engaging .slipRedrive
      ∧ at_ (movingLock .returning .reverse .jamReturn) .returning .jamReturn
      ∧ at_ (movingLock .releasing .reverse .release) .releasing .release
      ∧ (ready.lock .a).motion = none
      ∧ { movingLock .releasing .reverse .release with motion := some ⟨.release, 2999⟩ }.motion
          = some ⟨.release, 2999⟩ ∧ 2999 < 3000 ∧ 3000 ≤ 3000 := by decide

/-- A cycle whose lock moves, in a segment. -/
def moving (r : SegmentRecord) (l : LockCtl) : State := withLock l (running [r])

/-- The end of a motion during a cycle: a jam return in an ENGAGE, which goes on, and a motion that sticks. -/
theorem wit_MotionTimerEndsMotion_cycle :
    let s := moving .engage (movingLock .engaging .forward .engage)
    let k := moving .release (movingLock .releasing .reverse .release)
    (s.inCycle .a = true ∧ s.unforced .a 1000 ∧ (s.engine .a).state = .running
        ∧ ∃ r, s.currentRecord .a = some r ∧ s.GoesOn .a 1000 (s.engine .a) .returning r)
      ∧ (k.inCycle .a = true ∧ k.currentRecord .a ≠ none ∧ k.unforced .a 1000 ∧ (k.lock .a).state = .releasing) :=
  ⟨⟨rfl, unforced_of _ _ _ rfl rfl rfl nofun, rfl, .engage, rfl, nofun⟩,
    by decide, nofun, unforced_of _ _ _ rfl rfl rfl nofun, rfl⟩

/-- A SAFE_COOL with its condition, under a lock that sticks. -/
theorem wit_MotionTimerEndsMotion_safeCool :
    let s := withLock (movingLock .returning .reverse .slipReturn)
      (cycle { engineIn .safeCool with recorded := some .breach } [.release])
    (s.engine .a).state = .safeCool ∧ (s.engine .a).recorded = some .breach ∧ (s.lock .a).state = .returning := by
  decide

theorem wit_LockSwitchesMoveCycle_breach :
    let s := running [.ramp (rampTo 5000)]
    let o := moving (.ramp (rampTo 5000))
      { lockOf .engaged false true with levels := ⟨some false, some false, some true⟩ }
    s.events.outbox = [] ∧ s.inCycle .a = true ∧ s.currentRecord .a ≠ none ∧ s.unforced .a 1000
      ∧ (s.lock .a).state = .engaged ∧ (s.lock .a).levels.doorShut ≠ some false
      ∧ (s.lock .a).levels.latchSet ≠ some false ∧ (s.lock .a).levels.doorShut = some true
      ∧ (s.lock .a).levels.latchSet = some true ∧ (s.lock .a).levels.latchHome ≠ some true
      ∧ o.unforced .a 1000 ∧ (o.lock .a).levels.doorShut ≠ some true :=
  ⟨by decide, by decide, by decide, running_unforced _, by decide, by decide, by decide, by decide, by decide,
    by decide, unforced_of _ _ _ rfl rfl rfl nofun, by decide⟩

/-- The end of a motion during a cycle, in the segment that waits for it and in one that does not. -/
theorem wit_LockSwitchesMoveCycle_motions :
    let at_ := fun (r : SegmentRecord) (st : LockState) (m : Motor) (cause : MotionCause) (wait : Bool) =>
      let s := withLock (movingLock st m cause) (cycle { engineIn .running with engageWaiting := wait } [r])
      s.inCycle .a = true ∧ s.currentRecord .a = some r ∧ s.unforced .a 1000 ∧ (s.lock .a).state = st
        ∧ (s.lock .a).levels.latchSet ≠ some true ∧ (s.lock .a).levels.latchHome ≠ some true
        ∧ (s.lock .a).slot = none ∧ (s.engine .a).segmentIndex = some 1 ∧ (s.engine .a).engageWaiting = wait
        ∧ (s.lock .a).levels.doorShut = some true
    at_ .engage .engaging .forward .engage false ∧ at_ (.soak (soakAt 1000)) .engaging .forward .engage false
      ∧ at_ .release .releasing .reverse .release false ∧ at_ .engage .returning .reverse .jamReturn true
      ∧ at_ .engage .returning .reverse .jamReturn false
      ∧ at_ (.soak (soakAt 1000)) .returning .reverse .jamReturn false
      ∧ (∀ lock, (running [.soak (soakAt 1000)]).GoesOn .a 1000 (engineIn .running) lock (.soak (soakAt 1000))) := by
  refine ⟨?_, ?_, ?_, ?_, ?_, ?_, nofun⟩ <;>
    exact ⟨by decide, by decide, unforced_of _ _ _ rfl rfl rfl nofun, by decide, by decide, by decide, by decide,
      by decide, by decide, by decide⟩

/-- An ENGAGE before a RELEASE under a FREE band and a RELEASE before an ENGAGE behind a shut door, at the end of their
motions. -/
theorem wit_LockSwitchesMoveCycle_next :
    let s := withLock (movingLock .engaging .forward .engage) (cycle (engineIn .running) [.engage, .release])
    let k := withLock (movingLock .releasing .reverse .release) (cycle (engineIn .running) [.release, .engage])
    let set := { s.lock .a with levels := (s.lock .a).levels.set .latchSet (some true) }
    let home := { k.lock .a with levels := (k.lock .a).levels.set .latchHome (some true) }
    s.inCycle .a = true ∧ s.unforced .a 1000 ∧ s.currentRecord .a = some .engage ∧ (s.lock .a).slot = none
      ∧ (s.engine .a).singleStep = false ∧ nextGoesOn s (s.engine .a) (atRest .engaged set) .release
      ∧ k.inCycle .a = true ∧ k.unforced .a 1000 ∧ k.currentRecord .a = some .release ∧ (k.lock .a).slot = none
      ∧ (k.engine .a).singleStep = false ∧ nextGoesOn k (k.engine .a) (comeHome home) .engage :=
  ⟨rfl, unforced_of _ _ _ rfl rfl rfl nofun, rfl, rfl, rfl, ⟨rfl, rfl, nofun, by unfold GoesOn; decide⟩,
    rfl, unforced_of _ _ _ rfl rfl rfl nofun, rfl, rfl, rfl,
    rfl, rfl, fun _ => ⟨by decide, fun _ => rfl⟩, by unfold GoesOn; decide⟩

/-- An engage that the engine left in the slot of a release motion, with the door shut and with it open; and the engage
that waits with the door open. -/
theorem wit_LockSwitchesMoveCycle_again :
    let at_ := fun (door : Bool) (slot : Option LockRequest) (wait : Bool) =>
      let s := withLock { movingLock .releasing .reverse .release with
          slot := slot, levels := ⟨some door, some false, some false⟩ }
        (cycle { engineIn .running with engageWaiting := wait } [.engage])
      (s.lock .a).state = .releasing ∧ (s.lock .a).slot = slot ∧ (s.engine .a).state = .running
        ∧ s.currentRecord .a = some .engage ∧ (s.engine .a).engageWaiting = wait ∧ s.unforced .a 1000
        ∧ (s.lock .a).levels.doorShut = some door
    at_ true (some ⟨.engage, .engine⟩) false ∧ at_ false (some ⟨.engage, .engine⟩) false ∧ at_ false none true := by
  refine ⟨?_, ?_, ?_⟩ <;>
    exact ⟨by decide, by decide, by decide, by decide, by decide, unforced_of _ _ _ rfl rfl rfl nofun, by decide⟩

/-- The two ends of SAFE_COOL at a lock's switches. -/
theorem wit_LockSwitchesMoveCycle_safeCool :
    let e := { engineIn .safeCool with recorded := some .hostAbort }
    let s := withLock (movingLock .releasing .reverse .release) (cycle e [.release])
    let k := withLock { movingLock .engaging .forward .slipRedrive with levels := ⟨some true, some true, some false⟩ }
      (cycle e [.release])
    (s.engine .a).state = .safeCool ∧ (s.engine .a).recorded = some .hostAbort ∧ (s.lock .a).state = .releasing
      ∧ (s.lock .a).slot = none ∧ (s.lock .a).levels.latchHome ≠ some true ∧ (s.lock .a).levels.latchSet ≠ some true
      ∧ (k.engine .a).state = .safeCool ∧ (k.lock .a).state ≠ .notAdopted ∧ (k.lock .a).state ≠ .faulted
      ∧ (k.lock .a).levels.latchHome = some true ∧ (k.lock .a).levels.latchSet ≠ some true := by decide

/-! ## Witnesses: ticks -/

theorem counts_in_range : ((engineIn .running).cycleSeconds < 4294967295)
    ∧ (engineIn .running).segmentElapsed < 4294967295 ∧ (engineIn .running).soakSeconds < 4294967295 := by decide

/-- An engine without a second timer, and one a millisecond short of its second. -/
theorem wit_TickDoesSegmentWork_none :
    ready.events.outbox = [] ∧ ¬ RanOut (ready.engine .a).secondTimer 1000
      ∧ ¬ RanOut (some 999) 1000 ∧ RanOut ((running [.engage]).engine .a).secondTimer 1000 :=
  ⟨rfl, not_ranOut_of rfl, not_ranOut_of rfl, ranOut_of rfl⟩

theorem wit_TickDoesSegmentWork_ramp :
    let s := running [.ramp (rampTo 1051)]
    s.events.outbox = [] ∧ RanOut (s.engine .a).secondTimer 1000 ∧ (s.engine .a).state = .running
      ∧ s.currentRecord .a = some (.ramp (rampTo 1051)) ∧ s.unforced .a 1000 ∧ (1000 : Int) < (rampTo 1051).target - 50
      ∧ (rampTo 1051).timeLimit ≠ some ((s.engine .a).segmentElapsed + 1)
      ∧ (s.engine .a).setpoint = some 1000 ∧ (rampTo 1051).rate = some 50 :=
  ⟨by decide, ranOut_of rfl, by decide, by decide, running_unforced _, by decide, by decide, by decide, by decide⟩

/-- A RAMP a tenth of a degree short of its target with F 5.0 °C below it, and a COOL at its target before a RELEASE. -/
theorem wit_TickDoesSegmentWork_done :
    let s := cycle { engineIn .running with setpoint := some 1049, accumulator := 10 } [.ramp (rampTo 1050)]
    let k := running [.cool 1000 (some 60) 3, .release]
    let counted := { ticked (k.engine .a) with segmentElapsed := (k.engine .a).segmentElapsed + 1 }
    s.events.outbox = [] ∧ RanOut (s.engine .a).secondTimer 1000 ∧ (s.engine .a).state = .running
      ∧ s.currentRecord .a = some (.ramp (rampTo 1050)) ∧ s.unforced .a 1000 ∧ (s.engine .a).setpoint = some 1049
      ∧ (rampTo 1050).rate = some 50 ∧ (rampTo 1050).target ≤ 1049 + (((s.engine .a).accumulator + 50) / 60 : Nat)
      ∧ (rampTo 1050).target - 50 ≤ (1000 : Int) ∧ (s.engine .a).segmentIndex = some 1
      ∧ (s.program .a).length = 1
      ∧ k.currentRecord .a = some (.cool 1000 (some 60) 3) ∧ k.unforced .a 1000
      ∧ ¬ k.GoesOn .a 1000 (k.engine .a) (k.lock .a).state (.cool 1000 (some 60) 3)
      ∧ (k.engine .a).segmentIndex = some 1 ∧ (k.engine .a).singleStep = false
      ∧ nextGoesOn k counted (k.lock .a) .release :=
  ⟨rfl, ranOut_of rfl, rfl, rfl, unforced_of _ _ _ rfl rfl rfl nofun, rfl, rfl, by decide, by decide, rfl, rfl,
    rfl, running_unforced _, by unfold GoesOn; decide, rfl, rfl, rfl, rfl, nofun, by unfold GoesOn; decide⟩

/-- The kinds that count the elapsed second alone, each just short of its end. -/
theorem wit_TickDoesSegmentWork_others :
    let at_ := fun (r : SegmentRecord) (l : LockCtl) =>
      let s := moving r l
      s.events.outbox = [] ∧ RanOut (s.engine .a).secondTimer 1000 ∧ (s.engine .a).state = .running
        ∧ s.currentRecord .a = some r ∧ s.unforced .a 1000 ∧ s.GoesOn .a 1000 (s.engine .a) (s.lock .a).state r
    let engaged := lockOf .engaged false true
    at_ .engage (movingLock .engaging .forward .engage) ∧ at_ .release engaged
      ∧ at_ (.cool 999 (some 60) 3) engaged ∧ at_ (.ramp { rampTo 1051 with rate := none }) engaged
      ∧ at_ (.catalyst 1201 none) engaged := by
  refine ⟨⟨by decide, ranOut_of rfl, rfl, rfl, unforced_of _ _ _ rfl rfl rfl nofun, nofun⟩,
    ⟨by decide, ranOut_of rfl, rfl, rfl, unforced_of _ _ _ rfl rfl rfl nofun, nofun⟩,
    ⟨by decide, ranOut_of rfl, rfl, rfl, unforced_of _ _ _ rfl rfl rfl nofun, by unfold GoesOn; decide⟩,
    ⟨by decide, ranOut_of rfl, rfl, rfl, unforced_of _ _ _ rfl rfl rfl nofun, Or.inr (by decide)⟩,
    ⟨by decide, ranOut_of rfl, rfl, rfl, unforced_of _ _ _ rfl rfl rfl nofun, ?_⟩⟩
  rintro ⟨_, x, hx, h⟩
  cases hx
  exact absurd h (by decide)

def soaking (t : Int) (left under : Nat) : State :=
  cycle { engineIn .running with soakRemaining := some left, undershootCount := under } [.soak (soakAt t)]

/-- A soak exactly at its tolerance with one second more than the last, and one a tenth of a degree below it. -/
theorem wit_TickDoesSegmentWork_soak :
    (soaking 1100 2 599).events.outbox = [] ∧ ((soaking 1100 2 599).engine .a).secondTimer = some 1000
      ∧ ((soaking 1100 2 599).engine .a).state = .running
      ∧ (soaking 1100 2 599).currentRecord .a = some (.soak (soakAt 1100))
      ∧ (soakAt 1100).target - (soakAt 1100).tolerance ≤ (1000 : Int)
      ∧ ((soaking 1100 2 599).engine .a).soakRemaining = some (0 + 2)
      ∧ (soaking 1101 1 598).currentRecord .a = some (.soak (soakAt 1101))
      ∧ (1000 : Int) < (soakAt 1101).target - (soakAt 1101).tolerance
      ∧ ((soaking 1101 1 598).engine .a).soakRemaining = some (0 + 1)
      ∧ ((soaking 1101 1 598).engine .a).undershootCount < 599
      ∧ (soakAt 1100).timeLimit ≠ some (((soaking 1100 2 599).engine .a).segmentElapsed + 1) := by decide

theorem soaking_unforced (t : Int) (left under : Nat) : (soaking t left under).unforced .a 1000 :=
  unforced_of _ _ _ rfl rfl rfl nofun

theorem wit_TickDoesSegmentWork_holds :
    let s := cycle { engineIn .held with holdCount := some 2 } [.engage]
    let p := cycle { engineIn .paused with holdCount := some 1800 } [.engage]
    s.events.outbox = [] ∧ (s.engine .a).state = .held ∧ (s.engine .a).holdCount = some (0 + 2)
      ∧ (p.engine .a).state = .paused ∧ (p.engine .a).holdCount = some (1798 + 2)
      ∧ ((cycle (engineIn .safeCool) [.engage]).engine .a).state = .safeCool := by decide

/-- The last second of PAUSED and of HELD, the 600th tick below the tolerance, and a COOL at its time limit. -/
theorem wit_CountedEndingsAbortCycle :
    let p := cycle { engineIn .paused with holdCount := some 1 } [.engage]
    let h := cycle { engineIn .held with holdCount := some 1 } [.engage]
    let s := soaking 1101 1 599
    p.events.outbox = [] ∧ p.lockHolds .a ∧ (p.engine .a).secondTimer = some 1000 ∧ (p.engine .a).state = .paused
      ∧ (p.engine .a).holdCount = some 1 ∧ p.events.queue.length ≤ 13
      ∧ (h.engine .a).state = .held ∧ (h.engine .a).holdCount = some 1 ∧ h.lockHolds .a
      ∧ (s.engine .a).state = .running ∧ s.lockHolds .a ∧ s.currentRecord .a = some (.soak (soakAt 1101))
      ∧ (1000 : Int) < (soakAt 1101).target - (soakAt 1101).tolerance
      ∧ (s.engine .a).soakRemaining = some (0 + 1) ∧ (s.engine .a).undershootCount = 599 := by decide

/-- A COOL and a CATALYST a tenth of a degree short of their ends, at their time limits. -/
theorem wit_CountedEndingsAbortCycle_limits :
    let at_ := fun (r : SegmentRecord) =>
      let s := cycle { engineIn .running with segmentElapsed := 59 } [r]
      s.events.outbox = [] ∧ s.lockHolds .a ∧ RanOut (s.engine .a).secondTimer 1000 ∧ (s.engine .a).state = .running
        ∧ s.currentRecord .a = some r ∧ s.unforced .a 1000
        ∧ s.GoesOn .a 1000 (s.engine .a) (s.lock .a).state r ∧ (s.engine .a).segmentElapsed + 1 = 60
    at_ (.cool 999 (some 60) 3) ∧ at_ (.catalyst 1201 (some 60)) := by
  refine ⟨⟨rfl, by decide, ranOut_of rfl, rfl, rfl, unforced_of _ _ _ rfl rfl rfl nofun, by unfold GoesOn; decide, rfl⟩,
    ⟨rfl, by decide, ranOut_of rfl, rfl, rfl, unforced_of _ _ _ rfl rfl rfl nofun, ?_, rfl⟩⟩
  rintro ⟨_, x, hx, h⟩
  cases hx
  exact absurd h (by decide)

/-- A RAMP with and without a rate a tenth of a degree short of its end, and a SOAK at its tolerance and below it, at
their time limits. -/
theorem wit_CountedEndingsAbortCycle_heating :
    let at_ := fun (r : SegmentRecord) (left under : Nat) =>
      let s := cycle { engineIn .running with segmentElapsed := 59, soakRemaining := some left,
                                              undershootCount := under } [r]
      s.events.outbox = [] ∧ s.lockHolds .a ∧ RanOut (s.engine .a).secondTimer 1000 ∧ (s.engine .a).state = .running
        ∧ s.currentRecord .a = some r ∧ s.unforced .a 1000 ∧ (s.engine .a).segmentElapsed + 1 = 60
        ∧ (s.engine .a).setpoint = some 1000 ∧ (s.engine .a).soakRemaining = some left
        ∧ (s.engine .a).undershootCount = under ∧ (s.engine .a).soakSeconds < 4294967295
    let step_ := .ramp { rampTo 1051 with rate := none, timeLimit := some 60 }
    at_ (.ramp { rampTo 1051 with timeLimit := some 60 }) 0 0 ∧ (1000 : Int) < 1051 - 50 ∧ at_ step_ 0 0
      ∧ (running [step_]).GoesOn .a 1000 (engineIn .running) .engaged step_
      ∧ at_ (.soak { soakAt 1100 with timeLimit := some 60 }) (0 + 2) 599 ∧ (1100 : Int) - 100 ≤ 1000
      ∧ at_ (.soak { soakAt 1101 with timeLimit := some 60 }) (0 + 1) 598 ∧ (1000 : Int) < 1101 - 100
      ∧ 598 < 599 := by
  refine ⟨?_, by decide, ?_, Or.inr (by decide), ?_, by decide, ?_, by decide, by decide⟩ <;>
    exact ⟨rfl, by decide, ranOut_of rfl, rfl, rfl, unforced_of _ _ _ rfl rfl rfl nofun, rfl, rfl, rfl, rfl,
      by decide⟩

/-- The last second of a SOAK before a COOL that goes on, outside single-step. -/
theorem wit_SoakCountdownEndsSegment_next :
    let s := cycle { engineIn .running with soakRemaining := some 1 } [.soak (soakAt 1100), .cool 999 none 3]
    s.currentRecord .a = some (.soak (soakAt 1100)) ∧ (s.engine .a).state = .running ∧ s.unforced .a 1000
      ∧ (s.engine .a).soakRemaining = some 1 ∧ 1 < (s.program .a).length ∧ (s.engine .a).singleStep = false
      ∧ nextGoesOn s (s.engine .a) (s.lock .a) (.cool 999 none 3) :=
  ⟨rfl, rfl, unforced_of _ _ _ rfl rfl rfl nofun, rfl, by decide, rfl, rfl, rfl, nofun, by unfold GoesOn; decide⟩

theorem wit_SoakCountdownEndsSegment :
    let s := soaking 1100 1 0
    let h := cycle { engineIn .running with soakRemaining := some 1, singleStep := true }
      [.soak (soakAt 1100), .release]
    s.events.outbox = [] ∧ (s.engine .a).state = .running ∧ (s.engine .a).secondTimer = some 1000
      ∧ (s.engine .a).segmentIndex = some 1 ∧ s.currentRecord .a = some (.soak (soakAt 1100))
      ∧ (soakAt 1100).target - (soakAt 1100).tolerance ≤ (1000 : Int) ∧ (s.engine .a).soakRemaining = some 1
      ∧ (s.program .a).length = 1 ∧ s.events.queue.length ≤ 14
      ∧ h.currentRecord .a = some (.soak (soakAt 1100)) ∧ (h.engine .a).state = .running
      ∧ (h.engine .a).soakRemaining = some 1 ∧ 1 < (h.program .a).length ∧ (h.engine .a).singleStep = true := by
  decide

/-! ## Witnesses: measurement -/

/-- A channel under conversion with an entry. -/
def converting (ch : Channel) (o : Origin) (e : ChannelEntry) : State :=
  (ready.setChannel ch e).setConverter ⟨ch, o, 50, 8, none⟩

/-- The codes of a row of the worked conversions give 12.9 °C. -/
theorem code_129 : convert 21000 40000 = ⟨.temperature, some 10500, some 129, none⟩ := by decide +kernel

theorem wit_ConversionArithmetic :
    let r := fun (rtd ref : Nat) => (rtd * 20000 + ref / 2) / ref
    r 13998 40000 < 7000 ∧ 7000 ≤ r 13999 40000 ∧ r 16060 40000 ≤ 8030 ∧ r 62742 40000 = 31371
      ∧ 31372 ≤ r 62744 40000 ∧ r 52500 30000 ≤ 35000 ∧ 35000 < r 52501 30000
      ∧ r 20000 40000 = 10000 ∧ (8031 ≤ r 16061 40000 ∧ r 16061 40000 < 10000)
      ∧ (29749 ≤ r 62740 40000 ∧ r 62740 40000 < 31371) := by decide +kernel

/-- A conversion of each origin at its 50 ms, and one a millisecond short of them. -/
theorem wit_NextConversionIsChosen :
    let s := converting .front .scan (validAt 100)
    let d := converting .front .sample (validAt 100)
    s.events.outbox = [] ∧ s.converter.origin = .scan ∧ 50 ≤ s.converter.elapsed ∧ d.converter.origin = .sample
      ∧ 50 ≤ d.converter.elapsed
      ∧ (s.setConverter { s.converter with elapsed := 49 }).converter.elapsed < 50 := by decide

/-- A temperature at the edge of the agreement window of each kind of channel, in VALID and out of it. -/
theorem wit_AgreeingTemperatureIsAccepted :
    let at_ := fun (ch : Channel) (st : ChannelState) (p : Int) (w : Nat) =>
      let s := converting ch .scan { validAt p with state := st }
      s.converter.origin = .scan ∧ 50 ≤ s.converter.elapsed ∧ (s.channel s.converter.channel).state ≠ .failed
        ∧ (s.channel s.converter.channel).previousRaw = some p ∧ (129 - p).natAbs ≤ w
    at_ (.cav .a) .valid 99 30 ∧ at_ (.cat .b) .stale 179 50 ∧ at_ .front .warmup 109 20
      ∧ (converting (.cav .a) .scan (validAt 99)).f (.cav .a) = some 99 := by decide

/-- The codes of the cases below give 85.0, 110.0 and 580.0 °C. -/
theorem codes_of_limits :
    (convert 26556 40000).temperature = some 850 ∧ (convert 28454 40000).temperature = some 1100
      ∧ (convert 61444 40000).temperature = some 5800 := by decide +kernel

/-- A state after the completion of a scan conversion. -/
def afterScan (rtd : BitVec 16) (s : State) (p : State → Bool) : Bool :=
  after (.scanConversionComplete rtd 40000) s p

def withFan (x : Fan) (s : State) : State := s.setFan x

/-- A state whose fan stands still. -/
def fanOff (s : State) : State := s.setFan { s.fan with level := 0, watch := .off, grace := none }

/-- FRONT at 85.0 and 110.0 °C; a cavity that reaches 580.0 °C, and one above its ceiling in a cycle. -/
theorem wit_AgreeingTemperatureIsAccepted_readers :
    let front := fun (x : Int) => converting .front .scan (validAt x)
    let cav := fun (x : Int) (s : State) =>
      (s.setChannel (.cav .a) (validAt x)).setConverter ⟨.cav .a, .scan, 50, 8, none⟩
    let above := cav 1100 (running [.cool 0 none 3])
    afterScan 26556 (front 850) (fun t => decide (t.f .front = some 850))
      ∧ afterScan 28454 (front 1100) (fun t => decide (t.f .front = some 1100 ∧ t.fan.frontHotInhibit = true))
      ∧ afterScan 61444 (cav 5800 ready) (fun t => decide (t.f (.cav .a) = some 5800))
      ∧ (cav 5800 ready).sup.overheat.get .a = false
      ∧ afterScan 28454 above (fun t => decide (t.f (.cav .a) = some 1100)) ∧ above.inCycle .a = true
      ∧ above.currentRecord .a ≠ none ∧ (above.engine .a).ceiling = some 1000 ∧ (above.lock .a).releasePending = none
      := by decide +kernel

/-- A release that waits under KEEP, and the return to VALID in the band below, which is FREE. -/
theorem wit_AgreeingTemperatureIsAccepted_release :
    let s := (withLock { lockOf .engaged false true with releasePending := some .host }
      (converting (.cav .a) .scan { validAt 1100 with state := .stale })).setBandIndex .a .over
    s.inCycle .a = false ∧ (s.lock .a).state = .engaged ∧ (s.lock .a).releasePending ≠ none ∧ s.policy .a ≠ .free
      ∧ afterScan 28454 s (fun t => decide (t.policy .a = .free)) ∧ s.IndexOverUnlessValid :=
  ⟨by decide, by decide, nofun, by decide, by decide +kernel, indexOver_of rfl⟩

/-- A cycle above its ceiling in the band it was in, with the band index as every step keeps it. -/
theorem wit_AgreeingTemperatureIsAccepted_overshoot :
    let s := ((running [.cool 0 none 3]).setChannel (.cav .a) (validAt 1100)).setConverter ⟨.cav .a, .scan, 50, 8, none⟩
    s.IndexOverUnlessValid ∧ s.inCycle .a = true ∧ (s.engine .a).ceiling = some 1000
      ∧ afterScan 28454 s (fun t => decide (t.policy .a = s.policy .a)) :=
  ⟨indexOver_of rfl, rfl, rfl, by decide +kernel⟩

/-- A COOL at its target and a RAMP 5.0 °C below its own end by a new F, before a RELEASE in a band that stays; a COOL a
tenth of a degree above its target and a SOAK go on. -/
theorem wit_AgreeingTemperatureIsAccepted_done :
    let at_ := fun (r : SegmentRecord) (ends : Bool) =>
      let s := ((cycle { engineIn .running with setpoint := some 1150, ceiling := some 1100 } [r, .release]).setChannel
        (.cav .a) (validAt 1100)).setConverter ⟨.cav .a, .scan, 50, 8, none⟩
      s.inCycle .a = true ∧ s.currentRecord .a = some r ∧ (s.lock .a).state ≠ .faulted
        ∧ (s.engine .a).ceiling = some 1100 ∧ (s.engine .a).state = .running ∧ (s.engine .a).segmentIndex = some 1
        ∧ (ends = true ↔ ¬ s.GoesOn .a 1100 (s.engine .a) (s.lock .a).state r)
        ∧ (s.lock .a).releasePending = none ∧ s.IndexOverUnlessValid
        ∧ afterScan 28454 s (fun t => decide (t.f (.cav .a) = some 1100)) = true
        ∧ recordAt (s.program .a) 2 = some .release
    at_ (.cool 1100 none 3) true ∧ at_ (.ramp (rampTo 1150)) true ∧ at_ (.cool 1099 none 3) false
      ∧ at_ (.ramp (rampTo 1151)) false := by
  refine ⟨?_, ?_, ?_, ?_⟩ <;>
    exact ⟨rfl, rfl, nofun, rfl, rfl, rfl, by unfold GoesOn; decide, rfl, indexOver_of rfl, by decide +kernel, rfl⟩

/-- A release that waits in a cycle, taken at the return to VALID in the band below, which is FREE. -/
theorem wit_AgreeingTemperatureIsAccepted_release_in_cycle :
    let s := ((withLock { lockOf .engaged false true with releasePending := some .engine }
      (cycle { engineIn .running with ceiling := some 1100 } [.release])).setChannel (.cav .a)
        { validAt 1100 with state := .stale }).setConverter ⟨.cav .a, .scan, 50, 8, none⟩ |>.setBandIndex .a .over
    s.inCycle .a = true ∧ s.currentRecord .a = some .release ∧ s.IndexOverUnlessValid
      ∧ (s.engine .a).ceiling = some 1100 ∧ (s.lock .a).state = .engaged ∧ (s.lock .a).releasePending ≠ none
      ∧ s.policy .a ≠ .free ∧ s.GoesOn .a 1100 (s.engine .a) (s.lock .a).state .release
      ∧ afterScan 28454 s (fun t => decide (t.policy .a = .free)) = true :=
  ⟨rfl, rfl, indexOver_of rfl, rfl, rfl, nofun, by decide, nofun, by decide +kernel⟩

/-- An F_cat 20.0 °C below the target of a CATALYST ends it, and one a tenth of a degree lower does not. -/
theorem wit_AgreeingTemperatureIsAccepted_catalyst :
    let at_ := fun (target : Int) (ends : Bool) =>
      let s := ((running [.catalyst target none]).setChannel (.cat .a) (validAt 1100)).setConverter
        ⟨.cat .a, .scan, 50, 8, none⟩
      s.inCycle .a = true ∧ s.currentRecord .a = some (.catalyst target none) ∧ s.unforced .a 1000
        ∧ (s.engine .a).state = .running ∧ (s.engine .a).segmentIndex = some 1
        ∧ afterScan 28454 s (fun t => t.isValid (.cat .a) && decide (t.f (.cat .a) = some 1100)
            && (decide (target - 200 ≤ 1100) == ends)) = true
    at_ 1300 true ∧ at_ 1301 false := by
  refine ⟨?_, ?_⟩ <;> exact ⟨rfl, rfl, unforced_of _ _ _ rfl rfl rfl nofun, rfl, rfl, by decide +kernel⟩

/-- A state that waits for the measurement of cavity A's channel alone. -/
def unmeasured (e : ChannelEntry) : State :=
  let s := converting (.cav .a) .scan { e with state := .warmup }
  s.setSup { s.sup with readiness := false, driveEnable := false, measured := s.sup.measured.set (.cav .a) false }

/-- The last channel that the part's readiness waits for becomes VALID, and one fails. -/
theorem wit_AgreeingTemperatureIsAccepted_ready :
    (unmeasured (validAt 129)).sup.readiness = false
      ∧ afterScan 21000 (unmeasured (validAt 129)) (fun t => t.sup.readiness && t.sup.driveEnable
          && decide (t.events.queue.map (·.body) = [.ready])) = true
      ∧ after (.scanConversionComplete 52501 30000)
          (unmeasured { validAt 0 with runClass := some .openCircuit, runCount := 1 })
          (fun t => t.sup.readiness && t.isFailed (.cav .a)) = true := by decide +kernel

/-- FRONT at 85.0 °C raises the fan from 0 and from 1; its return to VALID takes the fan from 3 to 0, in GRACE and in
WATCHING. -/
theorem wit_AgreeingTemperatureIsAccepted_watch :
    let front := converting .front .scan (validAt 850)
    let back := fun (w : TachoWatch) =>
      (withFan { ready.fan with cavityDemand := .all 0, frontInvalid := 3, level := 3, watch := w, grace := none }
        (converting .front .scan { validAt 129 with state := .stale })).setBandIndex .a (.band 0) |>.setBandIndex .b
          (.band 0)
    (fanOff front).fan.level = 0 ∧ (fanOff front).fan.watch = .off
      ∧ afterScan 26556 (fanOff front) (fun t => decide (0 < t.fan.level))
      ∧ 0 < front.fan.level ∧ afterScan 26556 front (fun t => decide (0 < t.fan.level))
      ∧ 0 < (back .grace).fan.level ∧ (back .grace).fan.watch = .grace
      ∧ afterScan 21000 (back .grace) (fun t => decide (t.fan.level = 0))
      ∧ (back .watching).fan.watch = .watching
      ∧ afterScan 21000 (back .watching) (fun t => decide (t.fan.level = 0)) := by decide +kernel

theorem wit_OtherScanResultsOnlyCount_failed :
    let s := converting (.cav .a) .scan { validAt 0 with state := .failed }
    s.events.outbox = [] ∧ s.converter.origin = .scan ∧ 50 ≤ s.converter.elapsed
      ∧ (s.channel s.converter.channel).state = .failed := by decide

/-- The first temperature, one just outside the window at the seventh disagreement in a row, and each class without a
temperature one short of its limit. -/
theorem wit_OtherScanResultsOnlyCount :
    let at_ := fun (e : ChannelEntry) =>
      let s := converting (.cav .a) .scan e
      s.events.outbox = [] ∧ s.converter.origin = .scan ∧ (s.channel s.converter.channel).state ≠ .failed
        ∧ (s.channel s.converter.channel).disagreements < 7
    at_ { ChannelEntry.reset with disagreements := 6 } ∧ ChannelEntry.reset.previousRaw = none
      ∧ at_ (validAt 98) ∧ (agreementWindow (.cav .a)).toNat < ((129 : Int) - 98).natAbs
      ∧ (convert 52501 30000).cls = .openCircuit ∧ (convert 13998 40000).cls = .shortCircuit
      ∧ (convert 0 19999).cls = .reference
      ∧ at_ { validAt 0 with runClass := some .reference, runCount := 6 } ∧ 6 + 1 < 8 ∧ 1 < 2 := by decide +kernel

/-- The last disagreement of each of the four causes. -/
theorem wit_RepeatedFailureFailsChannel :
    let at_ := fun (e : ChannelEntry) =>
      let s := converting (.cav .a) .scan e
      s.converter.origin = .scan ∧ 50 ≤ s.converter.elapsed ∧ (s.channel s.converter.channel).state ≠ .failed
    let run := fun (k : NoTempClass) (n : Nat) => { validAt 0 with runClass := some k, runCount := n }
    at_ (run .openCircuit 1) ∧ (convert 52501 30000).cls = .openCircuit
      ∧ at_ (run .shortCircuit 1) ∧ (convert 13998 40000).cls = .shortCircuit
      ∧ at_ (run .reference 7) ∧ (convert 0 19999).cls = .reference
      ∧ at_ { validAt 98 with disagreements := 7 } ∧ (convert 21000 40000).cls = .temperature
      ∧ (convert 21000 40000).temperature = some 129
      ∧ (agreementWindow (.cav .a)).toNat < ((129 : Int) - 98).natAbs := by decide +kernel

/-- An eighth disagreement without a temperature that completes no run: a REFERENCE whose run reaches 7, and an OPEN
that starts a run; and a fan that stands still when FRONT fails or becomes STALE. -/
theorem wit_RepeatedFailureFailsChannel_erratic :
    let at_ := fun (e : ChannelEntry) (k : NoTempClass) (limit : Nat) =>
      let s := converting .front .scan e
      (s.channel s.converter.channel).state ≠ .failed ∧ (s.channel s.converter.channel).disagreements = 7
        ∧ (if e.runClass = some k then e.runCount + 1 else 1) < limit
    let run := fun (n : Nat) => { validAt 0 with runClass := some .reference, runCount := n, disagreements := 7 }
    at_ (run 6) .reference 8 ∧ (convert 0 19999).cls = .reference ∧ at_ (run 6) .openCircuit 2
      ∧ (convert 52501 30000).cls = .openCircuit ∧ at_ (run 6) .shortCircuit 2
      ∧ (convert 13998 40000).cls = .shortCircuit
      ∧ (fanOff (converting .front .scan (run 6))).fan.level = 0
      ∧ (fanOff (converting .front .scan (run 6))).fan.watch = .off := by decide +kernel

/-- A cycle whose cavity channel, and whose catalyst channel with and without regulation, is under conversion. -/
theorem wit_RepeatedFailureFailsChannel_cycle :
    let at_ := fun (ch : Channel) (x : CatRegulation) =>
      let s := (cycle { engineIn .running with catalyst := x } [.soak (soakAt 1000)]).setConverter
        ⟨ch, .scan, 50, 8, none⟩
      s.inCycle .a = true ∧ s.currentRecord .a = some (.soak (soakAt 1000)) ∧ s.unforced .a 1000
        ∧ (s.engine .a).catalyst = x ∧ (s.channel ch).state ≠ .failed
        ∧ s.GoesOn .a 1000 (s.engine .a) (s.lock .a).state (.soak (soakAt 1000))
    at_ (.cav .a) .off ∧ at_ (.cat .a) (.on 1000) ∧ at_ (.cat .a) (.suspended 1000) ∧ at_ (.cat .a) .off := by
  refine ⟨?_, ?_, ?_, ?_⟩ <;>
    exact ⟨rfl, rfl, unforced_of _ _ _ rfl rfl rfl nofun, rfl, nofun, nofun⟩

/-- A cycle whose channels are due at their limits, and one a millisecond short of its own. -/
theorem wit_StalenessEndsValid :
    let late := fun (ch : Channel) (n : Nat) =>
      (cycle { engineIn .running with catalyst := .on 1000 } [.ramp (rampTo 5000)]).setChannel ch
        { validAt 1000 with staleness := some n }
    let due := fun (ch : Channel) (n : Nat) => (late ch n).isValid ch = true
      ∧ RanOut ((late ch n).channel ch).staleness n ∧ (late ch n).inCycle .a = true
      ∧ (late ch n).currentRecord .a ≠ none ∧ (late ch n).unforced .a 1000 ∧ ((late ch n).engine .a).catalyst ≠ .off
    due (.cav .a) 1000 ∧ due (.cat .a) 2000 ∧ due .front 3000 ∧ State.reset.isValid .front = false
      ∧ ¬ RanOut ((late (.cav .a) 999).channel (.cav .a)).staleness 1000 := by
  refine ⟨?_, ?_, ?_, rfl, not_ranOut_of rfl⟩ <;>
    exact ⟨rfl, ranOut_of rfl, rfl, nofun, unforced_of _ _ _ rfl rfl rfl nofun, nofun⟩

/-- A rate of 40.0 °C per minute that no element explains, one just below it, and one that is explained. -/
theorem wit_RateTimerJudgesRunaway :
    let at_ := fun (mark : Int) (held : Bool) =>
      let s := (ready.setRate .a ⟨some mark, some 6000, none⟩).setAlloc
        { ready.alloc with slotUse := .all ⟨held, false⟩ }
      s.events.outbox = [] ∧ (s.rateOf .a).timer = some 6000 ∧ s.isValid (.cav .a) = true
        ∧ s.f (.cav .a) = some 1000 ∧ (s.rateOf .a).mark = some mark ∧ s.sup.runaway.get .a = false
        ∧ (s.alloc.slotUse.get .a).heldThis = held
    at_ 960 false ∧ 400 ≤ max (-9990) (min (((1000 : Int) - 960) * 10) 9990)
      ∧ at_ 961 false ∧ ¬ 400 ≤ max (-9990) (min (((1000 : Int) - 961) * 10) 9990)
      ∧ at_ 0 true ∧ (ready.rateOf .a).timer = none := by decide

/-- A band up, down, held by the hysteresis and unchanged. -/
theorem wit_BandLookupAndHysteresis :
    (BandIndex.band 2).rank < (lookup defaultBands 3200).rank
      ∧ (lookup defaultBands 3149).rank < (BandIndex.band 3).rank
      ∧ (lookup defaultBands 3150).rank < (BandIndex.band 3).rank
      ∧ lookup defaultBands 3199 = .band 2 ∧ lookup defaultBands 6000 = .over := by decide

/-! ## Witnesses: power -/

/-- Cavity A heats in a RAMP with its catalyst ON; A.TOP may be granted, B.TOP may not, A.RING is not fitted. -/
def heating : State :=
  (cycle { engineIn .running with catalyst := .on 1000 } [.ramp (rampTo 1051)]).setTables
    { ready.tables with
      programs := ⟨[.ramp (rampTo 1051)], []⟩
      ratings := ⟨{ defaultRatings with ring := 0 }, defaultRatings⟩ }

theorem wit_DemandFollowsTemperature :
    heating.permission ⟨.b, .top⟩ = false
      ∧ (heating.permission ⟨.a, .ring⟩ = true ∧ heating.fitted ⟨.a, .ring⟩ = false)
      ∧ (heating.permission ⟨.a, .top⟩ = true ∧ heating.fitted ⟨.a, .top⟩ = true
        ∧ heating.heatCommand .a = some ⟨1000, .all, 4, 200⟩ ∧ heating.f (.cav .a) = some 1000)
      ∧ (heating.permission ⟨.a, .cat⟩ = true ∧ heating.fitted ⟨.a, .cat⟩ = true
        ∧ (heating.engine .a).catalyst = .on 1000 ∧ heating.f (.cat .a) = some 1000) := by decide

/-- A window start that is due at the end of a reset and at the end of slot 15, and a moment that has none. -/
theorem wit_WindowStartBuildsPlan :
    let last := ready.setAlloc { ready.alloc with slot := some 15, slotElapsed := 1000 }
    ready.events.outbox = [] ∧ (∀ c, (ready.rateOf c).rate = none) ∧ State.reset.alloc.slot = none
      ∧ (last.alloc.slot = some 15 ∧ 1000 ≤ last.alloc.slotElapsed)
      ∧ ¬ (ready.alloc.slot = none ∨ (ready.alloc.slot = some 15 ∧ 1000 ≤ ready.alloc.slotElapsed)) := by
  refine ⟨rfl, fun c => ?_, rfl, by decide, by decide⟩
  cases c <;> rfl

/-- The shift brings RUNAWAY at 40.0 °C per minute to a cavity that held a slot before the last window alone; it brings
none at 39.9, where the last window held one, and where RUNAWAY is latched already. -/
theorem wit_WindowStartBuildsPlan_runaway :
    let at_ := fun (rate : Int) (u : SlotUse) (latched : Bool) =>
      let s := ready.setAlloc { ready.alloc with slot := some 15, slotElapsed := 1000, slotUse := ⟨u, ⟨false, false⟩⟩ }
      (s.setRate .a ⟨some 0, some 0, some rate⟩).setSup { s.sup with runaway := ⟨latched, false⟩ }
    (at_ 400 ⟨false, true⟩ false).RunawayAtShift .a ∧ (at_ 400 ⟨false, true⟩ false).events.outbox = []
      ∧ (∀ c, ¬ (at_ 399 ⟨false, true⟩ false).RunawayAtShift c)
      ∧ (∀ c, ¬ (at_ 9990 ⟨true, true⟩ false).RunawayAtShift c)
      ∧ (∀ c, ¬ (at_ 9990 ⟨false, true⟩ true).RunawayAtShift c) := by
  refine ⟨⟨⟨400, rfl, by decide⟩, rfl, rfl, rfl⟩, rfl, fun c => ?_, fun c => ?_, fun c => ?_⟩ <;> cases c <;>
    rintro ⟨⟨x, hx, h⟩, h1, h2, h3⟩ <;>
    first
    | exact absurd h1 (by decide)
    | exact absurd h2 (by decide)
    | exact absurd h3 (by decide)
    | (cases hx; exact absurd h (by decide))

/-- The walk of B.TOP in the worked allocation: slot 5 has no room, slot 6 has; then none more than its demand. -/
theorem wit_WalkPlacesEarliestSlots :
    let ratings : PerElement Nat := ⟨defaultRatings, defaultRatings⟩
    let demands : PerElement Nat := ⟨⟨16, 16, 16, 6⟩, ⟨12, 12, 0, 0⟩⟩
    let placed := [(⟨.a, .cat⟩ : Element), ⟨.a, .top⟩, ⟨.a, .bottom⟩].foldl
      (walkElement 3600 ratings demands) (.all .empty)
    let g := (walkElement 3600 ratings demands placed ⟨.b, .top⟩).get ⟨.b, .top⟩
    6 ∈ g.made ∧ ¬ slotSumOf placed ratings 5 + 1200 ≤ 3600
      ∧ (let h := (walkElement 3600 ratings demands (.all .empty) ⟨.b, .top⟩).get ⟨.b, .top⟩
        slotSumOf (.all .empty) ratings 12 + 1200 ≤ 3600 ∧ 12 ∉ h.made)
      ∧ demands.get ⟨.b, .ring⟩ = 0 ∧ 1999 < ratings.get ⟨.b, .ring⟩ := by decide +kernel

/-- The first and the last slot that a slot start begins, and where none starts. -/
theorem wit_SlotStartDrivesGrants :
    let at_ := fun (k : Option Nat) => ready.setAlloc { ready.alloc with slot := k, slotElapsed := 1000 }
    (at_ (some 0)).alloc.slot = some 0 ∧ (at_ (some 14)).alloc.slot = some 14 ∧ 14 < 15
      ∧ 1000 ≤ (at_ (some 14)).alloc.slotElapsed ∧ ready.alloc.slotElapsed < 1000
      ∧ (at_ (some 15)).alloc.slot = some 15 ∧ (at_ none).alloc.slot = none ∧ (at_ (some 14)).events.outbox = []
      ∧ (((at_ (some 14)).setRate .a ⟨some 0, some 0, some 9990⟩).rateOf .a).rate = some 9990 := by decide

/-! ## Witnesses: relays -/

def withTest (t : RelayTest) (s : State) : State := s.setDrive { s.drive with test := t }

/-- A relay test at the step of a relay, with the reading taken or not, and the relays still to come. -/
def testAt (reading : Option Bool) (todo : List Relay) (o : TestOrigin) : State :=
  withTest ⟨.inProgress, o, [.element ⟨.a, .top⟩, .master], some ⟨.element ⟨.a, .top⟩, false, reading, 200⟩, todo,
    .all .pass⟩ ready

/-- The master under drive enable, an element without a drive state, and a test drive with and without TRIP; a visit
that is due and one that is not. -/
theorem wit_RefreshVisitHoldsDrivenRelay :
    let m := ready.setDrive { ready.drive with walkPos := 8 }
    let t := (testAt none [] .request).setRelay (.element ⟨.a, .top⟩) { RelayEntry.reset with testDrive := true }
    (m.testing = false ∧ m.sup.driveEnable = true ∧ ∀ e, Relay.master = .element e → m.drive.driveState.get e = true)
      ∧ (ready.testing = false ∧ ready.drive.driveState.get ⟨.a, .top⟩ = false)
      ∧ (t.testing = true ∧ (t.relay (.element ⟨.a, .top⟩)).testDrive = true ∧ t.sup.trip = false)
      ∧ (t.setSup { t.sup with trip := true }).sup.trip = true ∧ 2 ≤ ready.clock.sinceVisit
      ∧ { ready.clock with sinceVisit := 1 }.sinceVisit < 2 :=
  ⟨⟨rfl, rfl, nofun⟩, by decide, by decide, rfl, by decide, by decide⟩

def withRelay (r : Relay) (x : RelayEntry) (s : State) : State := s.setRelay r x

theorem wit_SenseAndSettleMoveMismatch :
    let r : Relay := .element ⟨.a, .top⟩
    let s := withRelay r { RelayEntry.reset with sense := some true, settle := some 50 } ready
    let n := withRelay r { RelayEntry.reset with settle := some 50 } ready
    (s.relay r).sense = some true ∧ (s.relay r).sense ≠ some false ∧ s.events.outbox = []
      ∧ RanOut (s.relay r).settle 50 ∧ ¬ RanOut (ready.relay r).settle 50 ∧ ¬ RanOut (some 49) 50
      ∧ RanOut (n.relay r).settle 50 ∧ (n.relay r).sense = none ∧ ∃ q, q ≠ r ∧ (n.relay q).sense = none :=
  ⟨rfl, nofun, rfl, ranOut_of rfl, not_ranOut_of rfl, not_ranOut_of rfl, ranOut_of rfl, rfl, .master, nofun, rfl⟩

/-- Every contact but the master's has a level, with and without TRIP. -/
def lastMissing : State :=
  { State.reset with drive := { Drive.reset with
      entries := ⟨.all { RelayEntry.reset with sense := some false }, .reset⟩ } }

theorem wit_LastSenseLevelStartsTest :
    (lastMissing.relay .master).sense = none
      ∧ (∀ q, q ≠ .master → (lastMissing.relay q).sense ≠ none) ∧ lastMissing.sup.trip = false
      ∧ (lastMissing.setSup (.reset true)).sup.trip = true := by
  refine ⟨rfl, fun q hq => ?_, rfl, rfl⟩
  match q, hq with
  | .element ⟨c, h⟩, _ => cases c <;> cases h <;> decide
  | .master, hq => exact absurd rfl hq

/-- A RELAY TEST taken while the start-up test is PENDING: the last sense level still begins the start-up test. -/
theorem test_startup_test_after_requested_test :
    (match exec (.relayTest []) (lastMissing.setSup { ready.sup with trip := false }) with
      | .next t => match exec (.senseLevelChange .master false) t with
        | .next u => decide (t.drive.test.origin = .request ∧ u.drive.test.origin = .startUp
            ∧ u.drive.test.state = .inProgress)
        | _ => false
      | _ => false) = true := by decide +kernel

theorem wit_RelayTestBegins :
    let t := ready.setSup { ready.sup with trip := true }
    (t.takesLine ∧ t.events.outbox = [] ∧ t.sup.trip = true)
      ∧ ((testAt none [] .request).sup.trip = false ∧ (testAt none [] .request).testing = true)
      ∧ (let s := running [.engage]; s.sup.trip = false ∧ s.testing = false ∧ s.bothIdle = false)
      ∧ (ready.takesLine ∧ ready.sup.trip = false ∧ ready.testing = false ∧ ready.bothIdle = true) := by decide

theorem wit_TestStepsReadAndFixResult :
    let n := testAt none [] .request
    let s := testAt (some true) [.master] .request
    n.testing = true ∧ n.events.outbox = []
      ∧ n.drive.test.step = some ⟨.element ⟨.a, .top⟩, false, none, 200⟩ ∧ 100 ≤ 200 ∧ 99 < 100 ∧ 199 < 200
      ∧ s.testing = true ∧ s.drive.test.step = some ⟨.element ⟨.a, .top⟩, false, some true, 200⟩
      ∧ s.drive.test.todo = .master :: []
      ∧ (withTest { RelayTest.reset with state := .inProgress } ready).drive.test.step = none := by decide

/-- A test that every relay passes, and one whose last contact stays closed. -/
theorem wit_TestCompletionAppliesResults :
    let s := testAt (some true) [] .startUp
    let w := withRelay (.element ⟨.a, .top⟩) { RelayEntry.reset with sense := some true } s
    s.testing = true ∧ s.drive.test.step = some ⟨.element ⟨.a, .top⟩, false, some true, 200⟩
      ∧ s.drive.test.todo = [] ∧ s.drive.test.origin = .startUp
      ∧ (∀ r ∈ s.drive.test.visitList, s.drive.test.results.get r = .pass)
      ∧ (s.relay (.element ⟨.a, .top⟩)).sense ≠ some true
      ∧ w.testing = true ∧ (w.relay (.element ⟨.a, .top⟩)).sense = some true := by decide

/-- A passing test over an element that held ELEMENT_OPEN, one that was WELDED, and the master's welded fault; and one
whose last relay is found open. -/
theorem wit_TestCompletionAppliesResults_records :
    let e : Element := ⟨.a, .top⟩
    let s := testAt (some true) [] .request
    let p := s.setDrive { s.drive with elementOpen := s.drive.elementOpen.set e true, masterWelded := true }
    let h := withRelay (.element e) { RelayEntry.reset with health := .welded } s
    let o := testAt (some false) [] .request
    Relay.element e ∈ p.drive.test.visitList ∧ p.drive.elementOpen.get e = true ∧ p.drive.masterWelded = true
      ∧ (∀ r ∈ p.drive.test.visitList, p.drive.test.results.get r = .pass)
      ∧ (h.relay (.element e)).health = .welded
      ∧ o.drive.test.step = some ⟨.element e, false, some false, 200⟩ ∧ o.drive.elementOpen.get e = false
      ∧ Relay.master ∈ s.drive.test.visitList ∧ (s.relay .master).health ≠ .welded := by decide

theorem wit_MismatchFindsOpenOrWelded :
    let e : Element := ⟨.a, .top⟩
    let open_ := withRelay (.element e)
      { RelayEntry.reset with mismatch := some 100, expectedClosed := true, sense := some false } ready
    let welded := withRelay (.element e) { RelayEntry.reset with mismatch := some 100, sense := some true } ready
    let master := withRelay .master { RelayEntry.reset with mismatch := some 100, sense := some true } ready
    let late := withRelay .master { RelayEntry.reset with mismatch := some 100, expectedClosed := true } ready
    ready.events.outbox = [] ∧ (ready.relay .master).mismatch = none
      ∧ ((late.relay .master).mismatch = some 100 ∧ (late.relay .master).expectedClosed = true)
      ∧ ((open_.relay (.element e)).mismatch = some 100 ∧ (open_.relay (.element e)).expectedClosed = true
        ∧ (open_.relay (.element e)).sense = some false ∧ (open_.relay (.element e)).health = .ok
        ∧ open_.drive.elementOpen.get e = false)
      ∧ ((welded.relay (.element e)).mismatch = some 100 ∧ (welded.relay (.element e)).expectedClosed = false
        ∧ (welded.relay (.element e)).sense = some true ∧ (welded.relay (.element e)).health ≠ .welded
        ∧ welded.drive.elementWelded = false)
      ∧ ((master.relay .master).mismatch = some 100 ∧ (master.relay .master).expectedClosed = false
        ∧ (master.relay .master).sense = some true ∧ (master.relay .master).health ≠ .welded
        ∧ master.drive.masterWelded = false) := by decide

/-! ## Witnesses: fan and supervision -/

/-- A grace and a pulse timer at their limits, one a millisecond short of its own, and none. -/
theorem wit_TachoWatchFindsStall :
    let g := withFan { ready.fan with watch := .grace, grace := some 3000 } ready
    let p := withFan { ready.fan with watch := .watching, grace := none, pulse := some 250 } ready
    RanOut g.fan.grace 3000 ∧ g.fan.watch = .grace ∧ ¬ RanOut State.reset.fan.grace 3000
      ∧ State.reset.fan.watch ≠ .watching ∧ ¬ RanOut (some 249) 250
      ∧ p.fan.watch = .watching ∧ RanOut p.fan.pulse 250 :=
  ⟨ranOut_of rfl, rfl, not_ranOut_of rfl, nofun, not_ranOut_of rfl, rfl, ranOut_of rfl⟩

/-- A level that rises from 0, one that falls to 0 in GRACE and in WATCHING, and one that does neither. -/
theorem wit_TachoWatchFindsStall_level :
    let low := { ready.fan with cavityDemand := .all 0, level := 3 }
    (fanOff ready).fan.level = 0 ∧ 0 < (fanOff ready).fan.greatest ∧ (fanOff ready).fan.watch = .off
      ∧ 0 < low.level ∧ low.greatest = 0 ∧ low.watch = .grace
      ∧ { low with watch := .watching }.greatest = 0 ∧ 0 < ready.fan.level ∧ 0 < ready.fan.greatest
      ∧ { low with level := 0, watch := .stalled }.greatest = 0 := by decide

theorem wit_OverheatLatchesAndTrips :
    let hot := ready.setSup { ready.sup with overheat := .all true, overheatTimer := .all (some 60000) }
    (5800 : Int) ≤ 5800 ∧ ¬ (5800 : Int) ≤ 5799 ∧ ready.sup.overheat.get .a = false
      ∧ hot.sup.overheat.get .a = true ∧ hot.sup.overheatTimer.get .a = some 60000
      ∧ (ready.setSup { ready.sup with overheat := .all true }).sup.overheatTimer.get .a = none
      ∧ hot.events.outbox = [] ∧ hot.sup.trip = false ∧ ready.sup.overheatTimer.get .a = none
      ∧ (hot.setSup { hot.sup with trip := true }).sup.trip = true := by decide

/-- The part idle with a latched stall, and a cycle. -/
theorem wit_ClearClearsLatchedFaults :
    let s := withFan { ready.fan with stall := true, watch := .stalled } ready
    s.takesLine ∧ s.events.outbox = [] ∧ s.bothIdle = true ∧ s.fan.stall = true ∧ s.fan.watch = .stalled
      ∧ (running [.engage]).bothIdle = false := by decide

/-- A FAULTED lock at each row of the table of adoption, the other lock faults with the door shut, a FAILED channel, an
open element, RUNAWAY and an OVERHEAT that has cooled to 549.9 °C. -/
theorem wit_ClearClearsLatchedFaults_owners :
    let stuck := fun (door home set : Bool) => withLock { lockOf .faulted home set with
      faults := ⟨true, true, true, true⟩, levels := ⟨some door, some home, some set⟩ } ready
    let at_ := fun (door home set : Bool) =>
      let s := stuck door home set
      s.takesLine ∧ s.bothIdle = true ∧ (s.lock .a).faults.stuck = true
        ∧ (s.lock .a).levels = ⟨some door, some home, some set⟩
    let s := (ready.setChannel .front { ChannelEntry.reset with state := .failed, cause := some .erratic }).setChannel
      (.cav .a) (validAt 5499)
    let u := s.setSup { s.sup with overheat := .all true, runaway := .all true }
    let v := u.setDrive { u.drive with elementOpen := .all true }
    at_ true false true ∧ at_ true true false ∧ at_ true false false ∧ at_ false false false ∧ at_ true true true
      ∧ (ready.lock .a).faults.stuck = false ∧ ((stuck true true true).lock .a).faults = ⟨true, true, true, true⟩
      ∧ v.bothIdle = true ∧ (v.channel .front).cause = some .erratic ∧ v.drive.elementOpen.get ⟨.a, .top⟩ = true
      ∧ v.sup.runaway.get .b = true ∧ v.sup.overheat.get .a = true
      ∧ after (.clear []) v (fun t => decide (t.sup.overheat.get .a = false)) := by decide +kernel

/-! ## Witnesses: the line -/

theorem wit_SampleWaitsForConversion :
    let s := ready.setConverter ⟨.front, .scan, 0, 0, some .front⟩
    ready.takesLine ∧ ready.converter.onDemand = none ∧ s.takesLine ∧ s.converter.onDemand ≠ none
      ∧ 5 ≤ (5 : Byte).toNat := by decide

def receiverIn (r : Receiver) : State := ready.setLink { ready.link with receiver := r }

/-- A receiver in each state, a low just short of 20 ms and one of 20 ms, the first and the last span of a pacing
character, and a length byte of 25. -/
theorem wit_ReceiverFollowsLine :
    (receiverIn (.inBreak 199)).takesLine ∧ (receiverIn (.inBreak 199)).link.receiver = .inBreak 199 ∧ 199 < 200
      ∧ (receiverIn (.inBreak 200)).link.receiver = .inBreak 200 ∧ 200 ≤ 200
      ∧ (receiverIn .lineFault).link.receiver = .lineFault
      ∧ (receiverIn .pacing).link.receiver = .pacing ∧ 833 ≤ 833 ∧ 833 ≤ 5556
      ∧ (receiverIn (.receiving 1000)).link.receiver = .receiving 1000 ∧ 24 < (25 : Byte).toNat
      ∧ (receiverIn .waitBreak).link.receiver ≠ .receiving 1000
      ∧ (receiverIn .waitBreak).link.receiver ≠ .inBreak 12 := by decide

/-- A low of 20 ms brings LINE_FAULT, and a shorter one does not (R171). -/
theorem test_low_of_20ms_brings_line_fault :
    (receiverIn (.inBreak 190)).millisecond.pending.contains .lineFault = true
      ∧ (receiverIn (.inBreak 189)).millisecond.pending.contains .lineFault = false
      ∧ (receiverIn (.inBreak 189)).millisecond.link.receiver = .inBreak 199 := by decide +kernel

/-- A frame whose check fails, another node's frame, and a broadcast that is not ALL STOP. -/
theorem wit_CollisionsAndOtherFrames :
    let s := ready.setLink { ready.link with transmitter := .waitingSample }
    let at_ := fun (bytes : List Byte) (good own : Bool) =>
      (parseFrame bytes).any fun f => decide (f.good = good) && decide ((f.address.toNat = 1) = (own = true))
    s.link.transmitter ≠ .idle ∧ ready.link.transmitter = .idle ∧ s.takesLine ∧ ready.link.nodeAddress.val + 1 = 1
      ∧ at_ [1, 1, 0, 0] false true = true ∧ at_ [2, 1, 0, crc8 [2, 1, 0]] true false = true
      ∧ at_ [0, 1, 0, crc8 [0, 1, 0]] true false = true := by decide +kernel

/-- The longest request to the last node, and the broadcast ALL STOP. -/
theorem wit_RequestFramesRoundTrip :
    1 ≤ 4 ∧ 4 ≤ 4 ∧ (Instr.replaceSegment (List.replicate 24 0xFF)).wellFormed = true
      ∧ (requestFrame 4 (.replaceSegment (List.replicate 24 0xFF))).isSome = true
      ∧ (requestFrame 1 (.allStop true [])).isSome = true ∧ (0x00 : Byte) ≠ 0xFF := by decide +kernel

/-! ## Witnesses: what every step keeps -/

/-- The heating cavity with a grant in force for slot 0, under a budget that it fills, and the start of slot 1 to
come. -/
def granted : State :=
  { heating with
    alloc := { heating.alloc with
      budgetInForce := 1200
      planRatings := ⟨defaultRatings, defaultRatings⟩
      grants := (PerElement.all Grants.empty).set ⟨.a, .top⟩ ⟨[0], none⟩
      slotElapsed := 1000 }
    fan := { heating.fan with cavityDemand := .all 1 }
    pending := [.slotStart] }

theorem granted_sum (k : Nat) : granted.slotSum k = if k = 0 then 1200 else 0 := by
  rcases k with _ | k
  · decide
  · simp [State.slotSum, slotSumOf, allElements, granted, Grants.inForce, PerElement.get, PerElement.set,
      PerElement.all, PerHeater.get, PerHeater.set, PerHeater.all, Grants.empty]

theorem wit_PlanStaysWithinBudget : granted.PlanWithinBudget ∧ ∃ t, step granted = .next t := by
  refine ⟨fun k => ?_, _, rfl⟩
  rw [granted_sum]
  split <;> decide

theorem wit_PlanStaysWithinBudget_settings :
    (∃ t, exec (.setBudget (budgetPayload 1000)) granted = .next t)
      ∧ ∃ t, exec (.setElement (ratingPayload ⟨.a, .top⟩ 0)) granted = .next t := ⟨⟨_, rfl⟩, _, rfl⟩

theorem granted_permitted : granted.GrantsPermitted := by
  rintro ⟨c, h⟩
  cases c <;> cases h <;> decide

theorem granted_validHasF : granted.ValidHasF := by
  intro ch
  match ch with
  | .cav .a | .cav .b | .cat .a | .cat .b | .front => decide

theorem wit_GrantsStayPermitted :
    granted.GrantsPermitted ∧ granted.ValidHasF ∧ granted.holdsGrant ⟨.a, .top⟩ = true
      ∧ ∃ t, step granted = .next t :=
  ⟨granted_permitted, granted_validHasF, by decide, _, rfl⟩

theorem granted_enable : granted.EnableFollows := by
  refine ⟨⟨fun _ => ⟨rfl, rfl, rfl, rfl, fun c => ?_, fun c => ?_⟩, fun _ => rfl⟩, rfl, rfl, rfl, rfl⟩ <;>
    cases c <;> rfl

theorem wit_FanAndEnableStayFollowing_enable : granted.EnableFollows ∧ ∃ t, step granted = .next t :=
  ⟨granted_enable, _, rfl⟩

theorem wit_FanAndEnableStayFollowing_fan :
    granted.FanFollows ∧ granted.ValidHasF ∧ granted.IndexOverUnlessValid ∧ ∃ t, step granted = .next t := by
  refine ⟨⟨by decide, fun c => ?_, by decide, by decide⟩, granted_validHasF, fun c => ?_, _, rfl⟩ <;>
    cases c <;> decide

theorem default_ascends : BandsAscend defaultBands := ⟨4, by decide, by decide, by decide, by decide⟩

theorem wit_BandTablesStayOrdered_kept : granted.BandsLegal ∧ ∃ t, step granted = .next t := by
  refine ⟨fun c => ⟨?_, fun n => ?_⟩, _, rfl⟩
  · cases c <;> exact default_ascends
  · have h : ∀ n : Fin 8, 0 ≤ defaultBands[n].limit ∧ defaultBands[n].limit ≤ 6000
        ∧ defaultBands[n].fanFloor ≤ 3 := by decide
    cases c <;> exact h n

theorem wit_BandTablesStayOrdered_resets :
    (∃ t, exec .powerOnReset granted = .next t) ∧ ∃ t, exec .externalReset granted = .next t := ⟨⟨_, rfl⟩, _, rfl⟩

/-- A limit of band 2 that equals that of band 3. -/
theorem wit_BandTablesStayOrdered_refused :
    let r : BandRecord := ⟨3200, true, .free, 0, .all, .none⟩
    ready.takesLine ∧ ready.events.outbox = [] ∧ ready.tables.frozen = false ∧ ready.tableLocks.get .a = false
      ∧ r.limit = clampInt 3200 0 6000 ∧ r.fanFloor = min 0 3
      ∧ ¬ BandsAscend ((ready.bandTable .a).set (1 : Fin 8) r) := by
  refine ⟨by decide, rfl, rfl, rfl, by decide, by decide, ?_⟩
  rintro ⟨k, _, _, h1, h2⟩
  have e : (2 : Fin 8).val < k := (h1 2).mp (by decide)
  exact absurd (h2 1 2 (by decide) e) (by decide)

theorem wit_StandingConditionsStay : ∃ t, step granted = .next t := ⟨_, rfl⟩

theorem wit_StandingConditionsStay_premises :
    granted.PowerLegal ∧ granted.TableLockFollows ∧ granted.QueueLegal := by
  refine ⟨⟨by decide, by decide, ?_⟩, fun c => ?_, by decide, rfl⟩
  · rintro ⟨c, h⟩
    cases c <;> cases h <;> decide
  · cases c <;> decide

theorem wit_StandingConditionsStay_programs : granted.ProgramsLegal := by
  have h : ∀ r ∈ granted.program .a, RecordLegal r := by
    intro r hr
    have e : r = .ramp (rampTo 1051) := by
      simpa [granted, heating, State.program, State.setTables, PerCavity.get] using hr
    subst e
    refine ⟨by unfold TargetLegal; decide, ?_, ?_, by decide, by decide, by decide, by decide⟩
    · intro x hx
      cases hx
      decide
    · intro l hl
      cases hl
  intro c
  cases c
  · exact ⟨by decide, h⟩
  · exact ⟨by decide, fun r hr => by cases hr⟩

theorem wit_StandingConditionsStay_locks : granted.LocksLegal := by
  intro c
  cases c <;> exact ⟨trivial, by decide, by decide, by decide, by decide⟩

/-- A part frozen, with TRIP and every latched fault, through an event that is none of those that end them. -/
theorem wit_LatchedStateStays :
    let s := ready.setSup { ready.sup with trip := true, overheat := .all true, runaway := .all true }
    let t := withFan { s.fan with stall := true } (s.setTables { s.tables with frozen := true })
    let u := t.setDrive { t.drive with elementWelded := true, masterWelded := true, elementOpen := .all true }
    let v := (u.setChannel .front { ChannelEntry.reset with state := .failed }).setLock .a (lockOf .faulted true true)
    let w := v.setLock .b { lockOf .faulted true true with faults := ⟨true, true, true, true⟩ }
    (∃ x, exec .tachoPulse w = .next x) ∧ Instr.tachoPulse ≠ .powerOnReset ∧ Instr.tachoPulse ≠ .externalReset
      ∧ Instr.tachoPulse ≠ .testStepEnd ∧ w.sup.trip = true ∧ w.sup.readiness = true ∧ w.tables.frozen = true
      ∧ w.drive.elementWelded = true ∧ w.drive.masterWelded = true ∧ w.isFailed .front = true
      ∧ (w.lock .b).faults.stuck = true ∧ w.fan.stall = true ∧ w.sup.overheat.get .a = true
      ∧ w.sup.runaway.get .b = true ∧ w.drive.elementOpen.get ⟨.a, .top⟩ = true := by
  refine ⟨⟨_, rfl⟩, nofun, nofun, nofun, ?_⟩
  decide

theorem wit_OneCavityLeavesOtherGrants :
    granted.GrantsPermitted ∧ granted.EnableFollows ∧ (∃ t, exec (.pause (cavityPayload .b)) granted = .next t)
      ∧ (∃ t, exec (.start (optionPayload .b true)) granted = .next t)
      ∧ (∃ t, exec (.writeBand (bandPayload .b 0 700 0 ⟨700, true, .free, 0, .all, .none⟩)) granted = .next t)
      ∧ (∃ t, exec (.soakRemainingZero .b) granted = .next t)
      ∧ ∃ t, exec (.stalenessTimerExpiry (.cat .b)) granted = .next t :=
  ⟨granted_permitted, granted_enable, ⟨_, rfl⟩, ⟨_, rfl⟩, ⟨_, rfl⟩, ⟨_, rfl⟩, _, rfl⟩

/-! ## Witnesses: time -/

/-- The end of a reset, and a moment with a window in progress and no visit due. -/
theorem wit_IdleStepPassesTime :
    let s := { ready with clock := { ready.clock with sinceVisit := 1 } }
    State.reset.pending = [] ∧ (State.reset.alloc.slot = none ∨ 2 ≤ State.reset.clock.sinceVisit)
      ∧ s.pending = [] ∧ s.alloc.slot ≠ none ∧ s.clock.sinceVisit < 2 := by decide

/-- The millisecond before a line fault, a conversion, a reading, the end of a step, a sample, the end of a hold and a
second of the stamp. -/
theorem wit_IdleStepPassesTime_due :
    let s := (testAt none [] .request).setConverter ⟨.front, .scan, 49, 8, none⟩
    let u := s.setClock ⟨4294967295, 999, 7, 1⟩
    let v := u.setRelay .master { RelayEntry.reset with hold := some 19 }
    let w := v.setLink { v.link with receiver := .inBreak 190 }
    v.pending = [] ∧ w.pending = [] ∧ w.link.receiver = .inBreak 190 ∧ 200 ≤ 190 + 10
      ∧ v.link.receiver ≠ .inBreak 190 ∧ v.alloc.slot ≠ none ∧ v.clock.sinceVisit < 2 ∧ 50 ≤ v.converter.elapsed + 1
      ∧ v.pins.codes.get .front = (0, 0) ∧ v.drive.test.step.map (·.reading) = some none
      ∧ 100 ≤ 99 + 1 ∧ 200 ≤ 199 + 1 ∧ 8 ≤ v.clock.sinceSample + 1
      ∧ (v.pins.switches.get .a).get .latchHome = ⟨false, false⟩
      ∧ (v.lock .a).levels.get .latchHome ≠ some false ∧ v.pins.contacts.get .master = ⟨false, false⟩
      ∧ (v.relay .master).sense ≠ some false ∧ (v.relay .master).hold = some 19 ∧ v.clock.millis + 1 = 1000 := by
  decide

end Sys2Proof.Tests
end

section
/-!
PROOFS. What the Power Allocator, the relays and the Fan Controller settle after an event: grants are only withdrawn,
the fan forms its level from the demands as they stand, and everything else of the part stays.
-/

namespace Sys2Proof.Machine

open Sys2Proof Relation

/-! ## The fan forms its level -/

/-- The demand that FRONT makes while it is not VALID (R153). -/
def State.frontDemand (s : State) : Nat := if s.isValid .front then 0 else 3

/-- The fan forms its level once, from new demands of the cavities and of TRIP and from the demand of FRONT (R151). -/
def Fan.Forms (front : Nat) (x y : Fan) : Prop :=
  ∃ d k, y = ({ x with cavityDemand := d, frontInvalid := front, tripDemand := k } : Fan).relevel

/-- The fan forms its level any number of times, none included. -/
abbrev Fan.FormsAll (front : Nat) : Fan → Fan → Prop := ReflTransGen (Fan.Forms front)

namespace Fan

/-- The forming of a level moves the level, the watch and its timers alone (R151, R156). -/
theorem relevel_rest (x : Fan) :
    x.relevel = { x with level := x.greatest, watch := x.relevel.watch, grace := x.relevel.grace,
                         pulse := x.relevel.pulse } := by
  unfold relevel
  dsimp only
  split
  · unfold riseFromZero; split <;> rfl
  · split
    · unfold fallToZero; split <;> rfl
    · rfl

/-- What every forming of the level keeps of a fan, any number of them keeps. -/
theorem FormsAll.keeps {front : Nat} {x y : Fan} (h : FormsAll front x y) {P : Fan → Prop}
    (step : ∀ x y, Forms front x y → P x → P y) (hx : P x) : P y := by
  induction h with
  | refl => exact hx
  | tail _ hyz ih => exact step _ _ hyz ih

theorem Forms.stall {front : Nat} {x y : Fan} (h : Forms front x y) : y.stall = x.stall := by
  obtain ⟨d, k, rfl⟩ := h
  rw [relevel_rest]

theorem Forms.frontHot {front : Nat} {x y : Fan} (h : Forms front x y) :
    y.frontHotDemand = x.frontHotDemand ∧ y.frontHotInhibit = x.frontHotInhibit := by
  obtain ⟨d, k, rfl⟩ := h
  rw [relevel_rest]
  exact ⟨rfl, rfl⟩

/-- The level formed is the greatest of the demands, with that of FRONT among them (R151, R153). -/
theorem Forms.formed {front : Nat} {x y : Fan} (h : Forms front x y) :
    y.level = y.greatest ∧ y.frontInvalid = front := by
  obtain ⟨d, k, rfl⟩ := h
  rw [relevel_rest]
  exact ⟨rfl, rfl⟩

theorem FormsAll.stall {front : Nat} {x y : Fan} (h : FormsAll front x y) : y.stall = x.stall :=
  h.keeps (P := fun z => z.stall = x.stall) (fun _ _ k e => k.stall.trans e) rfl

theorem FormsAll.frontHot {front : Nat} {x y : Fan} (h : FormsAll front x y) :
    y.frontHotDemand = x.frontHotDemand ∧ y.frontHotInhibit = x.frontHotInhibit :=
  h.keeps (P := fun z => z.frontHotDemand = x.frontHotDemand ∧ z.frontHotInhibit = x.frontHotInhibit)
    (fun _ _ k e => ⟨k.frontHot.1.trans e.1, k.frontHot.2.trans e.2⟩) ⟨rfl, rfl⟩

theorem FormsAll.formed {front : Nat} {x y : Fan} (h : FormsAll front x y)
    (hx : x.level = x.greatest ∧ x.frontInvalid = front) : y.level = y.greatest ∧ y.frontInvalid = front :=
  h.keeps (P := fun z => z.level = z.greatest ∧ z.frontInvalid = front) (fun _ _ k _ => k.formed) hx

end Fan

/-! ## Grants -/

namespace State

/-- Permission is judged on heat inhibit, the relay test, the healths, the engines, the tables, the locks, the bands
and the channels, and on nothing else (R128, R129). -/
theorem permission_congr {s t : State} (hi : t.sup.inhibit = s.sup.inhibit) (hd : t.drive.test = s.drive.test)
    (hh : ∀ r, (t.relay r).health = (s.relay r).health) (he : t.engines = s.engines) (ht : t.tables = s.tables)
    (hl : t.locks = s.locks) (hb : t.bandIndex = s.bandIndex) (hc : t.channels = s.channels) (e : Element) :
    t.permission e = s.permission e := by
  obtain ⟨c, h⟩ := e
  have healthy : ∀ e, t.healthy e = s.healthy e := fun e => by unfold State.healthy; rw [hh]
  cases h <;>
    simp only [permission, cavityPermission, heaterPermission, heatInhibit, testing, healthy, heatCommand,
      currentRecord, bandFields, bandNow, bandTable, isValid, channel, engine, lock, program, catReady,
      regulationTarget, regulationOn, atOrAbove, f, hi, hd, he, ht, hl, hb, hc] <;> rfl

/-- An element holds no grant in force after its withdrawal (R130). -/
theorem holdsFrom_withdrawn (g : Grants) (k : Nat) :
    ({ g with withdrawnAt := some k } : Grants).holdsFrom k = false := by
  simp only [Grants.holdsFrom, List.any_eq_false, Grants.inForce, Bool.and_eq_true, decide_eq_true_eq, not_and]
  intro j _ hj _
  omega

end State

/-! ## What is settled -/

/-- What the Allocator, the relays and the fan settle: the allocator, the drive and the fan alone are new; of the drive
the drive states and what each relay expects; of the fan what forming its level moves; and no grant is new. -/
structure Settles (s t : State) : Prop where
  rest : t = { s with alloc := t.alloc, drive := t.drive, fan := t.fan }
  drive : t.drive = { s.drive with entries := t.drive.entries, driveState := t.drive.driveState }
  health : ∀ r, (t.relay r).health = (s.relay r).health
  fan : Fan.FormsAll s.frontDemand s.fan t.fan
  holds : ∀ e, t.holdsGrant e = true → s.holdsGrant e = true

namespace Settles

variable {s t u : State}

theorem refl (s : State) : Settles s s := ⟨rfl, rfl, fun _ => rfl, .refl, fun _ => id⟩

theorem channels (h : Settles s t) : t.channels = s.channels := by rw [h.rest]
theorem engines (h : Settles s t) : t.engines = s.engines := by rw [h.rest]
theorem locks (h : Settles s t) : t.locks = s.locks := by rw [h.rest]
theorem tableLocks (h : Settles s t) : t.tableLocks = s.tableLocks := by rw [h.rest]
theorem tables (h : Settles s t) : t.tables = s.tables := by rw [h.rest]
theorem bandIndex (h : Settles s t) : t.bandIndex = s.bandIndex := by rw [h.rest]
theorem sup (h : Settles s t) : t.sup = s.sup := by rw [h.rest]
theorem events (h : Settles s t) : t.events = s.events := by rw [h.rest]

theorem frontDemand (h : Settles s t) : t.frontDemand = s.frontDemand := by
  unfold State.frontDemand State.isValid State.channel
  rw [h.channels]

theorem permission (h : Settles s t) (e : Element) : t.permission e = s.permission e :=
  State.permission_congr (by rw [h.sup]) (by rw [h.drive]) h.health h.engines h.tables h.locks h.bandIndex
    h.channels e

theorem trans (h : Settles s t) (k : Settles t u) : Settles s u where
  rest := by rw [k.rest, h.rest]
  drive := by rw [k.drive, h.drive]
  health r := (k.health r).trans (h.health r)
  fan := h.fan.trans (h.frontDemand ▸ k.fan)
  holds e x := h.holds e (k.holds e x)

theorem forEach {α : Type} (l : List α) (op : α → State → State) (h : ∀ x s, Settles s (op x s))
    (s : State) : Settles s (Machine.forEach l op s) := by
  induction l generalizing s with
  | nil => exact refl s
  | cons x xs ih => exact (h x s).trans (ih (op x s))

/-- A relay's entry takes a new expected level with its timers. -/
theorem relay (s : State) (r : Relay) (x : RelayEntry) (h : x.health = (s.relay r).health) :
    Settles s (s.setRelay r x) where
  rest := rfl
  drive := rfl
  health r' := by
    by_cases e : r' = r
    · subst e; simpa [State.relay, State.setRelay] using h
    · simp [State.relay, State.setRelay, e]
  fan := .refl
  holds _ := id

theorem judgeExpected (r : Relay) (s : State) : Settles s (State.judgeExpected r s) := by
  unfold State.judgeExpected
  dsimp only
  split
  · exact refl s
  · split <;> exact relay _ _ _ rfl

theorem judgeAllExpected (s : State) : Settles s s.judgeAllExpected := forEach _ _ judgeExpected s

theorem setDriveState (e : Element) (on : Bool) (s : State) : Settles s (s.setDriveState e on) :=
  trans (t := s.setDrive { s.drive with driveState := s.drive.driveState.set e on })
    ⟨rfl, rfl, fun _ => rfl, .refl, fun _ => id⟩ (judgeExpected ..)

/-- An allocator without some element's grants from the current slot on. -/
theorem withdrawn (s : State) (e : Element) (k : Nat) (h : s.alloc.slot = some k) :
    Settles s (s.setAlloc { s.alloc with
      grants := s.alloc.grants.set e { s.alloc.grants.get e with withdrawnAt := some k } }) where
  rest := rfl
  drive := rfl
  health _ := rfl
  fan := .refl
  holds e' := by
    by_cases he : e' = e
    · subst he
      simp [State.holdsGrant, h, State.holdsFrom_withdrawn]
    · simp [State.holdsGrant, h, he]

theorem withdraw (e : Element) (s : State) : Settles s (s.withdraw e) := by
  unfold State.withdraw
  split
  · exact refl s
  · rename_i k hk
    dsimp only
    split
    · exact (withdrawn s e k hk).trans (setDriveState ..)
    · exact refl s

theorem reviewElement (e : Element) (s : State) : Settles s (State.reviewElement e s) := by
  unfold State.reviewElement
  split
  · exact refl s
  · exact withdraw ..

theorem review (s : State) : Settles s s.review := forEach _ _ reviewElement s

theorem withdrawCavity (c : Cavity) (s : State) : Settles s (s.withdrawCavity c) := forEach _ _ withdraw s

theorem fanSync (s : State) : Settles s s.fanSync :=
  ⟨rfl, rfl, fun _ => rfl, .single ⟨_, _, rfl⟩, fun _ => id⟩

theorem announce (s : State) : Settles s s.announce := (review s).trans (fanSync _)

end Settles

/-! ## What is cold -/

namespace State

/-- After its withdrawal an element holds no grant (R130). -/
theorem withdraw_cold (e : Element) (s : State) : (s.withdraw e).holdsGrant e = false := by
  unfold withdraw
  split
  · rename_i h
    simp [holdsGrant, h]
  · rename_i k hk
    dsimp only
    split
    · have h := (Settles.setDriveState e false (s.setAlloc { s.alloc with
        grants := s.alloc.grants.set e { s.alloc.grants.get e with withdrawnAt := some k } })).holds e
      rw [Bool.eq_false_iff]
      exact fun x => absurd (h x) (by simp [holdsGrant, hk, holdsFrom_withdrawn])
    · rename_i h
      simpa [holdsGrant, hk] using h

theorem mem_allElements (e : Element) : e ∈ allElements := by
  obtain ⟨c, h⟩ := e
  cases c <;> cases h <;> decide

/-- After a review an element without permission holds no grant (R130). -/
theorem review_cold {e : Element} {s : State} (h : s.permission e = false) : s.review.holdsGrant e = false := by
  suffices H : ∀ l : List Element, e ∈ l → ∀ s : State, s.permission e = false →
      (forEach l reviewElement s).holdsGrant e = false from H _ (mem_allElements e) s h
  intro l hl
  induction l with
  | nil => exact absurd hl (by simp)
  | cons x xs ih =>
    intro s h
    by_cases hx : x = e
    · subst hx
      have later := (Settles.forEach xs _ Settles.reviewElement (reviewElement x s)).holds x
      rw [Bool.eq_false_iff]
      intro held
      have now : (s.withdraw x).holdsGrant x = true := by
        simpa [reviewElement, h] using later held
      rw [withdraw_cold] at now
      exact absurd now (by decide)
    · have hm : e ∈ xs := by simpa [Ne.symm hx] using hl
      exact ih hm _ (((Settles.reviewElement x s).permission e).trans h)

theorem review_coldNow {c : Cavity} {s : State} (h : ∀ k, s.permission ⟨c, k⟩ = false) : coldNow s.review c :=
  fun k => review_cold (h k)

theorem announce_coldNow {c : Cavity} {s : State} (h : ∀ k, s.permission ⟨c, k⟩ = false) :
    coldNow s.announce c := review_coldNow h

/-- No grant is new, so what was cold stays cold. -/
theorem coldNow_of_holds {s t : State} {c : Cavity} (h : ∀ e, t.holdsGrant e = true → s.holdsGrant e = true)
    (hc : coldNow s c) : coldNow t c := fun k => by
  rw [Bool.eq_false_iff]
  intro held
  have := h _ held
  rw [hc k] at this
  exact absurd this (by decide)

/-- An engine that does not run and regulates no catalyst gives no element of its cavity permission (R92, R128, R129).
-/
theorem permission_of_stopped {s : State} {c : Cavity} (hs : (s.engine c).state ≠ .running)
    (hr : s.regulationOn c = false) (k : Heater) : s.permission ⟨c, k⟩ = false := by
  have hh : s.heatCommand c = none := by
    unfold heatCommand
    split
    · rename_i h _; exact absurd h hs
    · rfl
  cases k <;> simp [permission, cavityPermission, heaterPermission, hh, hr]

/-- Heat inhibit takes every permission (R128, R129). -/
theorem permission_of_inhibit {s : State} (h : s.heatInhibit = true) (e : Element) : s.permission e = false := by
  obtain ⟨c, k⟩ := e
  cases k <;> simp [permission, cavityPermission, heaterPermission, h]

end State

end Sys2Proof.Machine
end

section
/-!
PROOFS. What a Cycle Engine does with its lock, for one cavity: the engine, the lock, the table lock and the records are
new, the other cavity's stay, no fault of any lock is touched, and an engine that stops is cold.
-/

namespace Sys2Proof.Machine

open Sys2Proof State

/-! ## A lock request -/

namespace LockCtl

/-- No request touches a fault or a switch level of the lock (R61, R66). -/
theorem request_faults (policy : DoorPolicy) (wait : Bool) (q : LockRequest) (l : LockCtl) :
    (request policy wait q l).1.lock.faults = l.faults ∧ (request policy wait q l).1.lock.levels = l.levels := by
  obtain ⟨k, by_⟩ := q
  cases k with
  | engage =>
    simp only [request, engage]
    split
    · unfold engageReleased; split
      · split <;> exact ⟨rfl, rfl⟩
      · exact ⟨rfl, rfl⟩
    · unfold dropFromSlot; split
      · split <;> exact ⟨rfl, rfl⟩
      · exact ⟨rfl, rfl⟩
    all_goals exact ⟨rfl, rfl⟩
  | release =>
    simp only [request, release]
    split
    · exact ⟨rfl, rfl⟩
    · exact ⟨rfl, rfl⟩
    · unfold releaseEngaged; split
      · exact ⟨rfl, rfl⟩
      · split <;> exact ⟨rfl, rfl⟩
    · unfold dropFromSlot; split
      · split <;> exact ⟨rfl, rfl⟩
      · exact ⟨rfl, rfl⟩
    all_goals exact ⟨rfl, rfl⟩

end LockCtl

namespace State

/-- A notice's record joins the outbox, and nothing else is new (R66). -/
theorem postNotice_rest (c : Cavity) (n : LockNotice) (s : State) : ∃ x, s.postNotice c n = s.setEvents x := by
  unfold postNotice
  split
  · exact ⟨_, rfl⟩
  · exact ⟨s.events, rfl⟩

theorem postNotices_rest (c : Cavity) (l : List LockNotice) (s : State) :
    ∃ x, forEach l (postNotice c) s = s.setEvents x := by
  induction l generalizing s with
  | nil => exact ⟨s.events, rfl⟩
  | cons n ns ih =>
    obtain ⟨x, hx⟩ := postNotice_rest c n s
    obtain ⟨y, hy⟩ := ih (s.postNotice c n)
    exact ⟨y, hy.trans (by rw [hx]; rfl)⟩

/-- The result of a lock operation writes the lock and joins records to the outbox. -/
theorem applyLock_rest (c : Cavity) (x : LockStep) (s : State) :
    ∃ y, s.applyLock c x = (s.setLock c x.lock).setEvents y := postNotices_rest ..

@[simp] theorem applyLock_lock_same (c : Cavity) (x : LockStep) (s : State) : (s.applyLock c x).lock c = x.lock := by
  obtain ⟨y, h⟩ := applyLock_rest c x s
  simp [h, lock]

@[simp] theorem applyLock_lock_ne {c d : Cavity} (h : d ≠ c) (x : LockStep) (s : State) :
    (s.applyLock c x).lock d = s.lock d := by
  obtain ⟨y, hy⟩ := applyLock_rest c x s
  simp [hy, lock, h]

end State

/-! ## Engines and locks through the shared operations -/

namespace State

variable (s : State) (c d : Cavity)

@[simp] theorem engine_setEngine_same (e : Engine) : (s.setEngine c e).engine c = e := by simp [engine]
@[simp] theorem engine_setEngine_ne {c d : Cavity} (h : d ≠ c) (e : Engine) :
    (s.setEngine c e).engine d = s.engine d := by simp [engine, h]
@[simp] theorem engine_modEngine_same (fn : Engine → Engine) : (s.modEngine c fn).engine c = fn (s.engine c) :=
  engine_setEngine_same ..
@[simp] theorem engine_modEngine_ne {c d : Cavity} (h : d ≠ c) (fn : Engine → Engine) :
    (s.modEngine c fn).engine d = s.engine d := engine_setEngine_ne _ h _
@[simp] theorem lock_modEngine (fn : Engine → Engine) : (s.modEngine c fn).lock d = s.lock d := rfl
@[simp] theorem tableLocks_modEngine (fn : Engine → Engine) : (s.modEngine c fn).tableLocks = s.tableLocks := rfl

@[simp] theorem engine_post (b : Block) (x : EventBody) : (s.post b x).engine d = s.engine d := rfl
@[simp] theorem lock_post (b : Block) (x : EventBody) : (s.post b x).lock d = s.lock d := rfl
@[simp] theorem tableLocks_post (b : Block) (x : EventBody) : (s.post b x).tableLocks = s.tableLocks := rfl

@[simp] theorem engine_setTableLock (x : Bool) : (s.setTableLock c x).engine d = s.engine d := rfl
@[simp] theorem lock_setTableLock (x : Bool) : (s.setTableLock c x).lock d = s.lock d := rfl

@[simp] theorem engine_review : s.review.engine d = s.engine d := by
  simp only [engine, (Settles.review s).engines]
@[simp] theorem lock_review : s.review.lock d = s.lock d := by simp only [lock, (Settles.review s).locks]
@[simp] theorem engine_announce : s.announce.engine d = s.engine d := by
  simp only [engine, (Settles.announce s).engines]
@[simp] theorem lock_announce : s.announce.lock d = s.lock d := by simp only [lock, (Settles.announce s).locks]
@[simp] theorem tableLocks_announce : s.announce.tableLocks = s.tableLocks := (Settles.announce s).tableLocks

@[simp] theorem engine_applyLock (x : LockStep) : (s.applyLock c x).engine d = s.engine d := by
  obtain ⟨y, h⟩ := applyLock_rest c x s
  simp [h, engine]
@[simp] theorem tableLocks_applyLock (x : LockStep) : (s.applyLock c x).tableLocks = s.tableLocks := by
  obtain ⟨y, h⟩ := applyLock_rest c x s
  simp [h]

end State

/-! ## What an engine does -/

/-- What the work of a cavity's engine and of the lock it asks leaves alone, with the fan and the grants that follow. -/
structure EngineFrame (c : Cavity) (s t : State) : Prop where
  sup : t.sup = s.sup
  bandIndex : t.bandIndex = s.bandIndex
  channels : t.channels = s.channels
  drive : t.drive = { s.drive with entries := t.drive.entries, driveState := t.drive.driveState }
  fan : Fan.FormsAll s.frontDemand s.fan t.fan
  holds : ∀ e, t.holdsGrant e = true → s.holdsGrant e = true
  faults : ∀ d, (t.lock d).faults = (s.lock d).faults
  otherEngine : ∀ d, d ≠ c → t.engine d = s.engine d
  otherLock : ∀ d, d ≠ c → t.lock d = s.lock d
  otherTableLock : ∀ d, d ≠ c → t.tableLocks.get d = s.tableLocks.get d

/-- What the engine of a cavity, the lock it asks and those who follow them do at an event: an engine that they bring to
a stop is cold (R131), and its table lock is clear exactly where its cycle has ended (R49). -/
structure EngineActs (c : Cavity) (s t : State) : Prop extends EngineFrame c s t where
  stopped : (t.engine c).state = .running ∨ t.engine c = s.engine c ∨ coldNow t c
  idle : (s.engine c).state = .idle → (t.engine c).state = .idle ∧ t.tableLocks.get c = s.tableLocks.get c
  tableLock : (s.engine c).state ≠ .idle →
    t.tableLocks.get c = (s.tableLocks.get c && decide ((t.engine c).state ≠ .idle))

namespace EngineFrame

variable {c : Cavity} {s t u : State}

theorem ofSettles (h : Settles s t) : EngineFrame c s t where
  sup := h.sup
  bandIndex := h.bandIndex
  channels := h.channels
  drive := h.drive
  fan := h.fan
  holds := h.holds
  faults d := by simp only [lock, h.locks]
  otherEngine d _ := by simp only [engine, h.engines]
  otherLock d _ := by simp only [lock, h.locks]
  otherTableLock d _ := by rw [h.tableLocks]

theorem frontDemand (h : EngineFrame c s t) : t.frontDemand = s.frontDemand := by
  unfold State.frontDemand State.isValid State.channel
  rw [h.channels]

theorem trans (h : EngineFrame c s t) (k : EngineFrame c t u) : EngineFrame c s u where
  sup := k.sup.trans h.sup
  bandIndex := k.bandIndex.trans h.bandIndex
  channels := k.channels.trans h.channels
  drive := by rw [k.drive, h.drive]
  fan := h.fan.trans (h.frontDemand ▸ k.fan)
  holds e x := h.holds e (k.holds e x)
  faults d := (k.faults d).trans (h.faults d)
  otherEngine d hd := (k.otherEngine d hd).trans (h.otherEngine d hd)
  otherLock d hd := (k.otherLock d hd).trans (h.otherLock d hd)
  otherTableLock d hd := (k.otherTableLock d hd).trans (h.otherTableLock d hd)

theorem modEngine (s : State) (c : Cavity) (fn : Engine → Engine) : EngineFrame c s (s.modEngine c fn) :=
  ⟨rfl, rfl, rfl, rfl, .refl, fun _ => id, fun _ => rfl, fun _ h => engine_modEngine_ne s h fn, fun _ _ => rfl,
    fun _ _ => rfl⟩

theorem tableLock (s : State) (c : Cavity) (x : Bool) : EngineFrame c s (s.setTableLock c x) :=
  ⟨rfl, rfl, rfl, rfl, .refl, fun _ => id, fun _ => rfl, fun _ _ => rfl, fun _ _ => rfl,
    fun _ h => by simp [h]⟩

theorem post (s : State) (c : Cavity) (b : Block) (x : EventBody) : EngineFrame c s (s.post b x) :=
  ⟨rfl, rfl, rfl, rfl, .refl, fun _ => id, fun _ => rfl, fun _ _ => rfl, fun _ _ => rfl, fun _ _ => rfl⟩

theorem applyLock (s : State) (c : Cavity) (x : LockStep) (h : x.lock.faults = (s.lock c).faults) :
    EngineFrame c s (s.applyLock c x) := by
  obtain ⟨y, hy⟩ := applyLock_rest c x s
  refine ⟨by simp [hy], by simp [hy], by simp [hy], by simp [hy], by simp [hy, Relation.ReflTransGen.refl],
    fun e => by simp [hy, holdsGrant], fun d => ?_, by simp, fun d hd => by simp [hd], by simp⟩
  by_cases hd : d = c
  · subst hd; simp [h]
  · simp [hd]

theorem askLock (c : Cavity) (w : Bool) (q : LockRequest) (s : State) : EngineFrame c s (s.askLock c w q).1 :=
  applyLock _ _ _ (LockCtl.request_faults ..).1

end EngineFrame

namespace EngineActs

variable {c : Cavity} {s t u : State}

/-- A step that leaves the engine and the table lock as they were. -/
theorem ofFrame (h : EngineFrame c s t) (he : t.engine c = s.engine c) (ht : t.tableLocks = s.tableLocks) :
    EngineActs c s t where
  toEngineFrame := h
  stopped := .inr (.inl he)
  idle x := ⟨he ▸ x, by rw [ht]⟩
  tableLock x := by simp [ht, he, x]

theorem ofSettles (h : Settles s t) : EngineActs c s t :=
  ofFrame (.ofSettles h) (by simp only [engine, h.engines]) h.tableLocks

theorem refl (s : State) : EngineActs c s s := ofSettles (.refl s)

theorem trans (h : EngineActs c s t) (k : EngineActs c t u) : EngineActs c s u where
  toEngineFrame := h.toEngineFrame.trans k.toEngineFrame
  stopped := by
    rcases k.stopped with x | x | x
    · exact .inl x
    · rcases h.stopped with y | y | y
      · exact .inl (x ▸ y)
      · exact .inr (.inl (x.trans y))
      · exact .inr (.inr (coldNow_of_holds k.holds y))
    · exact .inr (.inr x)
  idle x := by
    obtain ⟨hi, ht⟩ := h.idle x
    obtain ⟨ki, kt⟩ := k.idle hi
    exact ⟨ki, kt.trans ht⟩
  tableLock x := by
    by_cases i : (t.engine c).state = .idle
    · obtain ⟨ki, kt⟩ := k.idle i
      rw [kt, h.tableLock x, ki, i]
    · rw [k.tableLock i, h.tableLock x]
      simp [i]

/-- An engine that goes on in the state it was in, with what follows announced. -/
theorem announced (fn : Engine → Engine) (s : State) (hs : (fn (s.engine c)).state = .running)
    (hi : (s.engine c).state ≠ .idle) : EngineActs c s (announce (s.modEngine c fn)) where
  toEngineFrame := (EngineFrame.modEngine s c fn).trans (.ofSettles (.announce _))
  stopped := .inl (by simpa using hs)
  idle x := absurd x hi
  tableLock _ := by simp [hs]

/-- An engine that stops short of IDLE, with what follows announced, is cold (R131). -/
theorem stops (fn : Engine → Engine) (s : State) (hs : (fn (s.engine c)).state ≠ .running)
    (hn : (fn (s.engine c)).state ≠ .idle) (hr : ∀ t, (fn (s.engine c)).catalyst ≠ .on t)
    (hi : (s.engine c).state ≠ .idle) :
    EngineActs c s (announce (s.modEngine c fn)) where
  toEngineFrame := (EngineFrame.modEngine s c fn).trans (.ofSettles (.announce _))
  stopped := by
    refine .inr (.inr (announce_coldNow (permission_of_stopped (by simpa using hs) ?_)))
    unfold regulationOn
    rw [engine_modEngine_same]
    split
    · rename_i t ht; exact absurd ht (hr t)
    · rfl
  idle x := absurd x hi
  tableLock _ := by simp [hn]

end EngineActs

end Sys2Proof.Machine
end

section
/-!
PROOFS. The operations of the Cycle Engine one by one: what each does to its engine and to the lock it asks, and that it
keeps to the frame of EngineActs.
-/

namespace Sys2Proof.Machine

open Sys2Proof State

/-! ## Frames -/

namespace EngineActs

variable {c : Cavity} {s t : State}

/-- A step of a running engine that runs on. -/
theorem ofRunning (h : EngineFrame c s t) (hs : (s.engine c).state = .running)
    (ht : (t.engine c).state = .running) (hl : t.tableLocks = s.tableLocks) : EngineActs c s t where
  toEngineFrame := h
  stopped := .inl ht
  idle x := by rw [hs] at x; cases x
  tableLock _ := by simp [hl, ht]

theorem post (s : State) (c : Cavity) (b : Block) (x : EventBody) : EngineActs c s (s.post b x) :=
  ofFrame (.post ..) rfl rfl

theorem askLock (c : Cavity) (w : Bool) (q : LockRequest) (s : State) : EngineActs c s (s.askLock c w q).1 :=
  ofFrame (.askLock ..) (engine_applyLock ..) (tableLocks_applyLock ..)

end EngineActs

/-! ## Entering IDLE and the abort -/

namespace State

/-- The engine in IDLE is as R113 to R115 have it. -/
@[simp] theorem toIdle_engine (c : Cavity) (r : CycleResult) (k : Condition) (s : State) :
    (s.toIdle c r k).engine c = endedBy r k (s.lock c).state (s.engine c) := by
  simp [toIdle, endedBy, outcomeOf]

@[simp] theorem toIdle_lock (c d : Cavity) (r : CycleResult) (k : Condition) (s : State) :
    (s.toIdle c r k).lock d = s.lock d := by simp [toIdle]

@[simp] theorem toIdle_tableLocks (c : Cavity) (r : CycleResult) (k : Condition) (s : State) :
    (s.toIdle c r k).tableLocks = s.tableLocks.set c false := by simp [toIdle]

end State

namespace EngineActs

variable {c : Cavity}

theorem toIdle (c : Cavity) (r : CycleResult) (k : Condition) (s : State) (h : (s.engine c).state ≠ .idle) :
    EngineActs c s (s.toIdle c r k) where
  toEngineFrame := (((EngineFrame.modEngine s c _).trans (.tableLock _ c false)).trans (.post ..)).trans
    (.ofSettles (.announce _))
  stopped := by
    refine .inr (.inr (announce_coldNow (permission_of_stopped ?_ ?_)))
    · simp
    · simp [regulationOn]
  idle x := absurd x h
  tableLock _ := by simp [endedBy]

theorem judgeSafeCool (c : Cavity) (s : State) : EngineActs c s (s.judgeSafeCool c) := by
  unfold State.judgeSafeCool
  dsimp only
  split
  · rename_i h
    exact toIdle _ _ _ _ (by rw [h.1]; nofun)
  · exact refl s

theorem abortAsk (c : Cavity) (s : State) : EngineActs c s (s.abortAsk c) := by
  unfold State.abortAsk
  split <;> first | exact askLock .. | exact refl s

theorem abortRecord (c : Cavity) (k : Condition) (s : State) : EngineActs c s (s.abortRecord c k) := by
  unfold State.abortRecord
  dsimp only
  split
  · exact post ..
  · exact refl s

end EngineActs

namespace State

variable (c d : Cavity) (k : Condition) (s : State)

@[simp] theorem abortRecord_engine : (s.abortRecord c k).engine d = s.engine d := by
  unfold abortRecord; dsimp only; split <;> rfl
@[simp] theorem abortRecord_lock : (s.abortRecord c k).lock d = s.lock d := by
  unfold abortRecord; dsimp only; split <;> rfl
@[simp] theorem abortAsk_engine : (s.abortAsk c).engine d = s.engine d := by
  unfold abortAsk; split <;> simp [askLock]

/-- The policy is judged on the tables, the bands and the channels alone (R41). -/
theorem policy_congr {s t : State} (ht : t.tables = s.tables) (hb : t.bandIndex = s.bandIndex)
    (hc : t.channels = s.channels) (c : Cavity) : t.policy c = s.policy c := by
  unfold policy bandFields bandTable bandNow isValid channel
  rw [ht, hb, hc]

/-- A release that the engine asks for with the wait option, in the lock states in which it does anything (R61, R110).
-/
theorem release_lock (p : DoorPolicy) (l : LockCtl)
    (h : l.state = .engaged ∨ l.state = .engaging ∨ l.state = .releasing) :
    (LockCtl.release p true .engine l).1.lock = askedByAbort p l := by
  obtain ⟨x, motor, motion, slot, pending, faults, levels⟩ := l
  rcases h with h | h | h <;> cases h
  · simp only [LockCtl.release, LockCtl.releaseEngaged, askedByAbort]
    split <;> rfl
  · rfl
  · rcases slot with _ | ⟨_ | _, by_⟩ <;> rfl

/-- The lock as an abort asks it (R110, step 6). -/
theorem abortAsk_lock : (s.abortAsk c).lock c = askedByAbort (s.policy c) (s.lock c) := by
  unfold abortAsk
  split
  case h_4 h1 h2 h3 =>
    unfold askedByAbort
    cases e : (s.lock c).state <;> first | rfl | exact absurd e (by assumption)
  all_goals
    rename_i h
    exact (applyLock_lock_same ..).trans (release_lock _ _ (by simp [h]))

theorem abortAsk_lock_ne {c d : Cavity} (h : d ≠ c) (s : State) : (s.abortAsk c).lock d = s.lock d :=
  (EngineActs.abortAsk c s).otherLock d h

/-- An abort leaves RELEASED and FAULTED as they are, and brings no other state to either of them. -/
theorem askedByAbort_state (p : DoorPolicy) (l : LockCtl) :
    ((askedByAbort p l).state = .released ∨ (askedByAbort p l).state = .faulted)
      ↔ (l.state = .released ∨ l.state = .faulted) := by
  unfold askedByAbort
  split <;> rename_i h <;> simp only [h]
  split <;> simp

theorem askedByAbort_atRest (p : DoorPolicy) (l : LockCtl) (h : l.state = .released ∨ l.state = .faulted) :
    askedByAbort p l = l := by
  unfold askedByAbort
  rcases h with h | h <;> rw [h]

/-- The state of a cycle's abort before the end of SAFE_COOL is judged (R110). -/
def abortBegun (c : Cavity) (k : Condition) (s : State) : State :=
  announce (abortAsk c (announce (modEngine c (abortedBy k) (abortRecord c k s))))

theorem abortCycle_eq (h : s.inCycle c = true) :
    abortCycle c k s = judgeSafeCool c (abortBegun c k s) := by
  unfold abortCycle
  rw [if_pos h]
  rfl

@[simp] theorem abortCycle_none (h : s.inCycle c = false) : abortCycle c k s = s := by
  unfold abortCycle
  simp [h]

theorem inCycle_iff : s.inCycle c = true ↔
    (s.engine c).state = .running ∨ (s.engine c).state = .paused ∨ (s.engine c).state = .held := by
  unfold inCycle; split <;> simp_all

end State

namespace EngineActs

variable (c : Cavity) (k : Condition) (s : State)

theorem abortBegun (h : (s.engine c).state ≠ .idle) : EngineActs c s (State.abortBegun c k s) :=
  (((abortRecord c k s).trans (stops (abortedBy k) _ nofun nofun nofun (by simpa using h))).trans
    (abortAsk c _)).trans (ofSettles (.announce _))

theorem abortCycle : EngineActs c s (State.abortCycle c k s) := by
  cases h : s.inCycle c with
  | false => simpa [h] using refl s
  | true =>
    rw [abortCycle_eq _ _ _ h]
    refine (abortBegun c k s ?_).trans (judgeSafeCool c _)
    rcases (inCycle_iff _ _).mp h with x | x | x <;> simp [x]

end EngineActs

namespace State

variable (c : Cavity) (k : Condition) (s : State)

theorem abortBegun_engine : (abortBegun c k s).engine c = abortedBy k (s.engine c) := by simp [abortBegun]

theorem abortBegun_lock : (abortBegun c k s).lock c = askedByAbort (s.policy c) (s.lock c) := by
  have hp : (announce (modEngine c (abortedBy k) (abortRecord c k s))).policy c = s.policy c := by
    have f := (EngineFrame.modEngine (abortRecord c k s) c (abortedBy k))
    refine policy_congr ?_ ?_ ?_ c
    · exact (((Quiet.abortRecord c k s).trans (.modEngine ..)).trans (.announce _)).tables
    · rw [(Settles.announce _).bandIndex, f.bandIndex, (EngineActs.abortRecord c k s).bandIndex]
    · exact (((Quiet.abortRecord c k s).trans (.modEngine ..)).trans (.announce _)).channels
  simp [abortBegun, abortAsk_lock, hp]

/-- An abort leaves the engine as the lock lets it: in IDLE where it is RELEASED or FAULTED, in SAFE_COOL otherwise
(R110, R113). -/
theorem abortCycle_engine : (abortCycle c k s).engine c = s.afterAbort k c := by
  unfold afterAbort
  cases h : s.inCycle c with
  | false => simp [h]
  | true =>
    rw [abortCycle_eq _ _ _ h, judgeSafeCool]
    have hr : (abortBegun c k s).engine c = abortedBy k (s.engine c) := abortBegun_engine ..
    simp only [hr, abortBegun_lock, abortedBy, true_and, askedByAbort_state, if_true]
    unfold abortedUnder
    split
    · rename_i hl
      rw [toIdle_engine, hr, abortBegun_lock, askedByAbort_atRest _ _ hl]
      rfl
    · exact hr

/-- An abort asks the lock for a release, where the engine has a cycle to abort (R110). -/
theorem abortCycle_lock (h : s.inCycle c = true) :
    (abortCycle c k s).lock c = askedByAbort (s.policy c) (s.lock c) := by
  rw [abortCycle_eq _ _ _ h, judgeSafeCool]
  split
  · rw [toIdle_lock, abortBegun_lock]
  · exact abortBegun_lock ..

/-- An aborted cycle is cold (R110, R131). -/
theorem abortCycle_coldNow (h : s.inCycle c = true) : coldNow (abortCycle c k s) c := by
  have hb : coldNow (abortBegun c k s) c := announce_coldNow
    (permission_of_stopped (by simp [abortedBy]) (by simp [regulationOn, abortedBy]))
  rw [abortCycle_eq _ _ _ h]
  exact coldNow_of_holds (EngineActs.judgeSafeCool c _).holds hb

/-- After an abort the engine has no cycle that could be aborted (R110). -/
theorem abortCycle_inCycle : (abortCycle c k s).inCycle c = false := by
  rw [Bool.eq_false_iff]
  intro hc
  rw [inCycle_iff, abortCycle_engine, afterAbort] at hc
  cases h : s.inCycle c with
  | true =>
    simp only [h, if_true, abortedUnder] at hc
    split at hc <;> simp [endedBy, abortedBy] at hc
  | false =>
    simp only [h, Bool.false_eq_true, if_false] at hc
    exact absurd ((inCycle_iff _ _).mpr hc) (by simp [h])

end State

namespace EngineActs

variable (c : Cavity)

/-! ## Segments -/

theorem complete (s : State) (h : (s.engine c).state ≠ .idle) : EngineActs c s (State.complete c s) :=
  toIdle _ _ _ _ h

theorem hold (s : State) (h : (s.engine c).state ≠ .idle) : EngineActs c s (State.hold c s) := by
  refine stops _ s nofun nofun (fun t ht => ?_) h
  cases hc : (s.engine c).catalyst <;> simp [suspend, hc] at ht

theorem askEngage (s : State) (h : (s.engine c).state = .running) : EngineActs c s (s.askEngage c).1 :=
  ofRunning ((EngineFrame.askLock c false ⟨.engage, .engine⟩ s).trans
    (EngineFrame.modEngine _ c fun e => { e with engageWaiting := decide (_ = LockAnswer.refused .busy) })) h
    (by simpa [State.askEngage, noteBusy, State.askLock])
    (tableLocks_applyLock ..)

theorem entryAsk (r : SegmentRecord) (s : State) (h : (s.engine c).state = .running) :
    EngineActs c s (State.entryAsk c r s).1 := by
  unfold State.entryAsk
  split
  · exact askEngage c s h
  · exact askLock ..
  · exact refl s

end EngineActs

namespace State

variable (c : Cavity)

theorem askEngage_engine (s : State) : ∃ w, (s.askEngage c).1.engine c = { s.engine c with engageWaiting := w } := by
  simp [askEngage, noteBusy, askLock]

theorem entryAsk_engine (r : SegmentRecord) (s : State) :
    ∃ w, (entryAsk c r s).1.engine c = { s.engine c with engageWaiting := w } := by
  unfold entryAsk
  split
  · exact askEngage_engine c s
  · exact ⟨_, by simp [askLock]; rfl⟩
  · exact ⟨_, rfl⟩

theorem enterKind_state (s : State) (i : Nat) (r : SegmentRecord) (e : Engine) :
    (s.enterKind c i r e).state = e.state := by cases r <;> rfl

theorem enterSegment_state (i : Nat) (r : SegmentRecord) (s : State) :
    ((s.enterSegment c i r).1.engine c).state = (s.engine c).state := by
  obtain ⟨w, hw⟩ := entryAsk_engine c r (s.modEngine c fun e => s.enterKind c i r (enterCommon i e))
  simp only [enterSegment, engine_announce, hw, engine_modEngine_same, enterKind_state]
  rfl

end State

namespace EngineActs

variable (c : Cavity)

theorem enterSegment (i : Nat) (r : SegmentRecord) (s : State) (h : (s.engine c).state = .running) :
    EngineActs c s (State.enterSegment c i r s).1 := by
  have hm : ((s.modEngine c fun e => s.enterKind c i r (enterCommon i e)).engine c).state = .running := by
    simpa [enterKind_state, enterCommon] using h
  exact ((ofRunning (.modEngine ..) h hm rfl).trans (entryAsk c r _ hm)).trans (ofSettles (.announce _))

theorem postDone (i : Nat) (s : State) : EngineActs c s (State.postDone c i s) := post ..

theorem runFrom (l : List SegmentRecord) (i : Nat) (s : State) (h : (s.engine c).state = .running) :
    EngineActs c s (State.runFrom c l i s) := by
  induction l generalizing i s with
  | nil => exact refl s
  | cons r rest ih =>
    unfold State.runFrom
    dsimp only
    have he := enterSegment c i r s h
    have hr : ((State.postDone c i (s.enterSegment c i r).1).engine c).state = .running :=
      (enterSegment_state c i r s).trans h
    have hd := he.trans (postDone c i _)
    split
    · exact he
    · split
      · exact hd.trans (complete c _ (by rw [hr]; nofun))
      · split
        · exact hd.trans (hold c _ (by rw [hr]; nofun))
        · exact hd.trans (ih _ _ hr)
    · exact he.trans (abortCycle ..)

theorem endDone (i : Nat) (s : State) (h : (s.engine c).state = .running) :
    EngineActs c s (State.endDone c i s) := by
  have hd := postDone c i s
  have hr : ((State.postDone c i s).engine c).state = .running := h
  unfold State.endDone
  dsimp only
  split
  · exact hd.trans (complete c _ (by rw [hr]; nofun))
  · split
    · exact hd.trans (hold c _ (by rw [hr]; nofun))
    · exact hd.trans (runFrom c _ _ _ hr)

theorem judge (k : Causes) (s : State) : EngineActs c s (State.judge c k s) := by
  unfold State.judge
  split
  · rename_i h
    split
    · split
      · exact refl s
      · exact endDone c _ s h
      · exact abortCycle ..
    · exact refl s
  · split
    · exact abortCycle ..
    · exact refl s
  · split
    · exact abortCycle ..
    · exact refl s
  · exact refl s

/-! ## What the lock makes known -/

theorem inEngage_running (s : State) (h : s.inEngage c = true) : (s.engine c).state = .running := by
  simp only [inEngage, Bool.and_eq_true, decide_eq_true_eq] at h
  exact h.1

theorem onLockChanged (a b : LockState) (s : State) : EngineActs c s (State.onLockChanged c a b s) := by
  unfold State.onLockChanged
  split
  · exact judgeSafeCool ..
  · exact refl s
  · split
    · rename_i h
      have hr := inEngage_running c s (by simp_all)
      split
      · exact ((askEngage c s hr).trans (ofSettles (.announce _))).trans (judge ..)
      · exact judge ..
    · exact judge ..

theorem onLockNotice (n : LockNotice) (s : State) : EngineActs c s (State.onLockNotice c n s) := by
  unfold State.onLockNotice
  split
  · exact onLockChanged ..
  · exact judge ..
  · exact judge ..
  · split
    · exact judge ..
    · exact refl s
  · exact refl s

end EngineActs

end Sys2Proof.Machine
end

section
/-!
PROOFS. What the Supervisor's judgement of readiness and of its two outputs leaves alone; and the faults that stay
latched: no operation that follows an event clears one (R10, R66, R157, R164, R165). One lemma per shared operation.
-/

namespace Sys2Proof.Machine

open Sys2Proof State

/-! ## Readiness and the two outputs -/

/-- What the Supervisor does when it judges readiness, drive enable and heat inhibit afresh (R161 to R163): of itself
these and the measured flags alone are new, no grant is new, and of the rest what the relays and the fan settle. -/
structure Background (s t : State) : Prop where
  rest : t = { s with alloc := t.alloc, drive := t.drive, fan := t.fan, sup := t.sup, events := t.events }
  drive : t.drive = { s.drive with entries := t.drive.entries, driveState := t.drive.driveState }
  health : ∀ r, (t.relay r).health = (s.relay r).health
  fan : Fan.FormsAll s.frontDemand s.fan t.fan
  holds : ∀ e, t.holdsGrant e = true → s.holdsGrant e = true
  sup : t.sup = { s.sup with
    readiness := t.sup.readiness, measured := t.sup.measured, driveEnable := t.sup.driveEnable,
    inhibit := t.sup.inhibit }

namespace Background

variable {s t u : State}

theorem channels (h : Background s t) : t.channels = s.channels := by rw [h.rest]
theorem engines (h : Background s t) : t.engines = s.engines := by rw [h.rest]
theorem locks (h : Background s t) : t.locks = s.locks := by rw [h.rest]
theorem tableLocks (h : Background s t) : t.tableLocks = s.tableLocks := by rw [h.rest]
theorem bandIndex (h : Background s t) : t.bandIndex = s.bandIndex := by rw [h.rest]

theorem engine (h : Background s t) (c : Cavity) : t.engine c = s.engine c := by
  simp only [State.engine, h.engines]
theorem lock (h : Background s t) (c : Cavity) : t.lock c = s.lock c := by simp only [State.lock, h.locks]

theorem frontDemand (h : Background s t) : t.frontDemand = s.frontDemand := by
  unfold State.frontDemand State.isValid State.channel
  rw [h.channels]

theorem ofSettles (h : Settles s t) : Background s t where
  rest := by rw [h.rest]
  drive := h.drive
  health := h.health
  fan := h.fan
  holds := h.holds
  sup := by rw [h.sup]

theorem refl (s : State) : Background s s := ofSettles (.refl s)

theorem trans (h : Background s t) (k : Background t u) : Background s u where
  rest := by rw [k.rest, h.rest]
  drive := by rw [k.drive, h.drive]
  health r := (k.health r).trans (h.health r)
  fan := h.fan.trans (h.frontDemand ▸ k.fan)
  holds e x := h.holds e (k.holds e x)
  sup := by rw [k.sup, h.sup]

theorem setSup (s : State) (x : Sup) (h : x = { s.sup with
    readiness := x.readiness, measured := x.measured, driveEnable := x.driveEnable, inhibit := x.inhibit }) :
    Background s (s.setSup x) := ⟨rfl, rfl, fun _ => rfl, .refl, fun _ => id, h⟩

theorem post (s : State) (b : Block) (x : EventBody) : Background s (s.post b x) :=
  ⟨rfl, rfl, fun _ => rfl, .refl, fun _ => id, rfl⟩

theorem recomputeEnable (s : State) : Background s s.recomputeEnable :=
  (setSup s { s.sup with driveEnable := s.driveEnableNow } rfl).trans (ofSettles (.judgeAllExpected _))

theorem recomputeInhibit (s : State) : Background s s.recomputeInhibit :=
  (setSup s { s.sup with inhibit := s.inhibitNow } rfl).trans (ofSettles (.review _))

theorem recompute (s : State) : Background s s.recompute := (recomputeEnable s).trans (recomputeInhibit _)

theorem judgeReady (s : State) : Background s s.judgeReady := by
  unfold State.judgeReady
  split
  · exact refl s
  · split
    · exact ((setSup s { s.sup with readiness := true } rfl).trans (post ..)).trans (recompute _)
    · exact refl s

theorem markMeasured (ch : Channel) (s : State) : Background s (State.markMeasured ch s) := by
  unfold State.markMeasured
  split
  · exact refl s
  · exact (setSup s { s.sup with measured := s.sup.measured.set ch true } rfl).trans (judgeReady _)

end Background

/-! ## A channel entry -/

namespace State

/-- A channel with a new entry, and a cavity channel's rate history after it, before any reader acts (R28, R30). -/
def entryWritten (ch : Channel) (new : ChannelEntry) (s : State) : State :=
  match ch with
  | .cav c => (s.setChannel ch new).setRate c (rateAfter (s.channel ch) new (s.rateOf c))
  | _ => s.setChannel ch new

/-- Taking an entry is writing it, and making it known where the state or F is new (R13). -/
theorem takeEntry_eq (ch : Channel) (new : ChannelEntry) (newF : Bool) (s : State) :
    takeEntry ch new newF s = if newF = true ∨ (s.channel ch).state ≠ new.state then
      channelKnown ⟨ch, (s.channel ch).state, newF⟩ (entryWritten ch new s) else entryWritten ch new s := by
  cases ch <;> rfl

end State

/-! ## A lock keeps its faults -/

namespace LockCtl

/-- Every fault latched before is latched after. -/
def KeepsFaults (l l' : LockCtl) : Prop := ∀ x, l.faults.has x = true → l'.faults.has x = true

theorem KeepsFaults.of_eq {l l' : LockCtl} (h : l'.faults = l.faults) : KeepsFaults l l' := fun _ => h ▸ id

theorem KeepsFaults.trans {l l' l'' : LockCtl} (h : KeepsFaults l l') (k : KeepsFaults l' l'') : KeepsFaults l l'' :=
  fun x hx => k x (h x hx)

theorem latch_keeps (f : LockFault) (l : LockCtl) : KeepsFaults l (latch f l).lock := by
  unfold latch
  split
  · exact .of_eq rfl
  · intro x hx
    cases f <;> cases x <;> simp_all [LockFaults.put, LockFaults.has]

theorem jamFast_keeps (l : LockCtl) : KeepsFaults l (jamFast l).lock :=
  (latch_keeps .stuck { l with slot := none, releasePending := none } : KeepsFaults l _)

theorem takeSlot_keeps (p : DoorPolicy) (l : LockCtl) : KeepsFaults l (takeSlot p l).lock := by
  unfold takeSlot
  split
  · exact .of_eq rfl
  · exact .of_eq (request_faults ..).1

theorem endEngaged_keeps (p : DoorPolicy) (l : LockCtl) : KeepsFaults l (endEngaged p l).lock :=
  (takeSlot_keeps p _ : KeepsFaults (rest .engaged l).lock _)

theorem endReleased_keeps (p : DoorPolicy) (l : LockCtl) : KeepsFaults l (endReleased p l).lock :=
  (takeSlot_keeps p _ : KeepsFaults (rest .released l).lock _)

theorem endReturning_keeps (p : DoorPolicy) (l : LockCtl) : KeepsFaults l (endReturning p l).lock := by
  unfold endReturning
  split
  · exact (latch_keeps .jam l).trans (endReleased_keeps p _)
  · exact endReleased_keeps p l

theorem slip_keeps (l : LockCtl) : KeepsFaults l (slip l).lock := by
  have hp : KeepsFaults l (pendingToSlot l) := by
    unfold pendingToSlot
    split <;> exact .of_eq rfl
  refine (hp.trans (latch_keeps .slip _)).trans (.of_eq ?_)
  show (LockCtl.faults (LockStep.lock (if _ then _ else _))) = _
  split <;> rfl

theorem derive_keeps (l : LockCtl) : KeepsFaults l (derive l).lock := by
  unfold derive
  dsimp only
  split
  · exact jamFast_keeps l
  · repeat' split
    all_goals exact .of_eq rfl

theorem adopt_keeps (l : LockCtl) : KeepsFaults l (adopt l).lock := by
  unfold adopt
  split
  · exact derive_keeps l
  · exact .of_eq rfl

theorem react_keeps (p : DoorPolicy) (sw : Switch) (level : Bool) (l : LockCtl) :
    KeepsFaults l (react p sw level l).lock := by
  unfold react
  split
  · exact endEngaged_keeps p l
  · exact .of_eq rfl
  · exact latch_keeps .breach l
  · exact slip_keeps l
  · exact endReleased_keeps p l
  · exact endReturning_keeps p l
  · exact .of_eq rfl

theorem switchChange_keeps (p : DoorPolicy) (sw : Switch) (level : Bool) (l : LockCtl) :
    KeepsFaults l (switchChange p sw level l).lock := by
  unfold switchChange
  dsimp only
  have h : KeepsFaults l { l with levels := l.levels.set sw (some level) } := .of_eq rfl
  split
  · exact h.trans (adopt_keeps _)
  · exact h
  · split
    · exact h.trans (jamFast_keeps _)
    · exact h.trans (react_keeps p sw level _)

theorem motionExpiry_keeps (l : LockCtl) : KeepsFaults l (motionExpiry l).lock := by
  unfold motionExpiry
  split
  · exact .of_eq rfl
  · split
    · split
      · exact jamFast_keeps l
      · exact .of_eq rfl
    · exact jamFast_keeps l
    · exact jamFast_keeps l
    · exact .of_eq rfl

theorem bandChange_keeps (p : DoorPolicy) (l : LockCtl) : KeepsFaults l (bandChange p l).lock := by
  unfold bandChange
  split <;> exact .of_eq rfl

end LockCtl

/-! ## Latched faults -/

/-- The faults that CLEAR or a reset alone ends are still latched (R66, R157, R164, R165). -/
structure FaultsKept (s t : State) : Prop where
  locks : ∀ c, LockCtl.KeepsFaults (s.lock c) (t.lock c)
  stall : s.fan.stall = true → t.fan.stall = true
  overheat : ∀ c, s.sup.overheat.get c = true → t.sup.overheat.get c = true
  runaway : ∀ c, s.sup.runaway.get c = true → t.sup.runaway.get c = true

/-- The welded faults, which the end of a relay test or a reset alone ends, are still latched (R148). -/
structure WeldsKept (s t : State) : Prop where
  element : s.drive.elementWelded = true → t.drive.elementWelded = true
  master : s.drive.masterWelded = true → t.drive.masterWelded = true

/-- Every latched fault is still latched. -/
structure AllKept (s t : State) : Prop extends FaultsKept s t, WeldsKept s t where
  isOpen : ∀ e, s.drive.elementOpen.get e = true → t.drive.elementOpen.get e = true

namespace FaultsKept

variable {s t u : State}

theorem trans (h : FaultsKept s t) (k : FaultsKept t u) : FaultsKept s u :=
  ⟨fun c => (h.locks c).trans (k.locks c), fun x => k.stall (h.stall x), fun c x => k.overheat c (h.overheat c x),
    fun c x => k.runaway c (h.runaway c x)⟩

/-- A change of the other blocks. -/
theorem of_eq (hl : t.locks = s.locks) (hf : t.fan = s.fan) (hs : t.sup = s.sup) : FaultsKept s t :=
  ⟨fun c => .of_eq (by simp only [lock, hl]), by rw [hf]; exact id, fun c => by rw [hs]; exact id,
    fun c => by rw [hs]; exact id⟩

theorem forEach {α : Type} (l : List α) (op : α → State → State) (h : ∀ x s, FaultsKept s (op x s)) (s : State) :
    FaultsKept s (Machine.forEach l op s) := by
  induction l generalizing s with
  | nil => exact of_eq rfl rfl rfl
  | cons x xs ih => exact (h x s).trans (ih (op x s))

end FaultsKept

theorem WeldsKept.trans {s t u : State} (h : WeldsKept s t) (k : WeldsKept t u) : WeldsKept s u :=
  ⟨fun x => k.element (h.element x), fun x => k.master (h.master x)⟩

namespace AllKept

variable {s t u : State}

theorem trans (h : AllKept s t) (k : AllKept t u) : AllKept s u :=
  ⟨h.toFaultsKept.trans k.toFaultsKept, h.toWeldsKept.trans k.toWeldsKept, fun e x => k.isOpen e (h.isOpen e x)⟩

/-- A change of the other blocks, and of the drive in what is no fault. -/
theorem of_eq (hl : t.locks = s.locks) (hf : t.fan = s.fan) (hs : t.sup = s.sup)
    (ho : t.drive.elementOpen = s.drive.elementOpen) (he : t.drive.elementWelded = s.drive.elementWelded)
    (hm : t.drive.masterWelded = s.drive.masterWelded) : AllKept s t :=
  ⟨.of_eq hl hf hs, ⟨he ▸ id, hm ▸ id⟩, fun _ => ho ▸ id⟩

theorem refl (s : State) : AllKept s s := of_eq rfl rfl rfl rfl rfl rfl

theorem forEach {α : Type} (l : List α) (op : α → State → State) (h : ∀ x s, AllKept s (op x s)) (s : State) :
    AllKept s (Machine.forEach l op s) := by
  induction l generalizing s with
  | nil => exact refl s
  | cons x xs ih => exact (h x s).trans (ih (op x s))

theorem ofBackground (h : Background s t) : AllKept s t where
  locks c := .of_eq (by rw [h.lock])
  stall x := h.fan.stall.trans x
  overheat c := by rw [h.sup]; exact id
  runaway c := by rw [h.sup]; exact id
  element := by rw [h.drive]; exact id
  master := by rw [h.drive]; exact id
  isOpen e := by rw [h.drive]; exact id

theorem ofSettles (h : Settles s t) : AllKept s t := ofBackground (.ofSettles h)

theorem ofEngine {c : Cavity} (h : EngineFrame c s t) : AllKept s t where
  locks d := .of_eq (h.faults d)
  stall x := h.fan.stall.trans x
  overheat c := by rw [h.sup]; exact id
  runaway c := by rw [h.sup]; exact id
  element := by rw [h.drive]; exact id
  master := by rw [h.drive]; exact id
  isOpen e := by rw [h.drive]; exact id

theorem post (s : State) (b : Block) (x : EventBody) : AllKept s (s.post b x) := of_eq rfl rfl rfl rfl rfl rfl

theorem relay (s : State) (r : Relay) (x : RelayEntry) : AllKept s (s.setRelay r x) := of_eq rfl rfl rfl rfl rfl rfl

theorem setTest (t : RelayTest) (s : State) : AllKept s (s.setTest t) := of_eq rfl rfl rfl rfl rfl rfl

theorem sup (s : State) (x : Sup) (ho : ∀ c, s.sup.overheat.get c = true → x.overheat.get c = true)
    (hr : ∀ c, s.sup.runaway.get c = true → x.runaway.get c = true) : AllKept s (s.setSup x) :=
  ⟨⟨fun _ => .of_eq rfl, id, ho, hr⟩, ⟨id, id⟩, fun _ => id⟩

theorem fan (s : State) (x : Fan) (h : s.fan.stall = true → x.stall = true) : AllKept s (s.setFan x) :=
  ⟨⟨fun _ => .of_eq rfl, h, fun _ => id, fun _ => id⟩, ⟨id, id⟩, fun _ => id⟩

theorem lock (s : State) (c : Cavity) (l : LockCtl) (h : LockCtl.KeepsFaults (s.lock c) l) :
    AllKept s (s.setLock c l) :=
  ⟨⟨fun d => by
      by_cases e : d = c
      · subst e; simpa [State.lock] using h
      · exact .of_eq (by simp [State.lock, e]), id, fun _ => id, fun _ => id⟩, ⟨id, id⟩, fun _ => id⟩

theorem applyLock (s : State) (c : Cavity) (x : LockStep) (h : LockCtl.KeepsFaults (s.lock c) x.lock) :
    AllKept s (s.applyLock c x) := by
  obtain ⟨y, hy⟩ := applyLock_rest c x s
  rw [hy]
  exact (lock s c x.lock h).trans (of_eq rfl rfl rfl rfl rfl rfl)

/-! ## The Supervisor -/

theorem systemAbort (s : State) : AllKept s s.systemAbort :=
  forEach _ _ (fun c s => ofEngine (EngineActs.abortCycle c .system s).toEngineFrame) s

theorem systemFault (s : State) : AllKept s s.systemFault :=
  (ofBackground (.recompute s)).trans (systemAbort _)

/-- A flag written true, or as it was, is still set where it was. -/
theorem get_set_kept (p : PerCavity Bool) (c : Cavity) (x : Bool) (h : p.get c = true → x = true) (d : Cavity)
    (hd : p.get d = true) : (p.set c x).get d = true := by
  by_cases e : d = c
  · subst e; simpa using h hd
  · simpa [e] using hd

theorem setOverheat (c : Cavity) (x : Bool) (t : Timer) (s : State)
    (h : s.sup.overheat.get c = true → x = true) : AllKept s (State.setOverheat c x t s) :=
  sup s _ (get_set_kept _ _ _ h) fun _ => id

theorem judgeOverheat (c : Cavity) (f : Int) (s : State) : AllKept s (State.judgeOverheat c f s) := by
  unfold State.judgeOverheat
  split
  · split
    · split
      · exact setOverheat _ _ _ _ fun _ => rfl
      · exact refl s
    · exact ((post ..).trans (setOverheat _ _ _ _ fun _ => rfl)).trans (systemFault _)
  · exact setOverheat _ _ _ _ id

theorem judgeRunawayOn (u : SlotUse) (c : Cavity) (s : State) : AllKept s (State.judgeRunawayOn u c s) := by
  unfold State.judgeRunawayOn
  split
  · split
    · exact ((sup s { s.sup with runaway := s.sup.runaway.set c true } (fun _ => id)
        (get_set_kept _ _ _ fun _ => rfl)).trans (post ..)).trans (systemFault _)
    · exact refl s
  · exact refl s

/-! ## The relay test -/

theorem followMismatch (r : Relay) (s : State) : AllKept s (State.followMismatch r s) := by
  unfold State.followMismatch
  dsimp only
  split
  · split
    · exact refl s
    · split
      · exact relay ..
      · split
        · exact relay ..
        · exact refl s
  · exact refl s

theorem restartSettle (r : Relay) (s : State) : AllKept s (State.restartSettle r s) := by
  unfold State.restartSettle
  split
  · exact relay ..
  · exact refl s

theorem startStep (s : State) : AllKept s s.startStep := by
  unfold State.startStep
  dsimp only
  split
  · exact refl s
  · exact (setTest ..).trans (relay ..)

theorem testDrivesOff (s : State) : AllKept s s.testDrivesOff := forEach _ _ (fun _ _ => relay ..) s

theorem beginTest (o : TestOrigin) (s : State) : AllKept s (State.beginTest o s) :=
  (((setTest ..).trans (forEach _ _ (fun _ _ => relay ..) _)).trans (ofSettles (.review _))).trans (startStep _)

theorem abandonTest (s : State) : AllKept s s.abandonTest := by
  unfold State.abandonTest
  split
  · exact ((setTest ..).trans (testDrivesOff _)).trans (forEach _ _ restartSettle _)
  · exact refl s

theorem assertTrip (s : State) : AllKept s s.assertTrip := by
  unfold State.assertTrip
  split
  · exact refl s
  · exact ((((sup s { s.sup with trip := true } (fun _ => id) fun _ => id).trans (post ..)).trans
      (abandonTest _)).trans (systemFault _)).trans (ofSettles (.fanSync _))

theorem weldedLatched (s : State) : AllKept s s.weldedLatched := by
  unfold State.weldedLatched
  dsimp only
  split
  · exact (systemFault s).trans (assertTrip _)
  · exact systemFault s

theorem healthKnown (b : Bool × Bool) (s : State) : AllKept s (State.healthKnown b s) := by
  unfold State.healthKnown
  split
  · exact weldedLatched s
  · exact ofBackground (.recompute s)

theorem startupDone (s : State) : AllKept s s.startupDone :=
  (sup s { s.sup with startupDone := true } (fun _ => id) fun _ => id).trans (ofBackground (.judgeReady _))

/-! ## What is made known -/

theorem markAdopted (c : Cavity) (s : State) : AllKept s (State.markAdopted c s) :=
  (sup s { s.sup with adopted := s.sup.adopted.set c true } (fun _ => id) fun _ => id).trans
    (ofBackground (.judgeReady _))

theorem carryNotice (c : Cavity) (n : LockNotice) (s : State) : AllKept s (State.carryNotice c n s) := by
  unfold State.carryNotice
  refine trans ?_ (ofEngine (EngineActs.onLockNotice c n _).toEngineFrame)
  split
  · exact ofSettles (.withdrawCavity ..)
  · exact markAdopted ..
  · exact refl s

theorem lockEvent (c : Cavity) (x : LockStep) (s : State) (h : LockCtl.KeepsFaults (s.lock c) x.lock) :
    AllKept s (State.lockEvent c x s) :=
  ((applyLock s c x h).trans (ofSettles (.review _))).trans (forEach _ _ (carryNotice c) _)

theorem bandReaderActs (c : Cavity) (r : State.BandReader) (s : State) :
    AllKept s (State.bandReaderActs c r s) := by
  cases r with
  | allocator => exact ofSettles (.review s)
  | fan => exact ofSettles (.fanSync s)
  | lock => exact lockEvent _ _ _ (LockCtl.bandChange_keeps _ _)

theorem bandKnown (c : Cavity) (s : State) : AllKept s (State.bandKnown c s) :=
  forEach _ _ (bandReaderActs c) s

theorem takeBand (c : Cavity) (i : BandIndex) (s : State) : AllKept s (State.takeBand c i s) := by
  unfold State.takeBand
  split
  · exact refl s
  · exact (of_eq rfl rfl rfl rfl rfl rfl : AllKept s (s.setBandIndex c i)).trans (bandKnown ..)

theorem bandReads (c : Cavity) (old : ChannelState) (s : State) : AllKept s (State.bandReads c old s) := by
  unfold State.bandReads
  dsimp only
  split
  · split
    · split <;> exact takeBand ..
    · exact refl s
  · exact takeBand ..

theorem engineReadsCavity (c : Cavity) (newF : Bool) (s : State) : AllKept s (State.engineReadsCavity c newF s) := by
  refine trans ?_ (ofEngine (EngineActs.judge c {} _).toEngineFrame)
  unfold onlyIf raisePeak
  repeat' split
  all_goals first | exact refl s | exact ofEngine (.modEngine ..)

theorem supReadsF (c : Cavity) (newF : Bool) (s : State) : AllKept s (State.supReadsF c newF s) := by
  unfold State.supReadsF
  split
  · split
    · exact judgeOverheat ..
    · exact refl s
  · exact refl s

theorem supReadsFront (old : ChannelState) (s : State) : AllKept s (State.supReadsFront old s) := by
  unfold State.supReadsFront
  split
  · exact systemFault s
  · exact ofBackground (.recompute s)

theorem fanReadsFront (newF : Bool) (s : State) : AllKept s (State.fanReadsFront newF s) := by
  unfold State.fanReadsFront
  split
  · split
    · rename_i f _ _
      exact ((fan s (s.fan.judgeFront f) id).trans (ofSettles (.fanSync _))).trans (ofBackground (.recompute _))
    · exact ofSettles (.fanSync s)
  · exact ofSettles (.fanSync s)

theorem readerActs (k : State.ChannelChange) (r : State.Reader) (s : State) :
    AllKept s (State.readerActs k r s) := by
  unfold State.readerActs
  split
  · exact bandReads ..
  · exact engineReadsCavity ..
  · exact (ofBackground (.markMeasured ..)).trans (supReadsF ..)
  · exact ofSettles (.review s)
  · exact ofEngine (EngineActs.judge ..).toEngineFrame
  · exact ofBackground (.markMeasured ..)
  · exact fanReadsFront ..
  · exact (ofBackground (.markMeasured ..)).trans (supReadsFront ..)
  · exact refl s

theorem channelKnown (k : State.ChannelChange) (s : State) : AllKept s (State.channelKnown k s) :=
  forEach _ _ (readerActs k) s

theorem takeEntry (ch : Channel) (new : ChannelEntry) (newF : Bool) (s : State) :
    AllKept s (State.takeEntry ch new newF s) := by
  have h : AllKept s (entryWritten ch new s) := by cases ch <;> exact of_eq rfl rfl rfl rfl rfl rfl
  rw [takeEntry_eq]
  split
  · exact h.trans (channelKnown ..)
  · exact h

theorem close (s : State) : AllKept s s.close :=
  of_eq (close_locks s) (close_fan s) (close_sup s) (by rw [close_drive]) (by rw [close_drive])
    (by rw [close_drive])

end AllKept

end Sys2Proof.Machine
end

section
/-!
PROOFS. What every command but the named ones leaves as it stands: TRIP, readiness, the node address, FAILED channels
and every latched fault, through the whole of its effect; and the tables, which their requests alone write.
-/

namespace Sys2Proof.Machine

open Sys2Proof State

/-- TRIP and readiness stay once they are there, and the node address is read at a reset alone (R161, R166, R175). -/
structure StatusKept (s t : State) : Prop where
  trip : s.sup.trip = true → t.sup.trip = true
  ready : s.sup.readiness = true → t.sup.readiness = true
  node : t.link.nodeAddress = s.link.nodeAddress

/-- Besides, a FAILED channel stays as it is (R10), and every latched fault stays latched. -/
structure Undisturbed (s t : State) : Prop extends StatusKept s t, AllKept s t where
  failed : ∀ ch, s.isFailed ch = true → t.channel ch = s.channel ch

/-- Besides, the tables stay. -/
structure Ordinary (s t : State) : Prop extends Undisturbed s t where
  tables : t.tables = s.tables

theorem StatusKept.trans {s t u : State} (h : StatusKept s t) (k : StatusKept t u) : StatusKept s u :=
  ⟨fun x => k.trip (h.trip x), fun x => k.ready (h.ready x), k.node.trans h.node⟩

theorem StatusKept.ofQuiet {s t : State} (h : Quiet s t) : StatusKept s t := ⟨h.trip, h.ready, by rw [h.link]⟩

theorem Undisturbed.trans {s t u : State} (h : Undisturbed s t) (k : Undisturbed t u) : Undisturbed s u where
  toStatusKept := h.toStatusKept.trans k.toStatusKept
  toAllKept := h.toAllKept.trans k.toAllKept
  failed ch x := by
    have e := h.failed ch x
    exact (k.failed ch (by unfold isFailed at x ⊢; rw [e]; exact x)).trans e

namespace Ordinary

variable {s t u : State}

theorem trans (h : Ordinary s t) (k : Ordinary t u) : Ordinary s u :=
  ⟨h.toUndisturbed.trans k.toUndisturbed, k.tables.trans h.tables⟩

theorem ofQuiet (q : Quiet s t) (a : AllKept s t) : Ordinary s t where
  toStatusKept := .ofQuiet q
  toAllKept := a
  failed ch _ := by simp only [channel, q.channels]
  tables := q.tables

theorem ofEngine {c : Cavity} (q : Quiet s t) (a : EngineFrame c s t) : Ordinary s t := ofQuiet q (.ofEngine a)

/-- A change of the blocks that hold none of this. -/
theorem of_eq (hc : t.channels = s.channels) (hn : t.link.nodeAddress = s.link.nodeAddress)
    (hl : t.locks = s.locks) (hf : t.fan = s.fan) (hs : t.sup = s.sup)
    (hd : t.drive = s.drive) (ht : t.tables = s.tables) : Ordinary s t where
  trip := by rw [hs]; exact id
  ready := by rw [hs]; exact id
  node := hn
  toAllKept := .of_eq hl hf hs (by rw [hd]) (by rw [hd]) (by rw [hd])
  failed ch _ := by simp only [channel, hc]
  tables := ht

theorem refl (s : State) : Ordinary s s := of_eq rfl rfl rfl rfl rfl rfl rfl

theorem link (s : State) (x : Link) (h : x.nodeAddress = s.link.nodeAddress) : Ordinary s (s.setLink x) :=
  of_eq rfl h rfl rfl rfl rfl rfl

theorem alloc (s : State) (x : Alloc) : Ordinary s (s.setAlloc x) := of_eq rfl rfl rfl rfl rfl rfl rfl

theorem pins (s : State) (x : Pins) : Ordinary s (s.setPins x) := of_eq rfl rfl rfl rfl rfl rfl rfl

theorem converter (s : State) (x : Converter) : Ordinary s (s.setConverter x) := of_eq rfl rfl rfl rfl rfl rfl rfl

theorem post (s : State) (b : Block) (x : EventBody) : Ordinary s (s.post b x) := ofQuiet (.post ..) (.post ..)

theorem relay (s : State) (r : Relay) (x : RelayEntry) : Ordinary s (s.setRelay r x) :=
  ofQuiet (.relay ..) (.relay ..)

theorem drive (s : State) (x : Drive) (ho : ∀ e, s.drive.elementOpen.get e = true → x.elementOpen.get e = true)
    (he : s.drive.elementWelded = true → x.elementWelded = true)
    (hm : s.drive.masterWelded = true → x.masterWelded = true) : Ordinary s (s.setDrive x) where
  trip := id
  ready := id
  node := rfl
  toAllKept := ⟨.of_eq rfl rfl rfl, ⟨he, hm⟩, ho⟩
  failed _ _ := rfl
  tables := rfl

theorem fan (s : State) (x : Fan) (h : s.fan.stall = true → x.stall = true) : Ordinary s (s.setFan x) :=
  ofQuiet (.fan ..) (.fan s x h)

theorem forEach {α : Type} (l : List α) (op : α → State → State) (h : ∀ x s, Ordinary s (op x s)) (s : State) :
    Ordinary s (Machine.forEach l op s) := by
  induction l generalizing s with
  | nil => exact refl s
  | cons x xs ih => exact (h x s).trans (ih (op x s))

theorem onlyIf (p : Bool) (op : State → State) (h : ∀ s, Ordinary s (op s)) (s : State) :
    Ordinary s (Machine.onlyIf p op s) := by
  unfold Machine.onlyIf
  split
  · exact h s
  · exact refl s

/-! ## Requests and records -/

theorem close (s : State) : Ordinary s s.close where
  trip := by rw [close_sup]; exact id
  ready := by rw [close_sup]; exact id
  node := by rw [close_rest]
  toAllKept := .close s
  failed ch _ := by simp only [channel, close_channels]
  tables := close_tables s

theorem endOfFrame (s : State) : Ordinary s s.endOfFrame := by
  rw [endOfFrame_rest]
  exact link s _ (by rw [endOfFrame_link])

theorem sendReply (a : Answer) (s : State) : Ordinary s (s.sendReply a) := link s _ rfl

end Ordinary

/-- A property of pairs of states that a whole request has where what its owner does has it: it is transitive, and
everything that is Ordinary has it. -/
structure Carried (R : State → State → Prop) : Prop where
  ordinary : ∀ {s t}, Ordinary s t → R s t
  trans : ∀ {s t u}, R s t → R t u → R s u

theorem Carried.statusKept : Carried StatusKept := ⟨fun h => h.toStatusKept, StatusKept.trans⟩
theorem Carried.undisturbed : Carried Undisturbed := ⟨fun h => h.toUndisturbed, Undisturbed.trans⟩
theorem Carried.ordinary_self : Carried Ordinary := ⟨id, Ordinary.trans⟩
theorem Carried.weldsKept : Carried WeldsKept := ⟨fun h => h.toWeldsKept, WeldsKept.trans⟩

/-- A part of the tables stays. -/
theorem Carried.part {α : Type} (part : Tables → α) : Carried fun s t => part t.tables = part s.tables :=
  ⟨fun h => by rw [h.tables], fun h k => k.trans h⟩

theorem Carried.takeRequest {R : State → State → Prop} (C : Carried R) {widths : List Nat} {p : List Byte}
    {owner : Fields → State → State × Answer} (h : ∀ f s, R s (owner f s).1) (s : State) :
    R s (s.takeRequest widths p owner) := by
  unfold State.takeRequest serve
  split
  · exact C.ordinary (.refl s)
  · split
    · exact C.ordinary ((Ordinary.endOfFrame s).trans (.sendReply ..))
    · exact C.trans (C.trans (C.ordinary (.endOfFrame s)) (h ..))
        (C.ordinary ((Ordinary.close _).trans (.sendReply ..)))

theorem Carried.forCavity {R : State → State → Prop} (C : Carried R) {op : Cavity → State → State × Answer}
    (h : ∀ c s, R s (op c s).1) (f : Fields) (s : State) : R s (forCavity op f s).1 := by
  unfold Machine.forCavity
  split
  · exact h ..
  · exact C.ordinary (.refl s)

/-- The record of a failure joins the outbox, and nothing else is new (R10). -/
theorem State.postFailure_rest (ch : Channel) (old new : ChannelEntry) (s : State) :
    ∃ x, postFailure ch old new s = s.setEvents x := by
  unfold postFailure
  repeat' split
  all_goals first | exact ⟨s.events, rfl⟩ | exact ⟨_, rfl⟩

namespace Ordinary

theorem readRequest {widths : List Nat} {p : List Byte} {owner : Fields → State → Answer} (s : State) :
    Ordinary s (s.readRequest widths p owner) := by
  unfold State.readRequest serve
  split
  · exact refl s
  · split
    · exact (endOfFrame s).trans (sendReply ..)
    · exact (endOfFrame s).trans (sendReply ..)

/-! ## Cycle requests and lock requests -/

theorem abortCycle (c : Cavity) (k : Condition) (s : State) : Ordinary s (State.abortCycle c k s) :=
  ofEngine (.abortCycle ..) (EngineActs.abortCycle ..).toEngineFrame

theorem judge (c : Cavity) (k : Causes) (s : State) : Ordinary s (State.judge c k s) :=
  ofEngine (.judge ..) (EngineActs.judge ..).toEngineFrame

theorem modEngine (c : Cavity) (fn : Engine → Engine) (s : State) : Ordinary s (s.modEngine c fn) :=
  ofEngine (.modEngine ..) (.modEngine ..)

theorem announce (s : State) : Ordinary s s.announce := ofQuiet (.announce s) (.ofSettles (.announce s))

theorem startItems (c : Cavity) (x : Bool) (s : State) : Ordinary s (s.startItems c x) :=
  (modEngine c _ s).trans ((ofQuiet (.tableLock ..) (.of_eq rfl rfl rfl rfl rfl rfl)).trans
    (ofQuiet (.lock ..) (.lock _ c _ (.of_eq rfl))))

theorem runFrom (c : Cavity) (l : List SegmentRecord) (i : Nat) (s : State) (h : (s.engine c).state = .running) :
    Ordinary s (State.runFrom c l i s) :=
  ofEngine (.runFrom ..) (EngineActs.runFrom c l i s h).toEngineFrame

theorem startCycle (c : Cavity) (x : Bool) (s : State) : Ordinary s (s.startCycle c x) := by
  refine (startItems c x s).trans ?_
  have hr : ((s.startItems c x).engine c).state = .running := by
    simp [State.startItems, engine, setLock, setTableLock, State.modEngine, setEngine]
  unfold State.startCycle
  dsimp only
  split
  · exact (modEngine ..).trans (abortCycle ..)
  · split
    · exact (modEngine ..).trans (abortCycle ..)
    · exact runFrom _ _ _ _ hr

theorem startAnswer (f : Fields) (s : State) : Ordinary s (startAnswer f s).1 := by
  unfold Machine.startAnswer
  repeat' split
  all_goals first | exact refl s | exact startCycle ..

theorem pauseAnswer (c : Cavity) (s : State) : Ordinary s (pauseAnswer c s).1 := by
  unfold Machine.pauseAnswer
  repeat' split
  all_goals first | exact refl s | exact (modEngine ..).trans (announce _)

theorem resumeAnswer (c : Cavity) (s : State) : Ordinary s (resumeAnswer c s).1 := by
  unfold Machine.resumeAnswer
  split
  · exact ((modEngine ..).trans (announce _)).trans (judge ..)
  · exact refl s

theorem stepAnswer (c : Cavity) (s : State) : Ordinary s (stepAnswer c s).1 := by
  unfold Machine.stepAnswer
  split
  case h_1 => exact (modEngine ..).trans (runFrom _ _ _ _ (by simp))
  all_goals exact refl s

theorem allStop (s : State) : Ordinary s (allStop s) := forEach _ _ (fun c s => abortCycle c .hostAbort s) s

theorem broadcastStop (p : List Byte) (s : State) : Ordinary s (broadcastStop p s) := by
  unfold Machine.broadcastStop
  split
  · exact refl s
  · split
    · exact ((endOfFrame s).trans (allStop _)).trans (close _)
    · exact endOfFrame s

theorem lockEvent (c : Cavity) (x : LockStep) (s : State) (h : LockCtl.KeepsFaults (s.lock c) x.lock) :
    Ordinary s (State.lockEvent c x s) := ofQuiet (.lockEvent ..) (.lockEvent _ _ _ h)

theorem hostLock (c : Cavity) (k : LockRequestKind) (w : Bool) (s : State) : Ordinary s (hostLock c k w s).1 := by
  have h := lockEvent c (LockCtl.request (s.policy c) w ⟨k, .host⟩ (s.lock c)).1 s
    (.of_eq (LockCtl.request_faults ..).1)
  unfold Machine.hostLock hostAsk
  dsimp only
  repeat' split
  all_goals first | exact h | exact refl s

theorem unlockAnswer (f : Fields) (s : State) : Ordinary s (unlockAnswer f s).1 := by
  unfold Machine.unlockAnswer
  repeat' split
  all_goals first | exact refl s | exact hostLock ..

/-! ## Measurement -/

theorem judgeScan_failed (w : Int) (r : ConvResult) (e : ChannelEntry) (h : e.state = .failed) :
    (judgeScan w r e).entry = e := by simp [judgeScan, h]

/-- A channel takes a new entry, which is the old one where it had failed (R7, R10). -/
theorem takeEntry (ch : Channel) (new : ChannelEntry) (newF : Bool) (s : State)
    (h : s.isFailed ch = true → new = s.channel ch) : Ordinary s (State.takeEntry ch new newF s) where
  trip x := (takeEntry_quiet ch new newF s).trip (by cases ch <;> exact x)
  ready x := (takeEntry_quiet ch new newF s).ready (by cases ch <;> exact x)
  node := by rw [(takeEntry_quiet ch new newF s).link]; cases ch <;> rfl
  toAllKept := .takeEntry ..
  failed d hd := by
    by_cases e : d = ch
    · subst e; simpa [channel, takeEntry_channels] using h hd
    · simp [channel, takeEntry_channels, e]
  tables := takeEntry_tables ..

theorem nextStarted (codes : BitVec 16 × BitVec 16) (s : State) : Ordinary s (s.nextStarted codes) :=
  (converter ..).trans (pins ..)

theorem completeScan (codes : BitVec 16 × BitVec 16) (s : State) : Ordinary s (s.completeScan codes) := by
  obtain ⟨y, hy⟩ := postFailure_rest s.converter.channel (s.channel s.converter.channel)
    (judgeScan (agreementWindow s.converter.channel) (convert codes.1 codes.2) (s.channel s.converter.channel)).entry
    (s.nextStarted codes)
  have hp : Ordinary (s.nextStarted codes) ((s.nextStarted codes).setEvents y) := of_eq rfl rfl rfl rfl rfl rfl rfl
  unfold State.completeScan
  dsimp only
  rw [hy]
  exact ((nextStarted ..).trans hp).trans (takeEntry _ _ _ _ fun h => judgeScan_failed _ _ _ (of_decide_eq_true h))

/-! ## Ticks and windows -/

theorem tickEngine (c : Cavity) (s : State) : Ordinary s (State.tickEngine c s) := by
  have hw : ∀ s : State, Ordinary s (runningWork c s) := by
    intro s
    unfold runningWork
    split
    · exact modEngine ..
    · exact refl s
  have hh : ∀ s : State, Ordinary s (holdWork c s) := by
    intro s
    unfold holdWork
    dsimp only
    split
    · exact (modEngine ..).trans (abortCycle ..)
    · exact modEngine ..
  have h := modEngine c countTick s
  unfold State.tickEngine
  dsimp only
  split
  · exact (h.trans (hw _)).trans (judge ..)
  · exact h.trans (hh _)
  · exact h.trans (hh _)
  · exact h

theorem judgeRunawayOn (u : SlotUse) (c : Cavity) (s : State) : Ordinary s (State.judgeRunawayOn u c s) :=
  ofQuiet (.judgeRunawayOn ..) (.judgeRunawayOn ..)

theorem startSlot (k : Nat) (s : State) : Ordinary s (State.startSlot k s) := by
  refine ((alloc ..).trans (forEach _ _ (fun e s => ?_) _)).trans (forEach _ _ (fun c s => ?_) _)
  · exact ofQuiet (.setDriveState ..) (.ofSettles (.setDriveState ..))
  · unfold noteSlotUse
    dsimp only
    split
    · exact (alloc ..).trans (judgeRunawayOn ..)
    · exact refl s

theorem startWindow (s : State) : Ordinary s s.startWindow := by
  have hj : ∀ (old : PerCavity SlotUse) (s : State), Ordinary s (Machine.forEach cavities (judgeShift old) s) := by
    refine fun old s => forEach _ _ (fun c s => ?_) s
    unfold judgeShift
    split
    · exact refl s
    · exact judgeRunawayOn ..
  unfold State.startWindow
  dsimp only
  split
  · exact (((alloc ..).trans (hj ..)).trans (alloc ..)).trans (startSlot ..)
  · exact (((alloc ..).trans (alloc ..)).trans (startSlot ..)).trans (hj ..)

/-! ## Relays -/

theorem beginTest (o : TestOrigin) (s : State) : Ordinary s (State.beginTest o s) :=
  ofQuiet (.beginTest ..) (.beginTest ..)

theorem startupDone (s : State) : Ordinary s s.startupDone :=
  ofQuiet ((Quiet.sup s { s.sup with startupDone := true } id id).trans (.judgeReady _)) (.startupDone s)

theorem startupTest (s : State) : Ordinary s s.startupTest := by
  unfold State.startupTest
  split
  · exact (ofQuiet (.setTest ..) (.setTest ..)).trans (startupDone _)
  · exact (ofQuiet (.testDrivesOff s) (.testDrivesOff s)).trans (beginTest ..)

theorem followMismatch (r : Relay) (s : State) : Ordinary s (State.followMismatch r s) :=
  ofQuiet (.followMismatch ..) (.followMismatch ..)

theorem senseMoves (r : Relay) (x : Bool) (s : State) : Ordinary s (State.senseMoves r x s) :=
  (((pins ..).trans (relay ..)).trans (onlyIf _ _ startupTest _)).trans (followMismatch ..)

theorem latchOpen (e : Element) (s : State) : Ordinary s (State.latchOpen e s) := by
  unfold State.latchOpen
  split
  · exact refl s
  · refine (drive s { s.drive with elementOpen := s.drive.elementOpen.set e true } (fun d h => ?_) id id).trans
      (post ..)
    by_cases hd : d = e
    · subst hd; simp
    · simpa [hd] using h

theorem latchWelded (r : Relay) (s : State) : Ordinary s (State.latchWelded r s) := by
  cases r with
  | element e => exact drive _ _ (fun _ => id) (fun _ => rfl) id
  | master => exact drive _ _ (fun _ => id) id fun _ => rfl

theorem weld (r : Relay) (s : State) : Ordinary s (State.weld r s) := by
  unfold State.weld
  split
  · exact latchWelded ..
  · exact ((relay ..).trans (latchWelded ..)).trans (post ..)

theorem healthKnown (b : Bool × Bool) (s : State) : Ordinary s (State.healthKnown b s) := by
  refine ofQuiet ?_ (.healthKnown ..)
  unfold State.healthKnown
  split
  · exact .weldedLatched s
  · exact .recompute s

theorem mismatchExpires (r : Relay) (s : State) : Ordinary s (State.mismatchExpires r s) := by
  unfold State.mismatchExpires
  refine (relay s r { s.relay r with mismatch := none }).trans ?_
  unfold judgeMismatch
  dsimp only
  split
  · split
    · exact ((relay ..).trans (latchOpen ..)).trans (ofQuiet (.recompute _) (.ofBackground (.recompute _)))
    · exact refl _
  · split
    · exact refl _
    · exact (weld ..).trans (healthKnown ..)
  · exact refl _

end Ordinary

end Sys2Proof.Machine
end

section
/-!
PROOFS. Obligation O56: what only a reset, a CLEAR, the end of a relay test or its own request changes stays through
every other command. The ordinary commands leave all of it; the end of a test step and CLEAR leave what is not theirs to
clear; and the writing requests leave all but their part of the tables.
-/

namespace Sys2Proof.Machine

open Sys2Proof State

/-! ## The end of a test step -/

/-- What the end of a relay test leaves: everything but the faults of the relays (R148). -/
structure TestEndKept (s t : State) : Prop extends StatusKept s t, FaultsKept s t where
  failed : ∀ ch, s.isFailed ch = true → t.channel ch = s.channel ch
  tables : t.tables = s.tables

namespace TestEndKept

variable {s t u : State}

theorem trans (h : TestEndKept s t) (k : TestEndKept t u) : TestEndKept s u where
  toStatusKept := h.toStatusKept.trans k.toStatusKept
  toFaultsKept := h.toFaultsKept.trans k.toFaultsKept
  failed ch x := by
    have e := h.failed ch x
    exact (k.failed ch (by unfold isFailed at x ⊢; rw [e]; exact x)).trans e
  tables := k.tables.trans h.tables

theorem ofOrdinary (h : Ordinary s t) : TestEndKept s t := ⟨h.toStatusKept, h.toFaultsKept, h.failed, h.tables⟩

theorem refl (s : State) : TestEndKept s s := ofOrdinary (.refl s)

theorem drive (s : State) (x : Drive) : TestEndKept s (s.setDrive x) :=
  ⟨⟨id, id, rfl⟩, .of_eq rfl rfl rfl, fun _ _ => rfl, rfl⟩

theorem post (s : State) (b : Block) (x : EventBody) : TestEndKept s (s.post b x) := ofOrdinary (.post ..)

theorem relay (s : State) (r : Relay) (x : RelayEntry) : TestEndKept s (s.setRelay r x) := ofOrdinary (.relay ..)

theorem forEach {α : Type} (l : List α) (op : α → State → State) (h : ∀ x s, TestEndKept s (op x s)) (s : State) :
    TestEndKept s (Machine.forEach l op s) := by
  induction l generalizing s with
  | nil => exact refl s
  | cons x xs ih => exact (h x s).trans (ih (op x s))

theorem applyPass (r : Relay) (s : State) : TestEndKept s (State.applyPass r s) := by
  have h : TestEndKept s (setHealth r .ok s) := relay ..
  cases r with
  | element e =>
    unfold State.applyPass
    dsimp only
    split
    · exact h.trans ((drive ..).trans (post ..))
    · exact h
  | master => exact h

theorem applyOpen (r : Relay) (s : State) : TestEndKept s (State.applyOpen r s) := by
  cases r with
  | element e => exact (relay ..).trans (ofOrdinary (.latchOpen ..))
  | master => exact relay ..

theorem applyResult (r : Relay) (s : State) : TestEndKept s (State.applyResult r s) := by
  unfold State.applyResult
  split
  · exact applyPass ..
  · exact applyOpen ..
  · exact ofOrdinary (.weld ..)
  · exact refl s

theorem clearWelded (b s : State) : TestEndKept s (State.clearWelded b s) := by
  refine ((drive ..).trans (forEach _ _ (fun r s => ?_) _)).trans (forEach _ _ (fun r s => ?_) _)
  · unfold healUnvisited
    split
    · exact refl s
    · exact relay ..
  · unfold postUnwelded
    repeat' split
    all_goals first | exact refl s | exact post ..

theorem completeTest (s : State) : TestEndKept s s.completeTest := by
  have h1 : TestEndKept s (Machine.forEach s.drive.test.visitList State.applyResult s) := forEach _ _ applyResult s
  have h2 : ∀ u, TestEndKept u (onlyIf s.allPassed (State.clearWelded s) u) := by
    intro u
    unfold onlyIf
    split
    · exact clearWelded ..
    · exact refl u
  have h3 : ∀ u, TestEndKept u (restartAllSettle u) := fun u =>
    forEach _ _ (fun r v => ofOrdinary (.ofQuiet (.restartSettle ..) (.restartSettle ..))) u
  have h4 : ∀ u, TestEndKept u (testKnown u) := fun u => ofOrdinary (.onlyIf _ _ .startupDone u)
  unfold State.completeTest
  dsimp only
  refine trans ?_ (ofOrdinary (.healthKnown ..))
  refine trans ?_ (h4 _)
  refine trans ?_ (h3 _)
  exact (h1.trans (h2 _)).trans (drive ..)

theorem endStep (t : TestStep) (x : Bool) (s : State) : TestEndKept s (State.endStep t x s) := by
  have h : TestEndKept s (fixResult t x s) := drive ..
  unfold State.endStep
  dsimp only
  split
  · exact h.trans (completeTest _)
  · exact h.trans (ofOrdinary (.ofQuiet (.startStep _) (.startStep _)))

end TestEndKept

/-! ## CLEAR -/

/-- What CLEAR leaves: TRIP, readiness, the node address, the welded faults and the tables (R168). -/
structure ClearKept (s t : State) : Prop extends StatusKept s t, WeldsKept s t where
  tables : t.tables = s.tables

namespace ClearKept

variable {s t u : State}

theorem trans (h : ClearKept s t) (k : ClearKept t u) : ClearKept s u :=
  ⟨h.toStatusKept.trans k.toStatusKept, h.toWeldsKept.trans k.toWeldsKept, k.tables.trans h.tables⟩

theorem ofOrdinary (h : Ordinary s t) : ClearKept s t := ⟨h.toStatusKept, h.toWeldsKept, h.tables⟩

theorem refl (s : State) : ClearKept s s := ofOrdinary (.refl s)

theorem ofQuiet (q : Quiet s t) (w : WeldsKept s t) : ClearKept s t := ⟨.ofQuiet q, w, q.tables⟩

/-- A change that leaves the welded faults alone. -/
theorem unwelded (q : Quiet s t) (he : t.drive.elementWelded = s.drive.elementWelded)
    (hm : t.drive.masterWelded = s.drive.masterWelded) : ClearKept s t := ofQuiet q ⟨he ▸ id, hm ▸ id⟩

theorem forEach {α : Type} (l : List α) (op : α → State → State) (h : ∀ x s, ClearKept s (op x s)) (s : State) :
    ClearKept s (Machine.forEach l op s) := by
  induction l generalizing s with
  | nil => exact refl s
  | cons x xs ih => exact (h x s).trans (ih (op x s))

theorem clearChannel (ch : Channel) (s : State) : ClearKept s (State.clearChannel ch s) := by
  have hp : ∀ e, ClearKept s (postChannelCleared ch e s) := by
    intro e
    unfold postChannelCleared
    split
    · exact ofOrdinary (.post ..)
    · exact refl s
  have ht : ∀ u : State, ClearKept u (takeEntry ch .reset false u) := fun u =>
    have q := takeEntry_quiet ch .reset false u
    ⟨⟨fun x => q.trip (by cases ch <;> exact x), fun x => q.ready (by cases ch <;> exact x),
      by rw [q.link]; cases ch <;> rfl⟩, (AllKept.takeEntry ..).toWeldsKept, takeEntry_tables ..⟩
  unfold State.clearChannel
  dsimp only
  split
  · exact (hp _).trans (ht _)
  · exact refl s

theorem openToOk (r : Relay) (s : State) : ClearKept s (State.openToOk r s) := by
  unfold State.openToOk
  split
  · exact ofOrdinary (.relay ..)
  · exact refl s

theorem clearElement (e : Element) (s : State) : ClearKept s (State.clearElement e s) := by
  have h : ClearKept s (unlatchOpen e s) :=
    (unwelded (.drive s { s.drive with elementOpen := s.drive.elementOpen.set e false } rfl) rfl rfl).trans
      (ofOrdinary (.post ..))
  unfold State.clearElement
  split
  · exact h.trans (openToOk ..)
  · exact refl s

theorem clearLock (c : Cavity) (s : State) : ClearKept s (State.clearLock c s) := by
  obtain ⟨y, hy⟩ := applyLock_rest c (LockCtl.clear (s.lock c)) s
  refine ((unwelded (.applyLock ..) ?_ ?_).trans (ofOrdinary (.ofQuiet (.review _) (.ofSettles (.review _))))).trans
    (forEach _ _ (fun n s => ofOrdinary (.ofQuiet (.carryNotice ..) (.carryNotice ..))) _) <;> simp [hy]

theorem clearFan (s : State) : ClearKept s s.clearFan := by
  unfold State.clearFan
  split
  · exact unwelded ((Quiet.fan ..).trans (.post ..)) rfl rfl
  · exact refl s

theorem clearRunaway (c : Cavity) (s : State) : ClearKept s (State.clearRunaway c s) := by
  unfold State.clearRunaway
  split
  · exact unwelded ((Quiet.sup s { s.sup with runaway := s.sup.runaway.set c false } id id).trans (.post ..)) rfl rfl
  · exact refl s

theorem clearOverheat (c : Cavity) (s : State) : ClearKept s (State.clearOverheat c s) := by
  unfold State.clearOverheat
  split
  · exact unwelded ((Quiet.setOverheat ..).trans (.post ..)) rfl rfl
  · exact refl s

theorem clearDrive (s : State) : ClearKept s s.clearDrive := (forEach _ _ clearElement s).trans (openToOk ..)

theorem clearAll (s : State) : ClearKept s s.clearAll := by
  unfold State.clearAll
  dsimp only
  refine trans ?_ (ofOrdinary (.ofQuiet (.recompute _) (.ofBackground (.recompute _))))
  refine trans ?_ (forEach _ _ clearOverheat _)
  refine trans ?_ (forEach _ _ clearRunaway _)
  refine trans ?_ (clearFan _)
  refine trans ?_ (forEach _ _ clearLock _)
  refine trans ?_ (clearDrive _)
  exact forEach _ _ clearChannel s

theorem clearAnswer (s : State) : ClearKept s (clearAnswer s).1 := by
  unfold Machine.clearAnswer
  split <;> dsimp only
  · exact clearAll s
  · exact refl s

end ClearKept

theorem Carried.clearKept : Carried ClearKept := ⟨ClearKept.ofOrdinary, ClearKept.trans⟩

/-! ## The requests that write the tables -/

/-- What a request that writes the tables leaves beside them. -/
theorem Undisturbed.setTables (s : State) (x : Tables) : Undisturbed s (s.setTables x) :=
  ⟨⟨id, id, rfl⟩, .of_eq rfl rfl rfl rfl rfl rfl, fun _ _ => rfl⟩

theorem Undisturbed.refl (s : State) : Undisturbed s s := (Ordinary.refl s).toUndisturbed

/-- The tables after a command: a request writes its own part of them alone, and none but the programs under a freeze
(R50). -/
structure TableWrites (i : Instr) (s t : State) : Prop where
  bands : (∀ p, i ≠ .writeBand p) ∨ s.tables.frozen = true → t.tables.bands = s.tables.bands
  programs : (∀ p, i ≠ .appendSegment p ∧ i ≠ .replaceSegment p ∧ i ≠ .clearProgram p) →
    t.tables.programs = s.tables.programs
  ratings : (∀ p, i ≠ .setElement p) ∨ s.tables.frozen = true → t.tables.ratings = s.tables.ratings
  budgetSet : (∀ p, i ≠ .setBudget p) ∨ s.tables.frozen = true → t.tables.budgetSet = s.tables.budgetSet
  frozen : (∀ p, i ≠ .freeze p) ∨ s.tables.frozen = true → t.tables.frozen = s.tables.frozen

/-- A request that writes the tables and leaves everything else undisturbed. -/
structure Writes (i : Instr) (s t : State) : Prop extends Undisturbed s t, TableWrites i s t

namespace TableWrites

variable {i : Instr} {s t u : State}

theorem of_eq (h : t.tables = s.tables) : TableWrites i s t :=
  ⟨fun _ => by rw [h], fun _ => by rw [h], fun _ => by rw [h], fun _ => by rw [h], fun _ => by rw [h]⟩

theorem trans (h : TableWrites i s t) (k : TableWrites i t u) : TableWrites i s u where
  bands x := (k.bands (x.imp_right fun y => (h.frozen (.inr y)).trans y)).trans (h.bands x)
  programs x := (k.programs x).trans (h.programs x)
  ratings x := (k.ratings (x.imp_right fun y => (h.frozen (.inr y)).trans y)).trans (h.ratings x)
  budgetSet x := (k.budgetSet (x.imp_right fun y => (h.frozen (.inr y)).trans y)).trans (h.budgetSet x)
  frozen x := (k.frozen (x.imp_right fun y => (h.frozen (.inr y)).trans y)).trans (h.frozen x)

end TableWrites

namespace Writes

variable {i : Instr} {s t u : State}

theorem ofOrdinary (h : Ordinary s t) : Writes i s t := ⟨h.toUndisturbed, .of_eq h.tables⟩

theorem trans (h : Writes i s t) (k : Writes i t u) : Writes i s u :=
  ⟨h.toUndisturbed.trans k.toUndisturbed, h.toTableWrites.trans k.toTableWrites⟩

theorem carried (i : Instr) : Carried (Writes i) := ⟨ofOrdinary, trans⟩

theorem refl (s : State) : Writes i s s := ofOrdinary (.refl s)

/-- WRITE BAND writes the bands, and none under a freeze (R45). -/
theorem writeBand (p : List Byte) (f : Fields) (s : State) : Writes (.writeBand p) s (writeBandAnswer f s).1 := by
  have hs : ∀ (w : BandWrite), s.tables.frozen = false → Writes (.writeBand p) s (s.storeBand w) :=
    fun w h => ⟨.setTables .., fun x => x.elim (fun y => absurd rfl (y p)) (by simp [h]), fun _ => rfl,
      fun _ => rfl, fun _ => rfl, fun _ => rfl⟩
  have hk : ∀ c (s : State), Ordinary s (bandKnown c s) := fun c s => .ofQuiet (.bandKnown ..) (.bandKnown ..)
  have ht : ∀ c i (s : State), Ordinary s (takeBand c i s) := fun c i s => .ofQuiet (.takeBand ..) (.takeBand ..)
  have hw : ∀ w, Ordinary (s.storeBand w) (s.writeBand w) := by
    intro w
    unfold State.writeBand
    dsimp only
    repeat' split
    all_goals first | exact .refl _ | exact hk .. | exact ht ..
  unfold writeBandAnswer
  repeat' split
  all_goals first
    | exact refl s
    | exact (hs _ (by simpa using ‹¬ s.tables.frozen = true›)).trans (ofOrdinary (hw _))

/-- SET ELEMENT writes the ratings, and none under a freeze (R120). -/
theorem setElement (p : List Byte) (f : Fields) (s : State) : Writes (.setElement p) s (setElementAnswer f s).1 := by
  have hs : s.tables.frozen = false → ∀ x, Writes (.setElement p) s (s.setTables { s.tables with ratings := x }) :=
    fun h x => ⟨.setTables .., fun _ => rfl, fun _ => rfl, fun y => y.elim (fun z => absurd rfl (z p)) (by simp [h]),
      fun _ => rfl, fun _ => rfl⟩
  have hr : s.tables.frozen = false → ∀ e n, Writes (.setElement p) s (s.storeRating e n) := by
    intro h e n
    unfold storeRating
    dsimp only
    repeat' split
    · exact hs h _
    · exact (hs h _).trans (ofOrdinary (.ofQuiet (.restartSettle ..) (.restartSettle ..)))
    · exact (hs h _).trans (ofOrdinary (.relay ..))
  unfold setElementAnswer
  repeat' split
  all_goals first
    | exact refl s
    | exact hr (by simpa using ‹¬ s.tables.frozen = true›) _ _

/-- SET BUDGET writes the budget set, and not under a freeze (R119). -/
theorem setBudget (p : List Byte) (f : Fields) (s : State) : Writes (.setBudget p) s (setBudgetAnswer f s).1 := by
  have hs : s.tables.frozen = false → ∀ x, Writes (.setBudget p) s (s.setTables { s.tables with budgetSet := x }) :=
    fun h x => ⟨.setTables .., fun _ => rfl, fun _ => rfl, fun _ => rfl,
      fun y => y.elim (fun z => absurd rfl (z p)) (by simp [h]), fun _ => rfl⟩
  unfold setBudgetAnswer
  repeat' split
  all_goals first
    | exact refl s
    | exact hs (by simpa using ‹¬ s.tables.frozen = true›) _

/-- FREEZE writes the freeze, which stays once it is there (R50). -/
theorem freeze (p : List Byte) (s : State) : Writes (.freeze p) s (freezeAnswer s).1 := by
  unfold freezeAnswer
  split
  · exact ⟨.setTables .., fun _ => rfl, fun _ => rfl, fun _ => rfl, fun _ => rfl,
      fun y => y.elim (fun z => absurd rfl (z p)) Eq.symm⟩
  · exact refl s

/-- A program that is stored by a request that edits programs (R79 to R81). -/
theorem setProgram (hi : ¬ ∀ p, i ≠ .appendSegment p ∧ i ≠ .replaceSegment p ∧ i ≠ .clearProgram p) (c : Cavity)
    (x : List SegmentRecord) (s : State) : Writes i s (s.setProgram c x) :=
  ⟨.setTables .., fun _ => rfl, fun h => absurd h hi, fun _ => rfl, fun _ => rfl, fun _ => rfl⟩

theorem append (p : List Byte) (f : Fields) (s : State) : Writes (.appendSegment p) s (appendAnswer f s).1 := by
  unfold appendAnswer
  repeat' split
  all_goals first | exact refl s | exact setProgram (fun h => (h p).1 rfl) ..

theorem replace (p : List Byte) (f : Fields) (s : State) : Writes (.replaceSegment p) s (replaceAnswer f s).1 := by
  unfold replaceAnswer
  repeat' split
  all_goals first | exact refl s | exact setProgram (fun h => (h p).2.1 rfl) ..

theorem clearProgram (p : List Byte) (c : Cavity) (s : State) :
    Writes (.clearProgram p) s (clearProgramAnswer c s).1 := by
  unfold clearProgramAnswer
  split
  · exact setProgram (fun h => (h p).2.2 rfl) ..
  · exact refl s

end Writes

end Sys2Proof.Machine
end

section
/-!
PROOFS. Obligation O56, assembled: the ordinary commands one by one, then the exceptions.
-/

namespace Sys2Proof.Machine

open Sys2Proof State

/-- The commands whose effect reaches what O56 keeps: the resets, CLEAR, the end of a test step, and the requests that
write the tables. -/
def reaches : Instr → Bool
  | .powerOnReset => true
  | .externalReset => true
  | .clear _ => true
  | .testStepEnd => true
  | .writeBand _ => true
  | .setElement _ => true
  | .setBudget _ => true
  | .freeze _ => true
  | .appendSegment _ => true
  | .replaceSegment _ => true
  | .clearProgram _ => true
  | _ => false

namespace Ordinary

variable {s t : State}

/-- A request that may change the part, whose owner is ordinary. -/
theorem request {widths : List Nat} {p : List Byte} {owner : Fields → State → State × Answer}
    (h : ∀ f s, Ordinary s (owner f s).1) (s : State) : Ordinary s (s.takeRequest widths p owner) :=
  Carried.ordinary_self.takeRequest h s

theorem cavityRequest {p : List Byte} {op : Cavity → State → State × Answer}
    (h : ∀ c s, Ordinary s (op c s).1) (s : State) : Ordinary s (s.takeRequest oneByteField p (forCavity op)) :=
  request (Carried.ordinary_self.forCavity h) s

/-- An event that acts under a condition, and changes nothing otherwise. -/
theorem ite {P : Prop} [Decidable P] (h : Ordinary s t) : Ordinary s (if P then t else s) := by
  split
  · exact h
  · exact refl s

theorem toReceiver (r : Receiver) (s : State) : Ordinary s (s.toReceiver r) := link s _ rfl

theorem closed (h : Ordinary s t) : Ordinary s t.close := h.trans (close t)

theorem takeSample (f : Fields) (s : State) : Ordinary s (s.takeSample f) := by
  unfold State.takeSample
  split
  · exact sendReply ..
  · split
    · exact sendReply ..
    · exact (converter ..).trans (link _ _ rfl)

theorem releaseSample (ch : Channel) (codes : BitVec 16 × BitVec 16) (s : State) :
    Ordinary s (releaseSample ch codes s) := by
  unfold State.releaseSample
  exact ite (sendReply ..)

theorem edgeOnLine (s : State) : Ordinary s s.edgeOnLine := by
  unfold State.edgeOnLine
  exact ite (link _ _ rfl)

theorem replyOver (s : State) : Ordinary s s.replyOver := by
  unfold State.replyOver
  split
  · exact link _ _ rfl
  · exact refl s

theorem visit (s : State) : Ordinary s s.visit := by
  refine ((of_eq rfl rfl rfl rfl rfl rfl rfl : Ordinary s (s.setClock { s.clock with sinceVisit := 0 })).trans
    (onlyIf _ _ (fun u => relay ..) _)).trans (drive _ _ (fun _ => id) id id)

theorem graceExpiry (x : Fan) : x.graceExpiry.stall = x.stall := by unfold Fan.graceExpiry; split <;> rfl

theorem tachoPulse (x : Fan) : x.tachoPulse.stall = x.stall := by unfold Fan.tachoPulse; split <;> rfl

theorem fanStalls (s : State) : Ordinary s s.fanStalls :=
  ((fan s s.fan.stallNow fun _ => rfl).trans (post ..)).trans (ofQuiet (.systemFault _) (.systemFault _))

theorem overheatRunsOut (c : Cavity) (s : State) : Ordinary s (State.overheatRunsOut c s) :=
  (ofQuiet (.setOverheat ..) (.setOverheat _ _ _ _ id)).trans (ofQuiet (.assertTrip _) (.assertTrip _))

theorem takeReading (t : TestStep) (s : State) : Ordinary s (State.takeReading t s) :=
  (ofQuiet (.setTest ..) (.setTest ..)).trans (relay ..)

end Ordinary

/-- Every command but the named ones is ordinary. -/
theorem exec_ordinary (i : Instr) (s t : State) (h : exec i s = .next t) (hi : reaches i = false) : Ordinary s t := by
  cases i with
  | powerOnReset => cases hi
  | externalReset => cases hi
  | clear => cases hi
  | testStepEnd => cases hi
  | writeBand => cases hi
  | setElement => cases hi
  | setBudget => cases hi
  | freeze => cases hi
  | appendSegment => cases hi
  | replaceSegment => cases hi
  | clearProgram => cases hi
  | identify => cases h; exact .readRequest s
  | cavityStatus => cases h; exact .readRequest s
  | plantStatus => cases h; exact .readRequest s
  | readOutcome => cases h; exact .readRequest s
  | readBand => cases h; exact .readRequest s
  | readSegment => cases h; exact .readRequest s
  | readEvents => cases h; exact .request (fun _ s => .of_eq rfl rfl rfl rfl rfl rfl rfl) s
  | start => cases h; exact .request .startAnswer s
  | pause => cases h; exact .cavityRequest .pauseAnswer s
  | resume => cases h; exact .cavityRequest .resumeAnswer s
  | step => cases h; exact .cavityRequest .stepAnswer s
  | abort => cases h; exact .cavityRequest (fun c s => .abortCycle c .hostAbort s) s
  | allStop broadcast =>
    cases h
    cases broadcast
    · exact .request (fun _ s => .allStop s) s
    · exact .broadcastStop ..
  | lock => cases h; exact .cavityRequest (fun c s => .hostLock c .engage false s) s
  | unlock => cases h; exact .request .unlockAnswer s
  | relayTest =>
    cases h
    refine .request (fun _ s => ?_) s
    unfold relayTestAnswer
    repeat' split
    all_goals first | exact .refl s | exact .beginTest .request s
  | sample =>
    cases h
    split
    · exact .refl s
    · split
      · exact (Ordinary.endOfFrame s).trans (.sendReply ..)
      · exact (Ordinary.endOfFrame s).trans (.takeSample ..)
  | unknownRequest =>
    cases h
    split
    · exact .refl s
    · exact (Ordinary.endOfFrame s).trans (.sendReply ..)
  | frameDiscarded =>
    cases h
    split
    · exact .refl s
    · exact .ite (.endOfFrame s)
  | lineBreak =>
    cases h
    split
    · exact .refl s
    · exact ((Ordinary.edgeOnLine s).trans (.replyOver _)).trans (.toReceiver ..)
  | lineFault => cases h; exact .ite (.toReceiver ..)
  | collision =>
    cases h
    split
    · exact .refl s
    · exact .link _ _ rfl
  | scanConversionComplete => cases h; exact .ite (.closed (.completeScan ..))
  | onDemandConversionComplete => cases h; exact .ite ((Ordinary.nextStarted ..).trans (.releaseSample ..))
  | stalenessTimerExpiry ch =>
    cases h
    split
    · rename_i hv
      refine .closed (.takeEntry _ _ _ _ fun hf => ?_)
      simp_all [isFailed, isValid]
    · exact .refl s
  | rateTimerExpiry c =>
    cases h
    split
    · exact .closed ((Ordinary.of_eq rfl rfl rfl rfl rfl rfl rfl : Ordinary s (s.setRate c _)).trans
        (.judgeRunawayOn ..))
    · exact .refl s
  | switchLevelChange c sw level =>
    cases h
    split
    · exact .refl s
    · exact .closed ((Ordinary.pins ..).trans (.lockEvent _ _ _ (LockCtl.switchChange_keeps _ sw level _)))
  | motionTimerExpiry c => cases h; exact .ite (.closed (.lockEvent _ _ _ (LockCtl.motionExpiry_keeps _)))
  | tick c => cases h; exact .ite (.closed (.tickEngine ..))
  | expired c => cases h; exact .ite (.closed (.tickEngine ..))
  | undershoot c => cases h; exact .ite (.closed (.tickEngine ..))
  | stalled c => cases h; exact .ite (.closed (.tickEngine ..))
  | soakRemainingZero c => cases h; exact .ite (.closed (.tickEngine ..))
  | windowStart => cases h; exact .ite (.closed (.startWindow s))
  | slotStart =>
    cases h
    split
    · exact .closed (.startSlot ..)
    · exact .refl s
  | refreshVisit => cases h; exact .ite (.visit s)
  | senseLevelChange r closed =>
    cases h
    split
    · exact .refl s
    · exact .closed (.senseMoves ..)
  | settleTimerExpiry r => cases h; exact .ite ((Ordinary.relay ..).trans (.followMismatch ..))
  | mismatchTimerExpiry r => cases h; exact .ite (.closed (.mismatchExpires ..))
  | testStepReading =>
    cases h
    split
    · exact .ite (.takeReading ..)
    · exact .refl s
  | tachoPulse => cases h; exact .fan _ _ (by rw [Ordinary.tachoPulse]; exact id)
  | graceTimerExpiry => cases h; exact .ite (.fan _ _ (by rw [Ordinary.graceExpiry]; exact id))
  | pulseTimerExpiry => cases h; exact .ite (.closed (.fanStalls s))
  | overheatTimerExpiry c => cases h; exact .ite (.closed (.overheatRunsOut ..))
  | breakEnd => cases h; exact .ite (.toReceiver ..)
  | lineFaultEnd => cases h; exact .ite (.toReceiver ..)
  | pacingCharacter =>
    cases h
    split
    · split <;> exact .toReceiver ..
    · exact .refl s
  | pacingTimeout => cases h; exact .ite (.toReceiver ..)
  | byteGapTimeout => cases h; exact .ite (.toReceiver ..)
  | framingError => cases h; exact .ite (.toReceiver ..)

/-! ## The exceptions -/

theorem exec_testStepEnd (s t : State) (h : exec .testStepEnd s = .next t) : TestEndKept s t := by
  cases h
  split
  · split
    · split
      · exact (TestEndKept.endStep ..).trans (.ofOrdinary (.close _))
      · exact .refl s
    · exact .refl s
  · exact .refl s

theorem exec_clear (p : List Byte) (s t : State) (h : exec (.clear p) s = .next t) : ClearKept s t := by
  cases h
  exact Carried.clearKept.takeRequest (fun _ s => ClearKept.clearAnswer s) s

theorem keepHolds_sup (b : State) (l : List Relay) (s : State) : (forEach l (keepHold b) s).sup = s.sup := by
  induction l generalizing s with
  | nil => rfl
  | cons r rs ih => exact (ih _).trans rfl

/-- An external reset keeps TRIP (R166). -/
theorem exec_externalReset_trip (s t : State) (h : exec .externalReset s = .next t) : t.sup.trip = s.sup.trip := by
  cases h
  have e : (forEach allRelays (keepHold s) (afterReset s.sup.trip s)).sup.trip = s.sup.trip := by
    rw [keepHolds_sup]; rfl
  unfold externallyReset
  dsimp only
  split
  · rw [close_sup]; exact e
  · exact e

/-- Every command but the resets, CLEAR and the end of a test step leaves all of it undisturbed, and writes its own part
of the tables alone. -/
theorem exec_writes (i : Instr) (s t : State) (h : exec i s = .next t) (hp : i ≠ .powerOnReset)
    (he : i ≠ .externalReset) (hc : ∀ p, i ≠ .clear p) (ht : i ≠ .testStepEnd) : Writes i s t := by
  cases hi : reaches i with
  | false => exact .ofOrdinary (exec_ordinary i s t h hi)
  | true =>
    have C := Writes.carried i
    cases i with
    | writeBand p => cases h; exact C.takeRequest (.writeBand p) s
    | setElement p => cases h; exact C.takeRequest (.setElement p) s
    | setBudget p => cases h; exact C.takeRequest (.setBudget p) s
    | freeze p => cases h; exact C.takeRequest (fun _ s => .freeze p s) s
    | appendSegment p => cases h; exact C.takeRequest (.append p) s
    | replaceSegment p => cases h; exact C.takeRequest (.replace p) s
    | clearProgram p => cases h; exact C.takeRequest (C.forCavity (.clearProgram p)) s
    | clear p => exact absurd rfl (hc p)
    | testStepEnd => exact absurd rfl ht
    | powerOnReset => exact absurd rfl hp
    | externalReset => exact absurd rfl he
    | _ => cases hi

/-- What every command but the resets leaves of the status and the tables (R50, R161, R166, R175). -/
theorem exec_status (i : Instr) (s t : State) (h : exec i s = .next t) (hp : i ≠ .powerOnReset)
    (he : i ≠ .externalReset) : StatusKept s t ∧ TableWrites i s t := by
  by_cases ht : i = .testStepEnd
  · subst ht
    have k := exec_testStepEnd s t h
    exact ⟨k.toStatusKept, .of_eq k.tables⟩
  · by_cases hc : ∃ p, i = .clear p
    · obtain ⟨p, rfl⟩ := hc
      have k := exec_clear p s t h
      exact ⟨k.toStatusKept, .of_eq k.tables⟩
    · have k := exec_writes i s t h hp he (fun p e => hc ⟨p, e⟩) ht
      exact ⟨k.toStatusKept, k.toTableWrites⟩

/-- The welded faults end at a reset or at the end of a relay test alone (R148). -/
theorem exec_welds (i : Instr) (s t : State) (h : exec i s = .next t) (hp : i ≠ .powerOnReset)
    (he : i ≠ .externalReset) (ht : i ≠ .testStepEnd) : WeldsKept s t := by
  by_cases hc : ∃ p, i = .clear p
  · obtain ⟨p, rfl⟩ := hc
    exact (exec_clear p s t h).toWeldsKept
  · exact (exec_writes i s t h hp he (fun p e => hc ⟨p, e⟩) ht).toWeldsKept

/-- FAILED channels and the latched faults of the locks, the fan and the Supervisor end at a reset or a CLEAR alone
(R10, R66, R157, R164, R165). -/
theorem exec_faults (i : Instr) (s t : State) (h : exec i s = .next t) (hp : i ≠ .powerOnReset)
    (he : i ≠ .externalReset) (hc : ∀ p, i ≠ .clear p) :
    (∀ ch, s.isFailed ch = true → t.channel ch = s.channel ch) ∧ FaultsKept s t := by
  by_cases ht : i = .testStepEnd
  · subst ht
    have k := exec_testStepEnd s t h
    exact ⟨k.failed, k.toFaultsKept⟩
  · have k := exec_writes i s t h hp he hc ht
    exact ⟨k.failed, k.toFaultsKept⟩

/-- TRIP ends at a power-on reset alone (R166). -/
theorem exec_trip (i : Instr) (s t : State) (h : exec i s = .next t) (hp : i ≠ .powerOnReset)
    (ht : s.sup.trip = true) : t.sup.trip = true := by
  by_cases he : i = .externalReset
  · subst he
    exact (exec_externalReset_trip s t h).trans ht
  · exact (exec_status i s t h hp he).1.trip ht

/-- Settles O56, from what each command leaves: the status and the tables, the welded faults, and the other faults. -/
theorem latchedStateStays : Obligations.LatchedStateStays := by
  intro i s t h
  refine ⟨exec_trip i s t h, fun hp he => ?_⟩
  obtain ⟨status, tables⟩ := exec_status i s t h hp he
  refine ⟨status.ready, fun hf => ⟨(tables.frozen (.inr hf)).trans hf, tables.bands (.inr hf), tables.ratings (.inr hf),
      tables.budgetSet (.inr hf)⟩, status.node, fun ht => ?_, fun hc => ?_, fun x => tables.bands (.inl x),
    tables.programs, fun x => tables.ratings (.inl x), fun x => tables.budgetSet (.inl x),
    fun x => tables.frozen (.inl x)⟩
  · have welds := exec_welds i s t h hp he ht
    exact ⟨welds.element, welds.master⟩
  · obtain ⟨failed, faults⟩ := exec_faults i s t h hp he hc
    exact ⟨failed, faults.locks, faults.stall, faults.overheat, faults.runaway,
      fun ht => (exec_writes i s t h hp he hc ht).isOpen⟩

end Sys2Proof.Machine
end

section
/-!
PROOFS. The conversions that complete: the converter goes on (O26), and a scan result that is not accepted and fails no
channel only counts (O28).
-/

namespace Sys2Proof.Machine

open Sys2Proof State

namespace State

/-- A timer's event before its limit changes nothing. -/
theorem conversionDue_iff {s : State} : s.conversionDue = true ↔ 50 ≤ s.converter.elapsed := by simp [conversionDue]

/-- A scan conversion completes at its 50 ms (R4). -/
theorem exec_scan {s : State} (rtd ref : BitVec 16) (ho : s.converter.origin = .scan) (he : 50 ≤ s.converter.elapsed) :
    exec (.scanConversionComplete rtd ref) s = .next (s.completeScan (rtd, ref)).close :=
  congrArg Host.Outcome.next (if_pos ⟨ho, conversionDue_iff.mpr he⟩)

/-- The entry that a scan conversion of the converter's channel leaves, and whether its temperature is accepted (R7). -/
def scanJudged (s : State) (rtd ref : BitVec 16) : Judged :=
  judgeScan (agreementWindow s.converter.channel) (convert rtd ref) (s.channel s.converter.channel)

/-- A completed scan conversion takes the entry judged, with the next conversion started, the codes on the pins and the
record of a failure on its way (R4, R7, R10). -/
theorem completeScan_rest (s : State) (rtd ref : BitVec 16) : ∃ x,
    s.completeScan (rtd, ref) = takeEntry s.converter.channel (s.scanJudged rtd ref).entry
      (s.scanJudged rtd ref).accepted ((s.nextStarted (rtd, ref)).setEvents x) := by
  obtain ⟨x, hx⟩ := postFailure_rest s.converter.channel (s.channel s.converter.channel)
    (s.scanJudged rtd ref).entry (s.nextStarted (rtd, ref))
  exact ⟨x, by rw [← hx]; rfl⟩

variable (ch : Channel) (new : ChannelEntry) (u : State)

@[simp] theorem entryWritten_pins : (entryWritten ch new u).pins = u.pins := by cases ch <;> rfl
@[simp] theorem entryWritten_link : (entryWritten ch new u).link = u.link := by cases ch <;> rfl
@[simp] theorem entryWritten_clock : (entryWritten ch new u).clock = u.clock := by cases ch <;> rfl
@[simp] theorem entryWritten_sup : (entryWritten ch new u).sup = u.sup := by cases ch <;> rfl
@[simp] theorem entryWritten_fan : (entryWritten ch new u).fan = u.fan := by cases ch <;> rfl
@[simp] theorem entryWritten_tables : (entryWritten ch new u).tables = u.tables := by cases ch <;> rfl
@[simp] theorem entryWritten_tableLocks : (entryWritten ch new u).tableLocks = u.tableLocks := by cases ch <;> rfl
@[simp] theorem entryWritten_bandIndex : (entryWritten ch new u).bandIndex = u.bandIndex := by cases ch <;> rfl
@[simp] theorem entryWritten_engines : (entryWritten ch new u).engines = u.engines := by cases ch <;> rfl
@[simp] theorem entryWritten_locks : (entryWritten ch new u).locks = u.locks := by cases ch <;> rfl
@[simp] theorem entryWritten_drive : (entryWritten ch new u).drive = u.drive := by cases ch <;> rfl
@[simp] theorem entryWritten_alloc : (entryWritten ch new u).alloc = u.alloc := by cases ch <;> rfl
@[simp] theorem entryWritten_events : (entryWritten ch new u).events = u.events := by cases ch <;> rfl
@[simp] theorem entryWritten_pending : (entryWritten ch new u).pending = u.pending := by cases ch <;> rfl
@[simp] theorem entryWritten_channels : (entryWritten ch new u).channels = u.channels.set ch new := by
  cases ch <;> rfl

theorem takeEntry_written (newF : Bool) : Quiet (entryWritten ch new u) (takeEntry ch new newF u) := by
  have h := takeEntry_quiet ch new newF u
  cases ch <;> exact h

theorem completeScan_pins (s : State) (rtd ref : BitVec 16) : (s.completeScan (rtd, ref)).pins
    = { s.pins with codes := s.pins.codes.set s.converter.channel (rtd, ref) } := by
  obtain ⟨x, hx⟩ := s.completeScan_rest rtd ref
  rw [hx, (takeEntry_written ..).pins, entryWritten_pins]
  rfl

theorem completeScan_converter (s : State) (rtd ref : BitVec 16) :
    (s.completeScan (rtd, ref)).converter = nextConversion s.converter := by
  obtain ⟨x, hx⟩ := s.completeScan_rest rtd ref
  rw [hx, takeEntry_converter]
  rfl

theorem completeScan_tables (s : State) (rtd ref : BitVec 16) : (s.completeScan (rtd, ref)).tables = s.tables := by
  obtain ⟨x, hx⟩ := s.completeScan_rest rtd ref
  rw [hx, takeEntry_tables]
  rfl

theorem completeScan_link (s : State) (rtd ref : BitVec 16) : (s.completeScan (rtd, ref)).link = s.link := by
  obtain ⟨x, hx⟩ := s.completeScan_rest rtd ref
  rw [hx, (takeEntry_written ..).link, entryWritten_link]
  rfl

theorem completeScan_clock (s : State) (rtd ref : BitVec 16) : (s.completeScan (rtd, ref)).clock = s.clock := by
  obtain ⟨x, hx⟩ := s.completeScan_rest rtd ref
  rw [hx, (takeEntry_written ..).clock, entryWritten_clock]
  rfl

theorem completeScan_pending (s : State) (rtd ref : BitVec 16) : (s.completeScan (rtd, ref)).pending = s.pending := by
  obtain ⟨x, hx⟩ := s.completeScan_rest rtd ref
  rw [hx, takeEntry_pending]
  rfl

theorem completeScan_channels (s : State) (rtd ref : BitVec 16) : (s.completeScan (rtd, ref)).channels
    = s.channels.set s.converter.channel (s.scanJudged rtd ref).entry := by
  obtain ⟨x, hx⟩ := s.completeScan_rest rtd ref
  rw [hx, takeEntry_channels]
  rfl

theorem close_link_receiver (s : State) : s.close.link.receiver = s.link.receiver := by rw [close_rest]

theorem close_link_transmitter (s : State) : s.close.link.transmitter = s.link.transmitter := by rw [close_rest]

end State

/-- The conversion after a scan (R4, R5). -/
theorem nextConversion_scan {v : Converter} (h : v.origin = .scan) : nextConversion v =
    match v.onDemand with
    | some ch => ⟨ch, .sample, 0, v.scanPos, some ch⟩
    | none => ⟨scanList[v.scanPos], .scan, 0, v.scanPos + 1, none⟩ := by
  unfold nextConversion
  cases hd : v.onDemand <;> simp [h]

/-- The conversion after a sample, which is no longer held (R18). -/
theorem nextConversion_sample {v : Converter} (h : v.origin = .sample) : nextConversion v =
    ⟨scanList[v.scanPos], .scan, 0, v.scanPos + 1, none⟩ := by
  simp [nextConversion, h]

/-- The completion of an on-demand conversion touches the pins, the converter and the link alone (R4, R18). -/
theorem exec_onDemand {s : State} (rtd ref : BitVec 16) (ho : s.converter.origin = .sample)
    (he : 50 ≤ s.converter.elapsed) : exec (.onDemandConversionComplete rtd ref) s = .next { s with
      pins := { s.pins with codes := s.pins.codes.set s.converter.channel (rtd, ref) }
      converter := nextConversion s.converter
      link := if s.link.transmitter = .waitingSample then
          { s.link with
            transmitter := .sending ⟨none, false, s.attentionFlags,
              encodeItems (sampleItems s.converter.channel rtd ref (convert rtd ref))⟩
            collisionSeen := false }
        else s.link } := by
  refine congrArg Host.Outcome.next ((if_pos ⟨ho, conversionDue_iff.mpr he⟩).trans ?_)
  unfold releaseSample
  by_cases h : s.link.transmitter = .waitingSample
  · rw [if_pos h, if_pos (show (s.nextStarted (rtd, ref)).link.transmitter = _ from h)]
    simp [sendReply, nextStarted, setCodes, setConverter, setPins, setLink, doneWith]
    rfl
  · rw [if_neg h, if_neg (show ¬ (s.nextStarted (rtd, ref)).link.transmitter = _ from h)]
    rfl

/-- Settles O26: an event of the other origin or before the 50 ms changes nothing, and one that is due starts the next
conversion. -/
theorem nextConversionIsChosen : Obligations.NextConversionIsChosen := by
  intro s rtd ref _
  refine ⟨fun h => congrArg Host.Outcome.next (if_neg ?_), fun h => congrArg Host.Outcome.next (if_neg ?_),
    fun he ho => ?_, fun he ho => ?_⟩
  · rw [conversionDue_iff]
    rintro ⟨ho, hd⟩
    rcases h with h | h
    · omega
    · rw [h] at ho; cases ho
  · rw [conversionDue_iff]
    rintro ⟨ho, hd⟩
    rcases h with h | h
    · omega
    · rw [h] at ho; cases ho
  · refine ⟨_, exec_scan rtd ref ho he, ?_⟩
    rw [close_pins, close_converter, close_tables, close_clock, close_pending, close_link_receiver,
      close_link_transmitter, completeScan_pins, completeScan_converter, completeScan_tables, completeScan_clock,
      completeScan_pending, completeScan_link]
    refine ⟨rfl, nextConversion_scan ho, rfl, rfl, rfl, rfl, rfl, fun ch hc => ?_⟩
    simp [channel, completeScan_channels, hc]
  · refine ⟨_, exec_onDemand rtd ref ho he, rfl, rfl, nextConversion_sample ho, ?_⟩
    split <;> rfl

/-! ## Results that only count -/

namespace State

/-- A scan conversion whose entry keeps its state and is not accepted is made known to nobody (R13). -/
theorem exec_scan_counts {s : State} {rtd ref : BitVec 16} {e : ChannelEntry} (hb : s.events.outbox = [])
    (ho : s.converter.origin = .scan) (he : 50 ≤ s.converter.elapsed) (hj : s.scanJudged rtd ref = ⟨e, false⟩)
    (hs : e.state = (s.channel s.converter.channel).state) :
    exec (.scanConversionComplete rtd ref) s = .next (drawOrder
      { s with
        channels := s.channels.set s.converter.channel e
        converter := nextConversion s.converter
        pins := { s.pins with codes := s.pins.codes.set s.converter.channel (rtd, ref) } }) := by
  have hp : postFailure s.converter.channel (s.channel s.converter.channel) e (s.nextStarted (rtd, ref))
      = s.nextStarted (rtd, ref) := by
    unfold postFailure
    split
    · rename_i hf _
      rw [if_pos (hs.symm.trans hf)]
    · rfl
  have hc : s.completeScan (rtd, ref) = entryWritten s.converter.channel e (s.nextStarted (rtd, ref)) := by
    show takeEntry s.converter.channel (s.scanJudged rtd ref).entry (s.scanJudged rtd ref).accepted
      (postFailure s.converter.channel (s.channel s.converter.channel) (s.scanJudged rtd ref).entry
        (s.nextStarted (rtd, ref))) = _
    rw [hj, hp, takeEntry_eq, if_neg]
    rintro (h | h)
    · cases h
    · exact h hs.symm
  have hw : entryWritten s.converter.channel e (s.nextStarted (rtd, ref))
      = { s with
          channels := s.channels.set s.converter.channel e
          converter := nextConversion s.converter
          pins := { s.pins with codes := s.pins.codes.set s.converter.channel (rtd, ref) } } := by
    generalize hch : s.converter.channel = ch at *
    cases ch with
    | cav c =>
      have hr : rateAfter (s.channel (.cav c)) e (s.rateOf c) = s.rates.get c := by
        by_cases hv : e.state = .valid <;> simp [rateAfter, ← hs, hv, rateOf]
      show (((s.nextStarted (rtd, ref)).setChannel (.cav c) e).setRate c
        (rateAfter (s.channel (.cav c)) e (s.rateOf c))) = _
      rw [hr]
      cases c <;> simp [nextStarted, setCodes, setPins, setConverter, setChannel, setRate, hch] <;> rfl
    | cat c => simp [entryWritten, nextStarted, setCodes, setPins, setConverter, setChannel, hch]
    | front => simp [entryWritten, nextStarted, setCodes, setPins, setConverter, setChannel, hch]
  rw [exec_scan rtd ref ho he, hc, hw]
  exact congrArg Host.Outcome.next (close_empty _ hb)

end State

/-- A result with a temperature is of the class TEMPERATURE (R25). -/
theorem convert_cls_of_temperature {rtd ref : BitVec 16} {x : Int} (h : (convert rtd ref).temperature = some x) :
    (convert rtd ref).cls = .temperature := by
  unfold convert at h ⊢
  dsimp only at h ⊢
  repeat' split
  all_goals simp_all

/-- A channel that has not come to eight disagreements or to the end of a run does not fail (R10). -/
theorem failChannel_none {e : ChannelEntry} (h : failureOf e = none) : failChannel e = e := by simp [failChannel, h]

/-- The first temperature, or one outside the window (R8). -/
theorem judgeScan_temperature {w : Int} {r : ConvResult} {e : ChannelEntry} {x : Int} (hs : e.state ≠ .failed)
    (hc : r.cls = .temperature) (ht : r.temperature = some x) :
    judgeScan w r e = ⟨failChannel (judgeTemperature w x e).entry, (judgeTemperature w x e).accepted⟩ := by
  simp [judgeScan, hs, judgeResult, hc, ht]

/-- A class without a temperature as the entry counts it (R9). -/
def NoTempClass.conv : NoTempClass → ConvClass
  | .reference => .reference
  | .shortCircuit => .shortCircuit
  | .openCircuit => .openCircuit

/-- The length at which a run of a class fails the channel (R10). -/
def NoTempClass.limit : NoTempClass → Nat
  | .reference => 8
  | .shortCircuit => 2
  | .openCircuit => 2

theorem judgeScan_noTemperature {w : Int} {r : ConvResult} {e : ChannelEntry} (k : NoTempClass)
    (hs : e.state ≠ .failed) (hc : r.cls = k.conv) :
    judgeScan w r e = ⟨failChannel (judgeNoTemperature k e), false⟩ := by
  cases k <;> simp [judgeScan, hs, judgeResult, hc, NoTempClass.conv]

/-- The failure check after a result without a temperature: the end of the run, or else the eighth disagreement (R10).
-/
theorem failureOf_noTemperature (k : NoTempClass) (e : ChannelEntry) (n : Nat)
    (hn : (judgeNoTemperature k e).runCount = n) (hl : n < k.limit) :
    failureOf (judgeNoTemperature k e) = if e.disagreements + 1 = 8 then some .erratic else none := by
  have hk : (judgeNoTemperature k e).runClass = some k := rfl
  unfold failureOf
  rw [hn, hk]
  cases k <;> simp only [NoTempClass.limit] at hl
  · simp [show n ≠ 8 by omega, judgeNoTemperature]
  · simp [show n ≠ 2 by omega, judgeNoTemperature]
  · simp [show n ≠ 2 by omega, judgeNoTemperature]

/-- The disjunction in which the statements name a class, its run and its limit. -/
theorem noTempClass_cases {c : ConvClass} {k : NoTempClass} {limit : Nat}
    (h : (c = .openCircuit ∧ k = .openCircuit ∧ limit = 2) ∨ (c = .shortCircuit ∧ k = .shortCircuit ∧ limit = 2)
      ∨ (c = .reference ∧ k = .reference ∧ limit = 8)) : c = k.conv ∧ limit = k.limit := by
  rcases h with ⟨rfl, rfl, rfl⟩ | ⟨rfl, rfl, rfl⟩ | ⟨rfl, rfl, rfl⟩ <;> exact ⟨rfl, rfl⟩

/-- Settles O28: each of these entries keeps the state of its channel, so that nobody hears of it. -/
theorem otherScanResultsOnlyCount : Obligations.OtherScanResultsOnlyCount := by
  intro s rtd ref ch e counts hb ho he
  have scan : ∀ e', s.scanJudged rtd ref = ⟨e', false⟩ → e'.state = e.state → counts e' :=
    fun e' hj hs => exec_scan_counts hb ho he hj hs
  have temp : ∀ x e', e.state ≠ .failed → (convert rtd ref).temperature = some x →
      judgeTemperature (agreementWindow ch) x e = ⟨e', false⟩ → failureOf e' = none → e'.state = e.state →
        counts e' := by
    intro x e' hf hx hj hn hs
    refine scan e' ((judgeScan_temperature hf (convert_cls_of_temperature hx) hx).trans ?_) hs
    show (⟨failChannel (judgeTemperature (agreementWindow ch) x e).entry, _⟩ : Judged) = _
    rw [hj, failChannel_none hn]
  refine ⟨fun hf => scan e (if_pos hf) rfl, fun hf hd => ⟨fun x hx hp => ?_, fun x p hx hp ha => ?_,
    fun k limit hk => ?_⟩⟩
  · refine temp x _ hf hx ?_ ?_ rfl
    · simp [judgeTemperature, hp]
    · simp [failureOf, show e.disagreements ≠ 8 by omega]
  · refine temp x _ hf hx ?_ ?_ rfl
    · simp [judgeTemperature, hp, agrees, Nat.not_le.mpr ha]
    · simp [failureOf, show e.disagreements + 1 ≠ 8 by omega]
  · intro n hn
    obtain ⟨hc, rfl⟩ := noTempClass_cases hk
    refine scan _ ((judgeScan_noTemperature k hf hc).trans ?_) rfl
    show (⟨failChannel (judgeNoTemperature k e), false⟩ : Judged) = _
    rw [failChannel_none]
    · rfl
    · rw [failureOf_noTemperature k e n rfl hn, if_neg (by omega)]

end Sys2Proof.Machine
end

section
/-!
PROOFS. Requests refused for their payload alone (O8), and SAMPLE (O47).
-/

namespace Sys2Proof.Machine

open Sys2Proof State

namespace State

/-- A part that takes the line is not dead on it (R171). -/
theorem lineDead_of_takes {s : State} (h : s.takesLine) : s.lineDead = false := decide_eq_false h

/-- A request that is refused at once leaves its reply alone (R175, R176, R179). -/
theorem endOfFrame_refuse (s : State) (k : Reason) : s.endOfFrame.sendReply (refuse k) = s.refusedWith k := by
  rw [endOfFrame_rest]
  simp only [sendReply, setLink, refusedWith, withReply, flagsOf, endOfFrame_link, refuse, collided]
  simp only [Bool.not_false, Bool.and_true]
  rfl

/-- A request that its owner refuses with nothing on its way: the reply, and the next draw (R179; log entry 3). -/
theorem endOfFrame_close_refuse (s : State) (k : Reason) (hb : s.events.outbox = []) :
    s.endOfFrame.close.sendReply (refuse k) = (s.refusedWith k).drawOrder := by
  have h : s.endOfFrame.close = s.endOfFrame.drawOrder :=
    close_empty _ (by rw [endOfFrame_rest]; exact hb)
  rw [h, ← endOfFrame_refuse]
  rfl

end State

/-! ## Payloads -/

/-- The number of payload bytes that a mask marks given, for fields of these widths (R183). -/
def markedBytes : List Nat → Nat → Nat
  | [], _ => 0
  | w :: ws, mask => (if mask % 2 = 1 then w else 0) + markedBytes ws (mask / 2)

/-- The marked fields can be read exactly where the bytes are as many as they take (R183). -/
theorem takeFields_isSome (ws : List Nat) (mask : Nat) (bytes : List Byte) :
    (takeFields ws mask bytes).isSome = true ↔ bytes.length = markedBytes ws mask := by
  induction ws generalizing mask bytes with
  | nil => cases bytes <;> simp [takeFields, markedBytes]
  | cons w ws ih =>
    unfold takeFields markedBytes
    split
    · split
      · rw [Option.isSome_map, ih, List.length_drop]; omega
      · simp; omega
    · rw [Option.isSome_map, ih, Nat.zero_add]

theorem markedBytes_eq_sum (ws : List Nat) (mask : Nat) : markedBytes ws mask
    = ((List.range ws.length).map fun i => if mask.testBit i then ws.getD i 0 else 0).sum := by
  induction ws generalizing mask with
  | nil => rfl
  | cons w ws ih =>
    rw [markedBytes, ih, List.length_cons, List.range_succ_eq_map, List.map_cons, List.sum_cons, List.map_map]
    congr 1
    · simp [Nat.testBit_zero]
    · congr 2
      funext i
      simp [Nat.testBit_succ]

/-- A payload can be read where it is a mask of two bytes and exactly the bytes that the mask marks given (R183). -/
theorem readFields_isSome (ws : List Nat) (p : List Byte) (hw : ws ≠ []) :
    (readFields ws p).isSome = true ↔ ∃ b0 b1 rest, p = b0 :: b1 :: rest
      ∧ rest.length = ((List.range ws.length).map fun i =>
          if (b0.toNat + 256 * b1.toNat).testBit i then ws.getD i 0 else 0).sum := by
  obtain ⟨w, ws, rfl⟩ := List.exists_cons_of_ne_nil hw
  match p with
  | [] => simp [readFields]
  | [_] => simp [readFields]
  | b0 :: b1 :: rest => simp [readFields, takeFields_isSome, markedBytes_eq_sum]

/-- A request without fields takes the empty payload alone (R183). -/
theorem readFields_noFields {p : List Byte} (h : p ≠ []) : readFields noFields p = none := by
  obtain ⟨b, bs, rfl⟩ := List.exists_cons_of_ne_nil h
  rfl

/-! ## Undefined values -/

/-- A code beyond the last names no value (R185). -/
theorem enum_none_of_namesNone {α : Type} {f : Fields} {i n : Nat} {of : Nat → Option α} (h : f.NamesNone i n)
    (hof : ∀ x, n ≤ x → of x = none) : f.enum i of = none := by
  unfold Fields.enum
  cases hx : f.nat i with
  | none => rfl
  | some x => exact hof x (h x hx)

theorem ofCode_none {α : Type} {values : List α} {x : Nat} (h : values.length ≤ x) : ofCode values x = none :=
  List.getElem?_eq_none h

theorem enum_ofCode_none {α : Type} {values : List α} {f : Fields} {i : Nat} (h : f.NamesNone i values.length) :
    f.enum i (ofCode values) = none := enum_none_of_namesNone h fun _ => ofCode_none

theorem cavity_none {f : Fields} {i : Nat} (h : f.NamesNone i 2) : f.enum i cavityOf = none :=
  enum_ofCode_none (values := cavities) h

theorem boolOf_none {n : Nat} (h : 2 ≤ n) : boolOf n = none := by
  match n, h with
  | n + 2, _ => rfl

theorem elementSetOf_none {n : Nat} (h : 8 ≤ n) : elementSetOf n = none := if_neg (by omega)

/-- A band number is from 1 to 8 (R45). -/
theorem bandNumber_none {f : Fields} {i : Nat} (h : ∀ n, f.nat i = some n → n = 0 ∨ 8 < n) :
    f.enum i bandNumberOf = none := by
  unfold Fields.enum
  cases hx : f.nat i with
  | none => rfl
  | some x => exact dif_neg (by have := h x hx; omega)

theorem onlyEnum_none {α : Type} {of : Nat → Option α} {f : Fields} (h : f.extra = true ∨ f.enum 0 of = none) :
    onlyEnum of f = none := by
  unfold onlyEnum
  rcases h with h | h <;> simp [h]

theorem onlyCavity_none {f : Fields} (h : f.extra = true ∨ f.NamesNone 0 2) : onlyCavity f = none :=
  onlyEnum_none (h.imp_right cavity_none)

/-! ## Owners that refuse with BAD_FIELD -/

theorem forCavity_badField {op : Cavity → State → State × Answer} {f : Fields}
    (h : f.extra = true ∨ f.NamesNone 0 2) (s : State) : forCavity op f s = (s, refuse .badField) := by
  simp [forCavity, onlyCavity_none h]

theorem cavityAnswer_badField {items : State → Cavity → List Item} {f : Fields}
    (h : f.extra = true ∨ f.NamesNone 0 2) (s : State) : cavityAnswer items f s = refuse .badField := by
  simp [cavityAnswer, onlyCavity_none h]

theorem plantAnswer_badField {f : Fields} (h : f.extra = true ∨ f.NamesNone 0 5) (s : State) :
    plantAnswer f s = refuse .badField := by
  have e : onlyEnum sectionOf f = none :=
    onlyEnum_none (h.imp_right fun h => enum_ofCode_none (values := sections) h)
  simp [plantAnswer, e]

theorem readBandAnswer_badField {f : Fields}
    (h : f.extra = true ∨ f.NamesNone 0 2 ∨ ∀ n, f.nat 1 = some n → n = 0 ∨ 8 < n) (s : State) :
    readBandAnswer f s = refuse .badField := by
  unfold readBandAnswer
  rcases h with h | h | h
  · rw [if_pos h]
  · simp [cavity_none h]
  · simp [bandNumber_none h]

theorem readSegmentAnswer_badField {f : Fields} (h : f.extra = true ∨ f.NamesNone 0 2 ∨ f.nat 1 = none) (s : State) :
    readSegmentAnswer f s = refuse .badField := by
  unfold readSegmentAnswer
  rcases h with h | h | h
  · split
    · rw [if_pos h]
    · rfl
  · simp [cavity_none h]
  · simp [h]

/-- The option of START and UNLOCK, yes or no (R67, R88). -/
theorem optionalBool_none {f : Fields} (h : ∃ n, f.nat 1 = some n ∧ 2 ≤ n) : optionalBool (f.nat 1) = none := by
  obtain ⟨n, hn, h2⟩ := h
  rw [hn]
  exact boolOf_none h2

theorem startAnswer_badField {f : Fields}
    (h : f.extra = true ∨ f.NamesNone 0 2 ∨ ∃ n, f.nat 1 = some n ∧ 2 ≤ n) (s : State) :
    startAnswer f s = (s, refuse .badField) := by
  unfold startAnswer
  rcases h with h | h | h
  · split
    · rw [if_pos h]
    · rfl
  · simp [cavity_none h]
  · simp [optionalBool_none h]

theorem unlockAnswer_badField {f : Fields}
    (h : f.extra = true ∨ f.NamesNone 0 2 ∨ ∃ n, f.nat 1 = some n ∧ 2 ≤ n) (s : State) :
    unlockAnswer f s = (s, refuse .badField) := by
  unfold unlockAnswer
  rcases h with h | h | h
  · split
    · rw [if_pos h]
    · rfl
  · simp [cavity_none h]
  · simp [optionalBool_none h]

/-- A band write lacks a field, or a field names nothing (R45). -/
theorem readBandWrite_none {f : Fields}
    (h : f.extra = true ∨ f.NamesNone 0 2 ∨ (∀ n, f.nat 1 = some n → n = 0 ∨ 8 < n) ∨ f.nat 2 = none
      ∨ f.NamesNone 3 2 ∨ f.NamesNone 4 3 ∨ f.nat 5 = none ∨ f.NamesNone 6 8 ∨ f.NamesNone 7 2) :
    readBandWrite f = none := by
  unfold readBandWrite
  split
  · rfl
  · rename_i hx
    rcases h with h | h | h | h | h | h | h | h | h
    · exact absurd h hx
    · simp [cavity_none h]
    · simp [bandNumber_none h]
    · have e : f.int 2 = none := by
        unfold Fields.nat at h
        unfold Fields.int
        cases hb : f.bytes 2 <;> simp_all
      simp [e]
    · simp [show f.enum 3 boolOf = none from enum_none_of_namesNone h fun _ => boolOf_none]
    · simp [show f.enum 4 policyOf = none from enum_ofCode_none (values := policies) h]
    · simp [h]
    · simp [show f.enum 6 elementSetOf = none from enum_none_of_namesNone h fun _ => elementSetOf_none]
    · simp [show f.enum 7 catRequirementOf = none from enum_ofCode_none (values := catRequirements) h]

/-- The code that names a cavity is that cavity's code (R185). -/
theorem cavityCode_of_cavityOf {n : Nat} {c : Cavity} (h : cavityOf n = some c) : n = cavityCode c := by
  match n with
  | 0 => cases h; rfl
  | 1 => cases h; rfl
  | n + 2 => rw [cavityOf, ofCode_none (by simp [cavities])] at h; cases h

theorem writeBandAnswer_badField {f : Fields} {s : State} (hf : s.tables.frozen = false)
    (hl : ∀ c, f.nat 0 = some (cavityCode c) → s.tableLocks.get c = false) (hw : readBandWrite f = none) :
    writeBandAnswer f s = (s, refuse .badField) := by
  unfold writeBandAnswer
  cases he : f.enum 0 cavityOf with
  | none => simp [hf, hw]
  | some c =>
    obtain ⟨n, hn, hcn⟩ := Option.bind_eq_some_iff.mp he
    have hc := hl c (by rw [hn, cavityCode_of_cavityOf hcn])
    simp [hf, hw, hc]

theorem setElementAnswer_badField {f : Fields} {s : State} (hf : s.tables.frozen = false) (hi : s.bothIdle = true)
    (h : f.extra = true ∨ f.NamesNone 0 8 ∨ f.nat 1 = none) : setElementAnswer f s = (s, refuse .badField) := by
  unfold setElementAnswer
  rw [if_neg (by simp [hf]), if_neg (by simp [hi])]
  rcases h with h | h | h
  · split
    · rw [if_pos h]
    · rfl
  · simp [show f.enum 0 elementOf = none from enum_ofCode_none (values := allElements) h]
  · simp [h]

theorem setBudgetAnswer_badField {f : Fields} {s : State} (hf : s.tables.frozen = false)
    (h : f.extra = true ∨ f.nat 0 = none) : setBudgetAnswer f s = (s, refuse .badField) := by
  unfold setBudgetAnswer
  rw [if_neg (by simp [hf])]
  rcases h with h | h
  · split
    · rw [if_pos h]
    · rfl
  · simp [h]

theorem appendAnswer_badField {f : Fields} (h : f.extra = true ∨ f.NamesNone 0 2) (s : State) :
    appendAnswer f s = (s, refuse .badField) := by
  unfold appendAnswer
  rcases h with h | h
  · split
    · rfl
    · rw [if_pos h]
  · simp [cavity_none h]

theorem replaceAnswer_badField {f : Fields} (h : f.extra = true ∨ f.NamesNone 0 2 ∨ f.nat 1 = none) (s : State) :
    replaceAnswer f s = (s, refuse .badField) := by
  unfold replaceAnswer
  rcases h with h | h | h
  · split
    · rw [if_pos h]
    · rfl
  · simp [cavity_none h]
  · simp [h]

/-! ## Requests refused -/

namespace State

variable {s : State} {widths : List Nat} {p : List Byte}

theorem serve_refused_length {finish : State → State} {owner : Fields → State → State × Answer} (h : s.takesLine)
    (hf : readFields widths p = none) : serve finish widths p owner s = s.refusedWith .length :=
  (serve_length (lineDead_of_takes h) hf).trans (endOfFrame_refuse ..)

theorem readRequest_badField {owner : Fields → State → Answer} {f : Fields} (h : s.takesLine)
    (hf : readFields widths p = some f) (ho : owner f s.endOfFrame = refuse .badField) :
    s.readRequest widths p owner = s.refusedWith .badField :=
  (serve_fields (lineDead_of_takes h) hf).trans ((congrArg (sendReply · s.endOfFrame) ho).trans
    (endOfFrame_refuse ..))

theorem takeRequest_badField {owner : Fields → State → State × Answer} {f : Fields} (h : s.takesLine)
    (hb : s.events.outbox = []) (hf : readFields widths p = some f)
    (ho : owner f s.endOfFrame = (s.endOfFrame, refuse .badField)) :
    s.takeRequest widths p owner = (s.refusedWith .badField).drawOrder := by
  refine (serve_fields (lineDead_of_takes h) hf).trans ?_
  rw [ho]
  exact endOfFrame_close_refuse _ _ hb

/-- SAMPLE reads its payload as the others do (R16, R183). -/
theorem exec_sample_length (h : s.takesLine) (hf : readFields oneByteField p = none) :
    exec (.sample p) s = .next (s.refusedWith .length) := by
  refine congrArg Host.Outcome.next ((if_neg (by simp [lineDead_of_takes h])).trans ?_)
  rw [hf]
  exact endOfFrame_refuse ..

theorem exec_sample_fields {f : Fields} (h : s.takesLine) (hf : readFields oneByteField p = some f) :
    exec (.sample p) s = .next (s.endOfFrame.takeSample f) := by
  refine congrArg Host.Outcome.next ((if_neg (by simp [lineDead_of_takes h])).trans ?_)
  rw [hf]

theorem takeSample_badField {f : Fields} (h : onlyEnum channelOf f = none) :
    s.endOfFrame.takeSample f = s.refusedWith .badField := by
  unfold takeSample
  rw [h]
  exact endOfFrame_refuse ..

theorem endOfFrame_tables : s.endOfFrame.tables = s.tables := by rw [endOfFrame_rest]
theorem endOfFrame_tableLocks : s.endOfFrame.tableLocks = s.tableLocks := by rw [endOfFrame_rest]
theorem endOfFrame_bothIdle : s.endOfFrame.bothIdle = s.bothIdle := by rw [endOfFrame_rest]; rfl
theorem endOfFrame_converter : s.endOfFrame.converter = s.converter := by rw [endOfFrame_rest]

end State

/-- Settles O8: the reading of the payload, then each request with its owner's judgement of the fields. -/
theorem unreadableUndefinedAndUnknownAreRefused : Obligations.UnreadableUndefinedAndUnknownAreRefused := by
  intro s h
  have len : ∀ {widths p finish owner}, readFields widths p = none →
      Host.Outcome.next (ρ := Refusal) (φ := Fault) (serve finish widths p owner s) = .next (s.refusedWith .length) :=
    fun hf => congrArg Host.Outcome.next (serve_refused_length h hf)
  refine ⟨readFields_isSome, fun kind p hk => ?_, fun p hp => ?_, fun p hp => ?_, fun p hp => ?_, fun p hp => len hp,
    fun p hp => len hp, fun p hp => len hp, fun p hp => len hp, fun p hp => len hp,
    fun p f hf => ⟨fun hx => ?_, fun hx => ?_⟩, fun p f hf => ⟨fun hx => ?_, fun hx => ?_⟩, fun hb => ?_⟩
  · refine congrArg Host.Outcome.next ((if_neg ?_).trans (endOfFrame_refuse ..))
    have hn : namesRequest kind = false := by
      simp only [namesRequest, Bool.and_eq_false_iff, decide_eq_false_iff_not]; omega
    simp [lineDead_of_takes h, hn]
  · have hn := readFields_noFields hp
    exact ⟨len hn, len hn, len hn, (congrArg Host.Outcome.next (if_neg nofun)).trans (len hn), len hn, len hn⟩
  · exact ⟨len hp, len hp, len hp, len hp, len hp, len hp, len hp, len hp, len hp, exec_sample_length h hp⟩
  · exact ⟨len hp, len hp, len hp, len hp⟩
  · exact ⟨congrArg Host.Outcome.next (readRequest_badField h hf (cavityAnswer_badField hx _)),
      congrArg Host.Outcome.next (readRequest_badField h hf (cavityAnswer_badField hx _))⟩
  · refine ⟨congrArg Host.Outcome.next (readRequest_badField h hf (plantAnswer_badField hx _)),
      (exec_sample_fields h hf).trans (congrArg Host.Outcome.next (takeSample_badField ?_))⟩
    exact onlyEnum_none (hx.imp_right fun hx => enum_ofCode_none (values := allChannels) hx)
  · exact congrArg Host.Outcome.next (readRequest_badField h hf (readBandAnswer_badField hx _))
  · exact congrArg Host.Outcome.next (readRequest_badField h hf (readSegmentAnswer_badField hx _))
  · have bad : ∀ {widths p f owner}, readFields widths p = some f →
        owner f s.endOfFrame = (s.endOfFrame, refuse .badField) →
        Host.Outcome.next (ρ := Refusal) (φ := Fault) (s.takeRequest widths p owner)
          = .next (s.refusedWith .badField).drawOrder :=
      fun hf ho => congrArg Host.Outcome.next (takeRequest_badField h hb hf ho)
    refine ⟨fun p f hf hx => ?_, fun p f hf hx => ?_, fun p f hf hz hl hx => ?_, fun p f hf hz hi hx => ?_,
      fun p f hf hz hx => ?_, fun p f hf hx => ?_, fun p f hf hx => ?_⟩
    · have hc := fun op => bad (owner := forCavity op) hf (forCavity_badField hx _)
      exact ⟨hc _, hc _, hc _, hc _, hc _, hc _⟩
    · exact ⟨bad hf (startAnswer_badField hx _), bad hf (unlockAnswer_badField hx _)⟩
    · refine bad hf (writeBandAnswer_badField ?_ ?_ (readBandWrite_none hx))
      · rw [endOfFrame_tables]; exact hz
      · rw [endOfFrame_tableLocks]; exact hl
    · refine bad hf (setElementAnswer_badField ?_ ?_ hx)
      · rw [endOfFrame_tables]; exact hz
      · rw [endOfFrame_bothIdle]; exact hi
    · exact bad hf (setBudgetAnswer_badField (by rw [endOfFrame_tables]; exact hz) hx)
    · exact bad hf (appendAnswer_badField hx _)
    · exact bad hf (replaceAnswer_badField hx _)

/-! ## SAMPLE -/

/-- The payload of one field of one byte is read as that byte (R183). -/
theorem readFields_oneByte (n : Byte) : readFields oneByteField [1, 0, n] = some ⟨[some [n]], false⟩ := rfl

/-- The field names what the code names (R184). -/
theorem onlyEnum_oneByte {α : Type} (of : Nat → Option α) (n : Byte) :
    onlyEnum of ⟨[some [n]], false⟩ = of n.toNat := by
  show (some (n.toNat + 256 * 0)).bind of = _
  rw [Option.bind_some, Nat.mul_zero, Nat.add_zero]

theorem channelOf_channelCode (ch : Channel) : channelOf (BitVec.ofNat 8 (channelCode ch)).toNat = some ch := by
  rcases ch with (_ | _) | (_ | _) | _ <;> rfl

/-- Settles O47: a frame's payload names its channel, and the request is held where none is. -/
theorem sampleWaitsForConversion : Obligations.SampleWaitsForConversion := by
  intro s h
  have run := fun n : Byte => exec_sample_fields h (readFields_oneByte n)
  refine ⟨fun ch hd => (run _).trans (congrArg Host.Outcome.next ?_),
    fun ch hd => (run _).trans (congrArg Host.Outcome.next ?_),
    fun n hn => (run n).trans (congrArg Host.Outcome.next (takeSample_badField ?_))⟩
  · unfold takeSample
    rw [onlyEnum_oneByte, channelOf_channelCode, endOfFrame_converter, hd]
    show s.endOfFrame.holdSample ch = _
    rw [endOfFrame_rest]
    simp only [holdSample, setConverter, setLink, endOfFrame_link]
    rfl
  · unfold takeSample
    rw [onlyEnum_oneByte, channelOf_channelCode, endOfFrame_converter]
    exact (if_pos (Option.isSome_iff_ne_none.mpr hd)).trans (endOfFrame_refuse ..)
  · rw [onlyEnum_oneByte]
    exact ofCode_none hn

end Sys2Proof.Machine
end

section
/-!
PROOFS. The two resets (O58).
-/

namespace Sys2Proof.Machine

open Sys2Proof State

/-- One value for every name is that value at each. -/
@[simp] theorem PerCavity.get_all {α : Type} (x : α) (c : Cavity) : (PerCavity.all x).get c = x := by cases c <;> rfl
@[simp] theorem PerElement.get_all {α : Type} (x : α) (e : Element) : (PerElement.all x).get e = x := by
  obtain ⟨c, h⟩ := e
  cases c <;> cases h <;> rfl
@[simp] theorem PerRelay.get_all {α : Type} (x : α) (r : Relay) : (PerRelay.all x).get r = x := by
  cases r with
  | element e => exact PerElement.get_all x e
  | master => rfl
@[simp] theorem PerChannel.get_all {α : Type} (x : α) (ch : Channel) : (PerChannel.all x).get ch = x := by
  rcases ch with c | c | _
  · exact PerCavity.get_all x c
  · exact PerCavity.get_all x c
  · rfl

namespace State

/-- A state in which every block holds its reset values, with TRIP as the reset leaves it, the pins restarted, and the
holds of the relays left open. -/
structure IsReset (trip : Bool) (s t : State) : Prop where
  blocks : t = { afterReset trip s with drive := { Drive.reset with entries := t.drive.entries } }
  relays : ∀ r, t.relay r = { RelayEntry.reset with hold := (t.relay r).hold }

theorem afterReset_isReset (trip : Bool) (s : State) : IsReset trip s (s.afterReset trip) where
  blocks := rfl
  relays r := by simp [relay, afterReset, reset, Drive.reset, RelayEntry.reset]

/-- The hold of one relay is kept, and nothing else is new (R137). -/
theorem keepHold_isReset {trip : Bool} {s t : State} (b : State) (r : Relay) (h : IsReset trip s t) :
    IsReset trip s (keepHold b r t) where
  blocks := by
    conv_lhs => rw [h.blocks]
    rfl
  relays r' := by
    by_cases e : r' = r
    · subst e
      have hr : { t.relay r' with hold := (b.relay r').hold }
          = { RelayEntry.reset with hold := (b.relay r').hold } := by
        rw [h.relays r']
      simpa [relay, keepHold, setRelay] using hr
    · simpa [relay, keepHold, setRelay, e] using h.relays r'

theorem keepHolds_isReset {trip : Bool} {s : State} (b : State) (l : List Relay) (t : State) (h : IsReset trip s t) :
    IsReset trip s (forEach l (keepHold b) t) := by
  induction l generalizing t with
  | nil => exact h
  | cons r rs ih => exact ih _ (keepHold_isReset b r h)

/-- A relay of the list has the hold that it had before the reset (R137). -/
theorem keepHolds_hold (b : State) (r : Relay) (l : List Relay) (t : State)
    (h : r ∈ l ∨ (t.relay r).hold = (b.relay r).hold) :
    ((forEach l (keepHold b) t).relay r).hold = (b.relay r).hold := by
  induction l generalizing t with
  | nil => exact h.resolve_left (List.not_mem_nil)
  | cons x xs ih =>
    refine ih _ ?_
    by_cases e : r = x
    · subst e
      exact .inr (by simp [relay, keepHold, setRelay])
    · rcases h with h | h
      · exact .inl (by simpa [e] using h)
      · exact .inr (by simpa [relay, keepHold, setRelay, e] using h)

theorem mem_allRelays (r : Relay) : r ∈ allRelays := by
  cases r with
  | element e => exact List.mem_append_left _ (List.mem_map_of_mem (mem_allElements e))
  | master => exact List.mem_append_right _ (List.mem_singleton_self _)

/-- A restarted pin has its level for its last sample (R51, R140). -/
theorem restart_contact (p : Pins) (r : Relay) :
    p.restart.contacts.get r = ⟨(p.contacts.get r).level, (p.contacts.get r).level⟩ := by
  rcases r with ⟨c, h⟩ | _
  · cases c <;> cases h <;> rfl
  · rfl

theorem restart_switch (p : Pins) (c : Cavity) (sw : Switch) : (p.restart.switches.get c).get sw
    = ⟨((p.switches.get c).get sw).level, ((p.switches.get c).get sw).level⟩ := by
  cases c <;> cases sw <;> rfl

/-- The external reset before its record of TRIP is queued (R166). -/
theorem externallyReset_eq (s : State) : s.externallyReset =
    if s.sup.trip = true then (reportTrip (forEach allRelays (keepHold s) (afterReset s.sup.trip s))).close
    else forEach allRelays (keepHold s) (afterReset s.sup.trip s) := rfl

/-- The one record of a command with an empty queue is the queue at its close. -/
theorem close_single (s : State) (o : Outgoing) (hq : s.events = ⟨[], [o]⟩) : s.close =
    { s with events := ⟨[o.record], []⟩, order := Config.arrivalOrder s.draws, draws := s.draws + 1 } := by
  have hi : interleave 1 s.order.records [o] = [o] := by
    simp [interleave, takeFirstOf]
  unfold close deliverRecords
  rw [hq]
  show drawOrder (forEach ((interleave 1 s.order.records [o]).map (·.record)) enqueue (s.setEvents ⟨[], []⟩)) = _
  rw [hi]
  rfl

end State

/-- Settles O58: after either reset the blocks are those of the reset state, and the external reset keeps the holds and
reports TRIP. -/
theorem resetsRestoreResetValues : Obligations.ResetsRestoreResetValues := by
  intro s values
  have key : ∀ trip t e, IsReset trip s t → values trip { t with
      events := e
      order := if trip then Config.arrivalOrder s.draws else s.order
      draws := if trip then s.draws + 1 else s.draws } := by
    intro trip t e h
    obtain ⟨hb, hr⟩ := h
    have relays : ∀ r, t.drive.entries.get r = { RelayEntry.reset with hold := (t.relay r).hold } := hr
    rw [hb]
    refine ⟨fun ch => ?_, fun c => ?_, rfl, rfl, rfl, rfl, rfl, rfl, fun e => ?_, fun r => ?_, rfl, rfl, rfl, rfl,
      rfl, rfl, rfl, rfl, fun ch => ?_, rfl, rfl, rfl, rfl, rfl, rfl, rfl, rfl, restart_switch _, restart_contact _,
      rfl, rfl, rfl⟩
    · exact PerChannel.get_all _ ch
    · cases c <;> exact ⟨rfl, rfl, rfl, rfl, rfl, rfl, rfl, rfl, rfl, rfl, rfl, rfl, rfl, rfl, rfl, rfl⟩
    · exact ⟨congrArg Grants.made (PerElement.get_all _ e), PerElement.get_all _ e, PerElement.get_all _ e⟩
    · have x := relays r
      refine ⟨?_, ?_, ?_, ?_, ?_, ?_, PerRelay.get_all _ r⟩ <;> exact (congrArg _ x).trans rfl
    · exact PerChannel.get_all _ ch
  refine ⟨⟨_, rfl, key false _ _ (afterReset_isReset ..), rfl, fun r => ?_⟩, ⟨_, rfl, ?_⟩⟩
  · rw [(afterReset_isReset false s).relays]
    exact congrArg RelayEntry.hold (PerRelay.get_all RelayEntry.reset r)
  · have hk := keepHolds_isReset s allRelays _ (afterReset_isReset s.sup.trip s)
    have hh := fun r => keepHolds_hold s r allRelays (afterReset s.sup.trip s) (.inl (mem_allRelays r))
    rw [externallyReset_eq]
    generalize forEach allRelays (keepHold s) (afterReset s.sup.trip s) = u at hk hh
    cases ht : s.sup.trip with
    | false =>
      rw [ht] at hk
      have hv := key false u ⟨[], []⟩ hk
      have hu : { u with events := ⟨[], []⟩, order := s.order, draws := s.draws } = u := by rw [hk.blocks]; rfl
      exact ⟨hu ▸ hv, by rw [if_neg nofun, hk.blocks]; rfl, hh⟩
    | true =>
      rw [ht] at hk
      have hc : (reportTrip u).close = { u with
          events := ⟨[⟨.faultRaised none .trip none, 0⟩], []⟩
          order := Config.arrivalOrder s.draws
          draws := s.draws + 1 } := by
        rw [close_single _ ⟨.supervisor, ⟨.faultRaised none .trip none, 0⟩⟩ (by rw [hk.blocks]; rfl), hk.blocks]
        rfl
      rw [if_pos rfl, hc]
      exact ⟨key true u _ hk, rfl, hh⟩

end Sys2Proof.Machine
end

section
/-!
PROOFS. The idle step (O60): the millisecond on every timer, and membership in the queue of what is due.
-/

namespace Sys2Proof.Machine

open Sys2Proof State

/-- An arrangement holds the elements of its list (log entry 3). -/
theorem arrange_perm {α : Type} (l : List α) (n : Nat) : (arrange l n).Perm l := by
  induction l generalizing n with
  | nil => exact .refl _
  | cons x xs ih =>
    have hlen : n % (xs.length + 1) ≤ (arrange xs (n / (xs.length + 1))).length := by
      rw [(ih _).length_eq]
      exact Nat.le_of_lt_succ (Nat.mod_lt _ (Nat.succ_pos _))
    exact (List.perm_insertIdx x _ hlen).trans ((ih _).cons x)

@[simp] theorem PerCavity.get_map {α : Type} (f : α → α) (p : PerCavity α) (c : Cavity) :
    (p.map f).get c = f (p.get c) := by cases c <;> rfl
@[simp] theorem PerChannel.get_map {α : Type} (f : α → α) (p : PerChannel α) (ch : Channel) :
    (p.map f).get ch = f (p.get ch) := by
  rcases ch with c | c | _
  · exact PerCavity.get_map f _ c
  · exact PerCavity.get_map f _ c
  · rfl
@[simp] theorem PerSwitch.get_map {α : Type} (f : α → α) (p : PerSwitch α) (sw : Switch) :
    (p.map f).get sw = f (p.get sw) := by cases sw <;> rfl
@[simp] theorem PerRelay.get_map {α : Type} (f : α → α) (p : PerRelay α) (r : Relay) :
    (p.map f).get r = f (p.get r) := by
  rcases r with ⟨c, h⟩ | _
  · cases c <;> cases h <;> rfl
  · rfl

theorem mem_allChannels (ch : Channel) : ch ∈ allChannels := by
  rcases ch with c | c | _
  · cases c <;> simp [allChannels]
  · cases c <;> simp [allChannels]
  · simp [allChannels]
theorem mem_cavities (c : Cavity) : c ∈ cavities := by cases c <;> simp [cavities]
theorem mem_switches (sw : Switch) : sw ∈ switches := by cases sw <;> simp [switches]

namespace State

@[simp] theorem mem_when {p : Bool} {c i : Instr} : i ∈ State.when p c ↔ p = true ∧ i = c := by
  cases p <;> simp [State.when]

theorem mem_conversionEvent {s : State} {i : Instr} : i ∈ s.conversionEvent ↔ 50 ≤ s.converter.elapsed ∧
    ((s.converter.origin = .scan ∧ i = .scanConversionComplete (s.pins.codes.get s.converter.channel).1
        (s.pins.codes.get s.converter.channel).2)
      ∨ (s.converter.origin = .sample ∧ i = .onDemandConversionComplete (s.pins.codes.get s.converter.channel).1
        (s.pins.codes.get s.converter.channel).2)) := by
  unfold conversionEvent
  cases s.converter.origin <;> simp [conversionDue]

theorem mem_slotEvent {s : State} {i : Instr} : i ∈ s.slotEvent ↔ 1000 ≤ s.alloc.slotElapsed ∧
    ((s.alloc.slot = some 15 ∧ i = .windowStart) ∨ (s.alloc.slot ≠ some 15 ∧ i = .slotStart)) := by
  unfold slotEvent
  by_cases h : s.alloc.slot = some 15 <;> simp [slotOver, h]

theorem mem_testEvent {s : State} {i : Instr} : i ∈ s.testEvent ↔ ∃ x, s.drive.test.step = some x ∧
    ((x.reading = none ∧ 100 ≤ x.elapsed ∧ i = .testStepReading)
      ∨ (x.reading ≠ none ∧ 200 ≤ x.elapsed ∧ i = .testStepEnd)) := by
  unfold testEvent
  split
  · next x h =>
    by_cases hr : x.reading = none <;> simp [h, hr, TestStep.readingDue, TestStep.endDue]
  · next h => simp [h]

/-- What is due among the timers, by name. -/
theorem mem_timersDue {s : State} {i : Instr} : i ∈ s.timersDue ↔
    (∃ ch, s.stalenessDue ch = true ∧ i = .stalenessTimerExpiry ch) ∨ i ∈ s.conversionEvent
    ∨ (∃ c, i ∈ s.cavityEvents c) ∨ i ∈ s.slotEvent ∨ (∃ r, i ∈ s.relayEvents r) ∨ i ∈ s.testEvent
    ∨ i ∈ s.fanEvents ∨ (s.lineFaultDue = true ∧ i = .lineFault) ∨ (s.visitDue = true ∧ i = .refreshVisit) := by
  simp [timersDue, mem_allChannels, mem_cavities, mem_allRelays]

/-- What is due at a sample, by name. -/
theorem mem_sampleDue {s : State} {i : Instr} : i ∈ s.sampleDue ↔ s.clock.sinceSample = 0 ∧
    ((∃ c sw, sampleMoves ((s.pins.switches.get c).get sw) ((s.lock c).levels.get sw) = true
        ∧ i = .switchLevelChange c sw ((s.pins.switches.get c).get sw).level)
      ∨ ∃ r, sampleMoves (s.pins.contacts.get r) (s.relay r).sense = true
        ∧ i = .senseLevelChange r (s.pins.contacts.get r).level) := by
  unfold sampleDue
  split
  · next h => simp [h, switchMovesDue, senseMovesDue, mem_cavities, mem_allRelays, mem_switches]
  · next h => simp [h]

/-- What is due joins an empty queue, in some order (log entry 3). -/
theorem await_pending (due : List Instr) {s : State} (hp : s.pending = []) : (await due s).pending.Perm due := by
  unfold await
  split
  · next h => rw [hp, List.isEmpty_iff.mp h]
  · show (s.pending ++ arrange due s.order.timers).Perm due
    rw [hp]
    exact arrange_perm _ _

theorem mem_millisecond {s : State} (hp : s.pending = []) (i : Instr) :
    i ∈ s.millisecond.pending ↔ i ∈ s.countAll.timersDue ∨ i ∈ s.countAll.sampleDue := by
  have hk : s.countAll.keepSamples.pending = [] := by
    unfold keepSamples
    split <;> exact hp
  rw [← List.mem_append]
  exact (await_pending _ hk).mem_iff

/-- The fields that a millisecond writes: each block's count, the pins' samples and the queue. -/
theorem millisecond_eq (s : State) : s.millisecond = { s.countAll with
    pins := s.countAll.keepSamples.pins, pending := s.millisecond.pending, order := s.millisecond.order,
    draws := s.millisecond.draws } := by
  unfold millisecond await keepSamples
  dsimp only
  split <;> split <;> rfl

/-- What is due right after a reset joins the queue at no time (log entry 1). -/
theorem idle_of_starts {s : State} (h : s.alloc.slot = none ∨ 2 ≤ s.clock.sinceVisit) :
    s.idle = { s.drawOrder with pending := s.pending ++ arrange s.startsDue s.order.timers } := by
  have hne : ¬ s.startsDue.isEmpty = true := by
    rcases h with h | h <;> simp [startsDue, State.when, visitDue, h]
  exact (if_neg hne).trans (if_neg hne)

theorem idle_of_no_starts {s : State} (hslot : s.alloc.slot ≠ none) (hv : s.clock.sinceVisit < 2) :
    s.idle = s.millisecond := by
  refine if_pos ?_
  simp [startsDue, State.when, visitDue, hslot, hv]

theorem step_of_idle {s : State} (hp : s.pending = []) : step s = .next s.idle := by
  unfold step takePending
  rw [hp]

theorem startsDue_eq (s : State) : s.startsDue = (if s.alloc.slot = none then [.windowStart] else [])
    ++ if 2 ≤ s.clock.sinceVisit then [.refreshVisit] else [] := by
  simp [startsDue, State.when, visitDue]

/-- The input pins after a millisecond (R51, R140). -/
theorem keepSamples_pin (s : State) (c : Cavity) (sw : Switch) : (s.keepSamples.pins.switches.get c).get sw =
    ⟨((s.pins.switches.get c).get sw).level, if s.clock.sinceSample = 0 then ((s.pins.switches.get c).get sw).level
      else ((s.pins.switches.get c).get sw).lastSample⟩ := by
  unfold keepSamples
  split <;> simp_all [SampledPin.sampled]

theorem keepSamples_contact (s : State) (r : Relay) : s.keepSamples.pins.contacts.get r =
    ⟨(s.pins.contacts.get r).level, if s.clock.sinceSample = 0 then (s.pins.contacts.get r).level
      else (s.pins.contacts.get r).lastSample⟩ := by
  unfold keepSamples
  split <;> simp_all [SampledPin.sampled]

theorem keepSamples_straps (s : State) :
    s.keepSamples.pins.straps = s.pins.straps ∧ s.keepSamples.pins.codes = s.pins.codes := by
  unfold keepSamples
  split <;> exact ⟨rfl, rfl⟩

theorem countTimer_due {t : Timer} {limit : Nat} :
    isDue (countTimer t) limit = true ↔ ∃ n, t = some n ∧ limit ≤ n + 1 := by
  cases t <;> simp [countTimer]

theorem holdCount_eq (t : Timer) :
    holdCount t = match t with
      | some n => if n + 1 < 20 then some (n + 1) else none
      | none => none := by
  cases t with
  | none => rfl
  | some n => by_cases h : n + 1 < 20 <;> simp [holdCount, countTimer, h] <;> omega

theorem sampleMoves_iff {p : SampledPin} {l : Option Bool} :
    sampleMoves p l = true ↔ p.level = p.lastSample ∧ l ≠ some p.level := by simp [sampleMoves]

/-- A sample is taken at the eighth millisecond (R51). -/
theorem sinceSample_count (k : Clock) : k.count.sinceSample = 0 ↔ 8 ≤ k.sinceSample + 1 := by
  show (if k.sinceSample + 1 < 8 then k.sinceSample + 1 else 0) = 0 ↔ _
  split <;> omega

/-! ## When the counted timers are due -/

theorem stalenessDue_countAll {s : State} {ch : Channel} : s.countAll.stalenessDue ch = true ↔
    ∃ n, (s.channel ch).staleness = some n ∧ stalenessLimit ch ≤ n + 1 := by
  rw [← countTimer_due]
  exact iff_of_eq (congrArg (fun e : ChannelEntry => isDue e.staleness _ = true) (PerChannel.get_map _ s.channels ch))

theorem rateDue_countAll {s : State} {c : Cavity} : s.countAll.rateDue c = true ↔
    ∃ n, (s.rateOf c).timer = some n ∧ 6000 ≤ n + 1 := by
  rw [← countTimer_due]
  exact iff_of_eq (congrArg (fun e : RateHistory => isDue e.timer 6000 = true) (PerCavity.get_map _ s.rates c))

theorem tickDue_countAll {s : State} {c : Cavity} : s.countAll.tickDue c = true ↔
    ∃ n, (s.engine c).secondTimer = some n ∧ 1000 ≤ n + 1 := by
  rw [← countTimer_due]
  exact iff_of_eq (congrArg (fun e : Engine => isDue e.secondTimer 1000 = true) (PerCavity.get_map _ s.engines c))

theorem overheatDue_countAll {s : State} {c : Cavity} : s.countAll.overheatDue c = true ↔
    ∃ n, s.sup.overheatTimer.get c = some n ∧ 60000 ≤ n + 1 := by
  rw [← countTimer_due]
  exact iff_of_eq (congrArg (fun t : Timer => isDue t 60000 = true) (PerCavity.get_map _ s.sup.overheatTimer c))

theorem motionDue_countAll {s : State} {c : Cavity} : s.countAll.motionDue c = true ↔
    ∃ m, (s.lock c).motion = some m ∧ 3000 ≤ m.elapsed + 1 := by
  have hl : s.countAll.lock c = (s.lock c).count := PerCavity.get_map _ s.locks c
  rw [motionDue_iff, hl]
  cases h : (s.lock c).motion <;> simp [LockCtl.count, h]

theorem relay_countAll (s : State) (r : Relay) : s.countAll.relay r = (s.relay r).count :=
  PerRelay.get_map _ s.drive.entries r

theorem settleDue_countAll {s : State} {r : Relay} : s.countAll.settleDue r = true ↔
    ∃ n, (s.relay r).settle = some n ∧ 50 ≤ n + 1 := by
  rw [← countTimer_due, settleDue, relay_countAll]
  rfl

theorem mismatchDue_countAll {s : State} {r : Relay} : s.countAll.mismatchDue r = true ↔
    ∃ n, (s.relay r).mismatch = some n ∧ 100 ≤ n + 1 := by
  rw [← countTimer_due, mismatchDue, relay_countAll]
  rfl

theorem graceDue_countAll {s : State} : s.countAll.graceDue = true ↔ ∃ n, s.fan.grace = some n ∧ 3000 ≤ n + 1 :=
  countTimer_due

theorem pulseDue_countAll {s : State} : s.countAll.pulseDue = true ↔ ∃ n, s.fan.pulse = some n ∧ 250 ≤ n + 1 :=
  countTimer_due

theorem lineFaultDue_countAll {s : State} : s.countAll.lineFaultDue = true ↔
    ∃ low, s.link.receiver = .inBreak low ∧ 200 ≤ low + 10 := by
  rw [lineFaultDue, lowTimer_countAll, lowTimer, isDue_iff]
  cases h : s.link.receiver <;> simp

theorem visitDue_countAll {s : State} : s.countAll.visitDue = true ↔ 1 ≤ s.clock.sinceVisit := by
  rw [visitDue_iff]
  show 2 ≤ s.clock.sinceVisit + 1 ↔ _
  omega

theorem receiver_count (k : Link) (low : Nat) (h : k.receiver = .inBreak low) :
    k.count.receiver = .inBreak (low + 10) := by simp [Link.count, h]

theorem receiver_count_of_ne (k : Link) (h : ∀ low, k.receiver ≠ .inBreak low) : k.count.receiver = k.receiver := by
  unfold Link.count
  split
  · next low hl => exact absurd hl (h low)
  · rfl

/-- A test step's step, counted (R147). -/
theorem testStep_countAll (s : State) :
    s.countAll.drive.test.step = s.drive.test.step.map fun x => { x with elapsed := x.elapsed + 1 } := rfl

/-- The clocks after a millisecond (R51, R137, R169). -/
theorem clock_count (k : Clock) : k.count =
    { stamp := if k.millis + 1 < 1000 then k.stamp else k.stamp + 1
      millis := if k.millis + 1 < 1000 then k.millis + 1 else 0
      sinceSample := if 8 ≤ k.sinceSample + 1 then 0 else k.sinceSample + 1
      sinceVisit := k.sinceVisit + 1 } := by
  have h : (if k.sinceSample + 1 < 8 then k.sinceSample + 1 else 0)
      = if 8 ≤ k.sinceSample + 1 then 0 else k.sinceSample + 1 := by split <;> split <;> omega
  simp [Clock.count, h]

theorem relay_count (x : RelayEntry) : x.count = { x with
    settle := x.settle.map (· + 1)
    mismatch := x.mismatch.map (· + 1)
    hold := (match x.hold with
      | some n => if n + 1 < 20 then some (n + 1) else none
      | none => none) } := by
  rw [RelayEntry.count, holdCount_eq]
  rfl

/-- A sampled pin reports its level where two samples agree on it and it is new (R51, R140). -/
theorem sampleMoves_level {p : SampledPin} {l : Option Bool} {level : Bool} :
    (sampleMoves p l = true ∧ level = p.level) ↔ p = ⟨level, level⟩ ∧ l ≠ some level := by
  obtain ⟨x, y⟩ := p
  rw [sampleMoves_iff]
  constructor
  · rintro ⟨⟨e, hl⟩, rfl⟩
    exact ⟨congrArg (SampledPin.mk _) e.symm, hl⟩
  · rintro ⟨e, hl⟩
    obtain ⟨rfl, rfl⟩ := SampledPin.mk.inj e
    exact ⟨⟨rfl, hl⟩, rfl⟩

end State

/-- Settles O60: right after a reset the starts that are due join the queue, and otherwise the millisecond. -/
theorem idleStepPassesTime : Obligations.IdleStepPassesTime := by
  intro s hp
  refine ⟨fun h => ⟨_, step_of_idle hp, ?_, ?_⟩, fun hslot hv => ⟨_, step_of_idle hp, ?_⟩⟩
  · rw [idle_of_starts h]
  · rw [idle_of_starts h, ← startsDue_eq, hp]
    exact arrange_perm _ _
  · rw [idle_of_no_starts hslot hv]
    have hm := mem_millisecond hp
    rw [millisecond_eq]
    have k := keepSamples_straps s.countAll
    have sampled : s.countAll.clock.sinceSample = 0 ↔ 8 ≤ s.clock.sinceSample + 1 := sinceSample_count _
    generalize s.millisecond.pending = q at hm ⊢
    generalize s.millisecond.order = o
    generalize s.millisecond.draws = d
    refine ⟨rfl, rfl, rfl, rfl, Link.count_rest _, ?_, ?_, ?_, fun c => ⟨PerCavity.get_map _ _ c, ?_,
        PerCavity.get_map _ _ c, ?_, PerCavity.get_map _ _ c, ?_, PerCavity.get_map _ _ c, ?_⟩, rfl,
      fun ch => ⟨PerChannel.get_map _ _ ch, ?_⟩, rfl, fun rtd ref hc => ⟨?_, ?_⟩, fun r => ⟨?_, ?_, ?_⟩, rfl, rfl,
      ?_, ?_, rfl, ?_, ?_, rfl, ?_, ?_,
      ⟨fun c sw => ⟨?_, fun level => ?_⟩, fun r => ⟨?_, fun closed => ?_⟩, k.1, k.2, ?_⟩, ?_⟩
    all_goals simp only [hm, mem_timersDue, mem_conversionEvent, cavityEvents, mem_slotEvent, relayEvents,
      mem_testEvent, fanEvents, mem_sampleDue, List.mem_append, mem_when, reduceCtorEq, and_false, or_false, false_or,
      exists_const, exists_false, and_true, Instr.tick.injEq, Instr.motionTimerExpiry.injEq,
      Instr.rateTimerExpiry.injEq, Instr.overheatTimerExpiry.injEq, Instr.stalenessTimerExpiry.injEq,
      Instr.settleTimerExpiry.injEq, Instr.mismatchTimerExpiry.injEq, Instr.switchLevelChange.injEq,
      Instr.senseLevelChange.injEq, Instr.scanConversionComplete.injEq, Instr.onDemandConversionComplete.injEq,
      exists_eq_right', tickDue_countAll, motionDue_countAll, rateDue_countAll, overheatDue_countAll,
      stalenessDue_countAll, settleDue_countAll, mismatchDue_countAll, graceDue_countAll, pulseDue_countAll,
      lineFaultDue_countAll, visitDue_countAll]
    · exact receiver_count _
    · exact receiver_count_of_ne _
    · cases ch <;> exact Iff.rfl
    · rw [show s.countAll.pins.codes.get s.countAll.converter.channel = (rtd, ref) from hc]
      exact ⟨fun ⟨a, b, _⟩ => ⟨b, a⟩, fun ⟨b, a⟩ => ⟨a, b, rfl, rfl⟩⟩
    · rw [show s.countAll.pins.codes.get s.countAll.converter.channel = (rtd, ref) from hc]
      exact ⟨fun ⟨a, b, _⟩ => ⟨b, a⟩, fun ⟨b, a⟩ => ⟨a, b, rfl, rfl⟩⟩
    · exact (relay_countAll s r).trans (relay_count _)
    · simp [testStep_countAll]
    · simp [testStep_countAll]
    · exact and_comm
    · exact and_comm
    · rw [keepSamples_pin]
      simp only [sampled]
      rfl
    · have hl : s.countAll.lock c = (s.lock c).count := PerCavity.get_map _ s.locks c
      rw [sampled, ← sampleMoves_level]
      refine and_congr_right fun _ => ⟨?_, fun ⟨a, b⟩ => ⟨c, sw, hl.symm ▸ a, rfl, rfl, b⟩⟩
      rintro ⟨_, _, a, rfl, rfl, b⟩
      rw [hl] at a
      exact ⟨a, b⟩
    · rw [keepSamples_contact]
      simp only [sampled]
      rfl
    · rw [sampled, ← sampleMoves_level]
      refine and_congr_right fun _ => ⟨?_, fun ⟨a, b⟩ => ⟨r, relay_countAll s r ▸ a, rfl, b⟩⟩
      rintro ⟨_, a, rfl, b⟩
      rw [relay_countAll] at a
      exact ⟨a, b⟩
    · exact clock_count _
    · omega

end Sys2Proof.Machine
end

section
/-!
PROOFS. The records of an event on their way to the Event Queue: what an operation has posted is in the queue at the
close, or its loss is noted, and what it has not posted is not there (R169).
-/

namespace Sys2Proof.Machine

open Sys2Proof State

theorem takeFirstOf_perm {b : Block} {l : List Outgoing} {o : Outgoing} {rest : List Outgoing}
    (h : takeFirstOf b l = some (o, rest)) : (o :: rest).Perm l := by
  induction l generalizing o rest with
  | nil => exact absurd h nofun
  | cons x xs ih =>
    unfold takeFirstOf at h
    split at h
    · cases h
      exact .refl _
    · obtain ⟨⟨y, ys⟩, hy, he⟩ := Option.map_eq_some_iff.mp h
      cases he
      exact (List.Perm.swap x _ ys).trans ((ih hy).cons x)

/-- An interleaving holds the records of its list (R169). -/
theorem interleave_perm (fuel n : Nat) (l : List Outgoing) : (interleave fuel n l).Perm l := by
  induction fuel generalizing n l with
  | zero => exact .refl _
  | succ fuel ih =>
    cases l with
    | nil => exact .refl _
    | cons o rest =>
      unfold interleave
      dsimp only
      split
      · next first others h => exact ((ih _ _).cons first).trans (takeFirstOf_perm h)
      · exact .refl _

namespace State

/-- A record of what happened is on its way to the queue. -/
def Posted (body : EventBody) (s : State) : Prop := ∃ o ∈ s.events.outbox, o.record.body = body

theorem posted_post (b : Block) (body : EventBody) (s : State) : (s.post b body).Posted body :=
  ⟨_, List.mem_append_right _ (List.mem_singleton_self _), rfl⟩

theorem Posted.mono {body : EventBody} {s t : State} (h : s.Posted body)
    (k : s.events.outbox <+: t.events.outbox) : t.Posted body := by
  obtain ⟨o, ho, he⟩ := h
  exact ⟨o, k.subset ho, he⟩

theorem Posted.quiet {body : EventBody} {s t : State} (h : s.Posted body) (q : Quiet s t) : t.Posted body :=
  h.mono q.outbox

/-- A record that reaches the queue joins it, or its loss is noted (R169). -/
theorem enqueue_reported (r : EventRecord) (s : State) : (s.enqueue r).reported r.body := by
  unfold enqueue
  split
  · exact .inl ⟨r, List.mem_append_right _ (List.mem_singleton_self _), rfl⟩
  · exact .inr rfl

theorem enqueue_keeps {body : EventBody} (r : EventRecord) {s : State} (h : s.reported body) :
    (s.enqueue r).reported body := by
  unfold enqueue
  split
  · exact h.imp (fun ⟨x, hx, hb⟩ => ⟨x, List.mem_append_left _ hx, hb⟩) id
  · exact .inr rfl

theorem enqueueAll_keeps {body : EventBody} (l : List EventRecord) {s : State} (h : s.reported body) :
    (forEach l enqueue s).reported body := by
  induction l generalizing s with
  | nil => exact h
  | cons r rs ih => exact ih (enqueue_keeps r h)

theorem enqueueAll_reported {r : EventRecord} {l : List EventRecord} (h : r ∈ l) (s : State) :
    (forEach l enqueue s).reported r.body := by
  induction l generalizing s with
  | nil => exact absurd h List.not_mem_nil
  | cons x xs ih =>
    rcases List.mem_cons.mp h with rfl | h
    · exact enqueueAll_keeps xs (enqueue_reported r s)
    · exact ih h _

/-- What has been posted is reported at the close. -/
theorem Posted.close {body : EventBody} {s : State} (h : s.Posted body) : s.close.reported body := by
  obtain ⟨o, ho, rfl⟩ := h
  exact enqueueAll_reported
    (List.mem_map_of_mem ((interleave_perm s.events.outbox.length s.order.records s.events.outbox).mem_iff.mpr ho)) _

theorem enqueueAll_filter (p : EventRecord → Bool) (l : List EventRecord) (h : ∀ r ∈ l, p r = false) (s : State) :
    (forEach l enqueue s).events.queue.filter p = s.events.queue.filter p := by
  induction l generalizing s with
  | nil => rfl
  | cons x xs ih =>
    refine (ih (fun r hr => h r (List.mem_cons_of_mem _ hr)) (s.enqueue x)).trans ?_
    unfold enqueue
    split
    · show (s.events.queue ++ [x]).filter p = _
      simp [h x List.mem_cons_self]
    · rfl

/-- Records of a kind that an operation has not posted are not new in the queue at the close. -/
theorem close_filter (p : EventRecord → Bool) (s : State) (h : ∀ o ∈ s.events.outbox, p o.record = false) :
    s.close.events.queue.filter p = s.events.queue.filter p := by
  refine enqueueAll_filter p _ (fun r hr => ?_) _
  obtain ⟨o, ho, rfl⟩ := List.mem_map.mp hr
  exact h o ((interleave_perm ..).mem_iff.mp ho)

/-- A lock's notice with a record has posted it (R66). -/
theorem postNotices_posted {c : Cavity} {n : LockNotice} {l : List LockNotice} {body : EventBody}
    (hn : n ∈ l) (hb : noticeRecord c n = some body) (s : State) : (forEach l (postNotice c) s).Posted body := by
  induction l generalizing s with
  | nil => exact absurd hn List.not_mem_nil
  | cons x xs ih =>
    rcases List.mem_cons.mp hn with rfl | hn
    · have hp : (s.postNotice c n).Posted body := by
        unfold postNotice
        rw [hb]
        exact posted_post ..
      exact hp.quiet (.forEach _ _ (fun n s => .postNotice c n s) _)
    · exact ih hn _

theorem applyLock_posted {c : Cavity} {n : LockNotice} {x : LockStep} {body : EventBody} (hn : n ∈ x.notices)
    (hb : noticeRecord c n = some body) (s : State) : (s.applyLock c x).Posted body :=
  postNotices_posted hn hb _

end State
end Sys2Proof.Machine
end

section
/-!
PROOFS. The Band Table and the lock behind a channel that is not VALID: OVER comes into force, and under its INTERLOCK
no release begins (R36, R59).
-/

namespace Sys2Proof.Machine

open Sys2Proof State

/-- One operation for each name of a list, where each keeps a condition and relates its states. -/
theorem forEach_rel {α : Type} {P : State → Prop} {R : State → State → Prop} (refl : ∀ s, R s s)
    (trans : ∀ {s t u}, R s t → R t u → R s u) (l : List α) (op : α → State → State)
    (h : ∀ x ∈ l, ∀ s, P s → R s (op x s) ∧ P (op x s)) (s : State) (hs : P s) :
    R s (forEach l op s) ∧ P (forEach l op s) := by
  induction l generalizing s with
  | nil => exact ⟨refl s, hs⟩
  | cons x xs ih =>
    obtain ⟨hr, hp⟩ := h x List.mem_cons_self s hs
    obtain ⟨hr', hp'⟩ := ih (fun y hy => h y (List.mem_cons_of_mem _ hy)) _ hp
    exact ⟨trans hr hr', hp'⟩

/-- Operations that do nothing here. -/
theorem forEach_id {α : Type} (l : List α) (op : α → State → State) (s : State) (h : ∀ x ∈ l, op x s = s) :
    forEach l op s = s := by
  induction l with
  | nil => rfl
  | cons x xs ih =>
    show forEach xs op (op x s) = s
    rw [h x List.mem_cons_self]
    exact ih fun y hy => h y (List.mem_cons_of_mem _ hy)

@[simp] theorem PerCavity.set_get {α : Type} (p : PerCavity α) (c : Cavity) : p.set c (p.get c) = p := by
  cases c <;> rfl

theorem State.isValid_congr {s t : State} (h : t.channels = s.channels) (ch : Channel) :
    t.isValid ch = s.isValid ch := by
  unfold State.isValid State.channel
  rw [h]

@[simp] theorem PerChannel.set_get {α : Type} (p : PerChannel α) (ch : Channel) : p.set ch (p.get ch) = p := by
  rcases ch with c | c | _
  · cases c <;> rfl
  · cases c <;> rfl
  · rfl

/-- What the readers behind a channel that is not VALID leave alone beside the engines: the channels, the locks, the
engines, and of the Supervisor all but readiness and its outputs. -/
structure Rereads (s t : State) : Prop where
  rest : t = { s with
    bandIndex := t.bandIndex, alloc := t.alloc, drive := t.drive, fan := t.fan, sup := t.sup, events := t.events }
  drive : t.drive = { s.drive with entries := t.drive.entries, driveState := t.drive.driveState }
  health : ∀ r, (t.relay r).health = (s.relay r).health
  fan : Fan.FormsAll s.frontDemand s.fan t.fan
  holds : ∀ e, t.holdsGrant e = true → s.holdsGrant e = true
  sup : t.sup = { s.sup with
    readiness := t.sup.readiness, measured := t.sup.measured, driveEnable := t.sup.driveEnable,
    inhibit := t.sup.inhibit }

namespace Rereads

variable {s t u : State}

theorem ofBackground (h : Background s t) : Rereads s t :=
  ⟨by conv_lhs => rw [h.rest]
      rw [h.bandIndex], h.drive, h.health, h.fan, h.holds, h.sup⟩

theorem ofSettles (h : Settles s t) : Rereads s t := ofBackground (.ofSettles h)

theorem refl (s : State) : Rereads s s := ofSettles (.refl s)

theorem channels (h : Rereads s t) : t.channels = s.channels := by rw [h.rest]
theorem engines (h : Rereads s t) : t.engines = s.engines := by rw [h.rest]
theorem locks (h : Rereads s t) : t.locks = s.locks := by rw [h.rest]
theorem tableLocks (h : Rereads s t) : t.tableLocks = s.tableLocks := by rw [h.rest]
theorem tables (h : Rereads s t) : t.tables = s.tables := by rw [h.rest]
theorem link (h : Rereads s t) : t.link = s.link := by rw [h.rest]
theorem pending (h : Rereads s t) : t.pending = s.pending := by rw [h.rest]

theorem frontDemand (h : Rereads s t) : t.frontDemand = s.frontDemand := by
  rw [State.frontDemand, State.isValid_congr h.channels, State.frontDemand]

theorem trans (h : Rereads s t) (k : Rereads t u) : Rereads s u where
  rest := by
    conv_lhs => rw [k.rest, h.rest]
  drive := by
    conv_lhs => rw [k.drive, h.drive]
  health r := (k.health r).trans (h.health r)
  fan := h.fan.trans (h.frontDemand ▸ k.fan)
  holds e he := h.holds e (k.holds e he)
  sup := by
    conv_lhs => rw [k.sup, h.sup]

theorem setBandIndex (s : State) (c : Cavity) (i : BandIndex) : Rereads s (s.setBandIndex c i) :=
  ⟨rfl, rfl, fun _ => rfl, .refl, fun _ => id, rfl⟩

end Rereads

namespace State

theorem setLock_self (c : Cavity) (s : State) : s.setLock c (s.lock c) = s := by
  simp [setLock, lock]

/-- An event that changes nothing at the lock only has permission judged afresh (R131). -/
theorem lockEvent_stay (c : Cavity) (s : State) : lockEvent c (s.lock c).stay s = s.review := by
  show (s.setLock c (s.lock c)).review = s.review
  rw [setLock_self]

theorem policy_of_not_valid {s : State} {c : Cavity} (h : s.isValid (.cav c) = false) : s.policy c = .interlock := by
  simp [policy, bandFields, bandNow, h, fieldsAt, overFields]

theorem bandReader_not_valid {s : State} {c : Cavity} (h : s.isValid (.cav c) = false) (r : BandReader) :
    Settles s (bandReaderActs c r s) := by
  cases r with
  | allocator => exact .review s
  | fan => exact .fanSync s
  | lock =>
    have hb : LockCtl.bandChange (s.policy c) (s.lock c) = (s.lock c).stay := by
      simp [LockCtl.bandChange, policy_of_not_valid h]
    show Settles s (lockEvent c _ s)
    rw [hb, lockEvent_stay]
    exact .review s

theorem bandKnown_not_valid {s : State} {c : Cavity} (h : s.isValid (.cav c) = false) :
    Settles s (bandKnown c s) :=
  (forEach_rel (P := fun s => s.isValid (.cav c) = false) .refl .trans _ _
    (fun r _ _ ht => ⟨bandReader_not_valid ht r, 
      (isValid_congr (bandReader_not_valid ht r).channels _).trans ht⟩) s h).1

theorem takeBand_not_valid {s : State} {c : Cavity} (h : s.isValid (.cav c) = false) (i : BandIndex) :
    Rereads s (takeBand c i s) ∧ (takeBand c i s).bandIndex = s.bandIndex.set c i := by
  unfold takeBand
  split
  · next e => exact ⟨.refl s, by rw [← e, PerCavity.set_get]⟩
  · have k := bandKnown_not_valid (s := s.setBandIndex c i) h
    exact ⟨(Rereads.setBandIndex s c i).trans (.ofSettles k), k.bandIndex⟩

/-- A cavity channel that is not VALID puts OVER in force (R36). -/
theorem bandReads_not_valid {s : State} {c : Cavity} (h : s.isValid (.cav c) = false) (old : ChannelState) :
    Rereads s (bandReads c old s) ∧ (bandReads c old s).bandIndex = s.bandIndex.set c .over := by
  have hs : (s.channel (.cav c)).state ≠ .valid := of_decide_eq_false h
  rw [bandReads, if_neg hs]
  exact takeBand_not_valid h .over

end State
end Sys2Proof.Machine
end

section
/-!
PROOFS. Obligation O46: CLEAR owner by owner. Each owner's clearing writes its own part, and of the others' nothing that
the statement speaks of.
-/

namespace Sys2Proof.Machine

open Sys2Proof State

/-! ## CLEAR at a Door Lock Controller -/

namespace LockCtl

theorem unlatch_lock (f : LockFault) (l : LockCtl) :
    (unlatch f l).lock = { l with faults := l.faults.put false f } := by
  unfold unlatch
  split
  · rfl
  · next h =>
    obtain ⟨_, _, _, _, _, ⟨j, k, b, p⟩, _⟩ := l
    cases f <;> simp_all [stay, LockFaults.has, LockFaults.put]

theorem unlatch_notices (f : LockFault) (l : LockCtl) :
    (unlatch f l).notices = if l.faults.has f then [.cleared f] else [] := by
  unfold unlatch
  split <;> rfl

/-- The faults that CLEAR leaves before LOCK_STUCK (R70). -/
def otherFaultsCleared (l : LockCtl) : LockFaults :=
  { jam := false, slip := false, stuck := l.faults.stuck,
    breach := l.faults.breach && decide (l.levels.doorShut ≠ some true) }

theorem clearBreach_lock (l : LockCtl) : (clearBreach l).lock =
    { l with faults := { l.faults with breach := l.faults.breach && decide (l.levels.doorShut ≠ some true) } } := by
  unfold clearBreach
  split
  · next h => simp [unlatch_lock, LockFaults.put, h]
  · next h => simp [stay, h]

theorem clearBreach_notices (l : LockCtl) : (clearBreach l).notices =
    if l.levels.doorShut = some true ∧ l.faults.breach = true then [.cleared .breach] else [] := by
  unfold clearBreach
  split
  · next h => simp [unlatch_notices, LockFaults.has, h] <;> rfl
  · next h => simp [stay, h]

/-- The notices of the faults that CLEAR leaves before LOCK_STUCK (R70). -/
def otherFaultNotices (l : LockCtl) : List LockNotice :=
  (if l.faults.jam then [.cleared .jam] else []) ++ (if l.faults.slip then [.cleared .slip] else [])
    ++ if l.levels.doorShut = some true ∧ l.faults.breach = true then [.cleared .breach] else []

/-- CLEAR of the other faults goes before that of LOCK_STUCK (R70). -/
theorem clear_eq (l : LockCtl) : clear l = ⟨(clearStuck { l with faults := l.otherFaultsCleared }).lock,
    l.otherFaultNotices ++ (clearStuck { l with faults := l.otherFaultsCleared }).notices⟩ := by
  simp [clear, LockStep.andThen, unlatch_lock, unlatch_notices, clearBreach_lock, clearBreach_notices, LockFaults.put,
    LockFaults.has, otherFaultsCleared, otherFaultNotices] <;> rfl

/-- The state, motor, motion and LOCK_STUCK that the switch levels give at CLEAR (R70). -/
def rederived (l : LockCtl) : LockCtl :=
  let home := decide (l.levels.latchHome = some true)
  let set := decide (l.levels.latchSet = some true)
  let door := decide (l.levels.doorShut = some true)
  { l with
    state := if set && home then .faulted else if set then .engaged else if home then .released
      else if door then .engaging else .returning
    motor := if set || home then .stopped else if door then .forward else .reverse
    motion := if set || home then none else some ⟨.adopted, 0⟩
    slot := none
    releasePending := none
    faults := { l.faults with stuck := set && home } }

/-- A lock whose LOCK_STUCK has just been cleared (R70). -/
def unstuck (l : LockCtl) : LockCtl :=
  { l with slot := none, releasePending := none, faults := { l.faults with stuck := false } }

theorem derive_unstuck_lock (l : LockCtl) : (derive l.unstuck).lock = l.rederived := by
  by_cases hs : l.levels.latchSet = some true <;> by_cases hh : l.levels.latchHome = some true
  · simp [derive, unstuck, rederived, hs, hh, jamFast, latch, LockFaults.has, LockFaults.put, LockStep.andThen, rest]
  · simp [derive, unstuck, rederived, hs, hh, rest]
  · simp [derive, unstuck, rederived, hs, hh, rest]
  · by_cases hd : l.levels.doorShut = some true <;> simp [derive, unstuck, rederived, hs, hh, hd, run]

theorem derive_unstuck_notices (l : LockCtl) : (derive l.unstuck).notices =
    (if l.rederived.faults.stuck then [.raised .stuck] else []) ++ [.changed l.state l.rederived.state] := by
  by_cases hs : l.levels.latchSet = some true <;> by_cases hh : l.levels.latchHome = some true
  · simp [derive, unstuck, rederived, hs, hh, jamFast, latch, LockFaults.has, LockFaults.put, LockStep.andThen, rest]
  · simp [derive, unstuck, rederived, hs, hh, rest]
  · simp [derive, unstuck, rederived, hs, hh, rest]
  · by_cases hd : l.levels.doorShut = some true <;> simp [derive, unstuck, rederived, hs, hh, hd, run]

theorem clearStuck_eq (l : LockCtl) : clearStuck l = if l.faults.stuck then
    ⟨l.rederived, .cleared .stuck :: (if l.rederived.faults.stuck then [.raised .stuck] else [])
      ++ [.changed l.state l.rederived.state]⟩ else l.stay := by
  unfold clearStuck
  split
  · next h =>
    have hu : unlatch .stuck { l with slot := none, releasePending := none } = ⟨l.unstuck, [.cleared .stuck]⟩ :=
      if_pos h
    rw [hu, LockStep.andThen, derive_unstuck_lock, derive_unstuck_notices]
    rfl
  · rfl

/-- CLEAR makes known faults cleared, LOCK_STUCK raised again and the re-derived state, and nothing that its engine
takes in IDLE. -/
theorem clear_notices {l : LockCtl} {n : LockNotice} (h : n ∈ (clear l).notices) :
    (∃ f, n = .cleared f) ∨ n = .raised .stuck ∨ ∃ a b, n = .changed a b := by
  have hc : ∀ {p : Prop} [Decidable p] {f : LockFault}, n ∈ (if p then [LockNotice.cleared f] else []) →
      ∃ f, n = .cleared f := by
    intro p _ f hn
    split at hn
    · exact ⟨f, List.mem_singleton.mp hn⟩
    · exact absurd hn List.not_mem_nil
  rw [clear_eq, clearStuck_eq] at h
  rcases List.mem_append.mp h with h | h
  · rcases List.mem_append.mp h with h | h
    · rcases List.mem_append.mp h with h | h <;> exact .inl (hc h)
    · exact .inl (hc h)
  · split at h
    · rcases List.mem_append.mp h with h | h
      · rcases List.mem_cons.mp h with h | h
        · exact .inl ⟨_, h⟩
        · split at h
          · exact .inr (.inl (List.mem_singleton.mp h))
          · exact absurd h List.not_mem_nil
      · exact .inr (.inr ⟨_, _, List.mem_singleton.mp h⟩)
    · exact absurd h List.not_mem_nil

theorem clear_lock (l : LockCtl) : (clear l).lock = if l.faults.stuck then
    LockCtl.rederived { l with faults := l.otherFaultsCleared } else { l with faults := l.otherFaultsCleared } := by
  rw [clear_eq, clearStuck_eq]
  show (if l.faults.stuck then _ else _ : LockStep).lock = _
  split <;> rfl

theorem mem_clear_other {l : LockCtl} {n : LockNotice} (h : n ∈ l.otherFaultNotices) : n ∈ (clear l).notices := by
  rw [clear_eq]
  exact List.mem_append_left _ h

theorem mem_clear_stuck {l : LockCtl} {n : LockNotice} (hs : l.faults.stuck = true)
    (h : n = .cleared .stuck ∨ n = .changed l.state (clear l).lock.state
      ∨ n = .raised .stuck ∧ (clear l).lock.faults.stuck = true) : n ∈ (clear l).notices := by
  rw [clear_lock, if_pos hs] at h
  rw [clear_eq, clearStuck_eq, if_pos (show ({ l with faults := l.otherFaultsCleared } : LockCtl).faults.stuck = true
    from hs)]
  refine List.mem_append_right _ ?_
  rcases h with rfl | rfl | ⟨rfl, hr⟩
  · exact List.mem_cons_self
  · exact List.mem_append_right _ (List.mem_singleton_self _)
  · rw [if_pos hr]
    exact List.mem_cons_of_mem _ (List.mem_cons_self)

end LockCtl

/-! ## Who clears what -/

/-- The owners of what CLEAR clears (R168). -/
inductive ClearOwner
  | measurement | drive | lock | fan | supervisor

/-- A fan watch that STALLED holds, with its fault (R157). -/
def StallKept (x y : Fan) : Prop := y.stall = x.stall ∧ (x.watch = .stalled → y.watch = .stalled)

/-- What an owner has to clear is as it was. -/
def ClearOwner.Kept (s t : State) : ClearOwner → Prop
  | .measurement => t.channels = s.channels
  | .drive => t.drive.elementOpen = s.drive.elementOpen ∧ ∀ r, (t.relay r).health = (s.relay r).health
  | .lock => t.locks = s.locks
  | .fan => StallKept s.fan t.fan
  | .supervisor => t.sup.overheat = s.sup.overheat ∧ t.sup.runaway = s.sup.runaway

/-- What no part of CLEAR changes, beside the records that join the outbox. -/
structure ClearFrame (s t : State) : Prop where
  tables : t.tables = s.tables
  tableLocks : t.tableLocks = s.tableLocks
  engines : t.engines = s.engines
  pending : t.pending = s.pending
  link : t.link = s.link
  elementWelded : t.drive.elementWelded = s.drive.elementWelded
  masterWelded : t.drive.masterWelded = s.drive.masterWelded
  trip : t.sup.trip = s.sup.trip
  outbox : s.events.outbox <+: t.events.outbox

/-- A part of CLEAR at one owner: what the others have to clear stays. -/
structure ClearStep (o : ClearOwner) (s t : State) : Prop extends ClearFrame s t where
  others : ∀ p, p ≠ o → p.Kept s t

theorem ClearFrame.trans {s t u : State} (h : ClearFrame s t) (k : ClearFrame t u) : ClearFrame s u where
  tables := k.tables.trans h.tables
  tableLocks := k.tableLocks.trans h.tableLocks
  engines := k.engines.trans h.engines
  pending := k.pending.trans h.pending
  link := k.link.trans h.link
  elementWelded := k.elementWelded.trans h.elementWelded
  masterWelded := k.masterWelded.trans h.masterWelded
  trip := k.trip.trans h.trip
  outbox := h.outbox.trans k.outbox

theorem ClearFrame.idle {s t : State} (h : ClearFrame s t) (hs : s.bothIdle = true) : t.bothIdle = true := by
  unfold State.bothIdle State.engine
  rw [h.engines]
  exact hs

theorem Fan.Forms.stallKept {front : Nat} {x y : Fan} (h : Fan.Forms front x y) : StallKept x y := by
  refine ⟨h.stall, fun hw => ?_⟩
  obtain ⟨d, k, rfl⟩ := h
  unfold Fan.relevel
  dsimp only
  split
  · simp [Fan.riseFromZero, hw]
  · split
    · simp [Fan.fallToZero, hw]
    · exact hw

theorem Fan.FormsAll.stallKept {front : Nat} {x y : Fan} (h : Fan.FormsAll front x y) : StallKept x y :=
  ⟨h.stall, fun hw => h.keeps (P := fun z => z.watch = .stalled) (fun _ _ k => k.stallKept.2) hw⟩

namespace ClearOwner

variable {s t u : State} {p : ClearOwner}

theorem Kept.trans (h : p.Kept s t) (k : p.Kept t u) : p.Kept s u := by
  cases p with
  | measurement => exact Eq.trans k h
  | drive => exact ⟨k.1.trans h.1, fun r => (k.2 r).trans (h.2 r)⟩
  | lock => exact Eq.trans k h
  | fan => exact ⟨k.1.trans h.1, fun x => k.2 (h.2 x)⟩
  | supervisor => exact ⟨k.1.trans h.1, k.2.trans h.2⟩

theorem Kept.of_rereads (h : Rereads s t) : p.Kept s t := by
  cases p with
  | measurement => exact h.channels
  | drive => exact ⟨by rw [h.drive], h.health⟩
  | lock => exact h.locks
  | fan => exact h.fan.stallKept
  | supervisor => exact ⟨by rw [h.sup], by rw [h.sup]⟩

end ClearOwner

namespace ClearStep

variable {o : ClearOwner} {s t u : State}

theorem trans (h : ClearStep o s t) (k : ClearStep o t u) : ClearStep o s u where
  toClearFrame := h.toClearFrame.trans k.toClearFrame
  others p hp := (h.others p hp).trans (k.others p hp)

theorem of_rereads (h : Rereads s t) (q : s.events.outbox <+: t.events.outbox) : ClearStep o s t where
  others _ _ := .of_rereads h
  tables := h.tables
  tableLocks := h.tableLocks
  engines := h.engines
  pending := h.pending
  link := h.link
  elementWelded := by rw [h.drive]
  masterWelded := by rw [h.drive]
  trip := by rw [h.sup]
  outbox := q

theorem of_settles (h : Settles s t) : ClearStep o s t :=
  of_rereads (.ofSettles h) (by rw [h.events])

theorem refl (s : State) : ClearStep o s s := of_settles (.refl s)

theorem post (b : Block) (x : EventBody) (s : State) : ClearStep o s (s.post b x) :=
  of_rereads (.ofBackground (.post ..)) (List.prefix_append _ _)

end ClearStep

namespace State

/-- An engine in IDLE has nothing to judge (R91). -/
theorem judge_idle {c : Cavity} {s : State} (h : (s.engine c).state = .idle) (k : Causes) : judge c k s = s := by
  unfold judge
  rw [h]

theorem idle_of_bothIdle {s : State} (h : s.bothIdle = true) (c : Cavity) : (s.engine c).state = .idle := by
  simp only [bothIdle, Bool.and_eq_true, decide_eq_true_eq] at h
  cases c
  · exact h.1
  · exact h.2

/-- The readers of a channel back in WARMUP, both engines in IDLE. -/
theorem reader_of_cleared {ch : Channel} {s : State} (hi : s.bothIdle = true) (hc : s.channel ch = .reset)
    {r : Reader} (hr : r ∈ readersOf ch) : Rereads s (readerActs ⟨ch, .failed, false⟩ r s) := by
  have hm : markMeasured ch s = s := if_pos (by rw [hc]; rfl)
  cases ch with
  | cav c =>
    have hv : s.isValid (.cav c) = false := by
      unfold isValid
      rw [hc]
      rfl
    cases r with
    | bandTable => exact (bandReads_not_valid hv .failed).1
    | engine =>
      show Rereads s (judge c {} s)
      rw [judge_idle (idle_of_bothIdle hi c)]
      exact .refl s
    | supervisor =>
      show Rereads s (supReadsF c false (markMeasured (.cav c) s))
      rw [hm]
      unfold supReadsF
      split <;> exact .refl s
    | allocator => exact .refl s
    | fan => exact .refl s
  | cat c =>
    cases r with
    | allocator => exact .ofSettles (.review s)
    | engine =>
      show Rereads s (judge c _ s)
      rw [judge_idle (idle_of_bothIdle hi c)]
      exact .refl s
    | supervisor =>
      show Rereads s (markMeasured (.cat c) s)
      rw [hm]
      exact .refl s
    | bandTable => exact .refl s
    | fan => exact .refl s
  | front =>
    cases r with
    | fan =>
      have hf : fanReadsFront false s = s.fanSync := by
        unfold fanReadsFront
        split <;> rfl
      show Rereads s (fanReadsFront false s)
      rw [hf]
      exact .ofSettles (.fanSync s)
    | supervisor =>
      have hn : ¬ (s.isFailed .front = true ∧ ChannelState.failed ≠ .failed) := fun h => h.2 rfl
      show Rereads s (supReadsFront .failed (markMeasured .front s))
      rw [hm, supReadsFront, if_neg hn]
      exact .ofBackground (.recompute s)
    | bandTable => exact .refl s
    | engine => exact .refl s
    | allocator => exact .refl s

theorem channelKnown_cleared {ch : Channel} {s : State} (hi : s.bothIdle = true) (hc : s.channel ch = .reset) :
    Rereads s (channelKnown ⟨ch, .failed, false⟩ s) := by
  refine (forEach_rel (P := fun s => s.bothIdle = true ∧ s.channel ch = .reset) .refl .trans _ _
    (fun r hr t ht => ?_) s ⟨hi, hc⟩).1
  have h := reader_of_cleared ht.1 ht.2 ((arrange_perm _ _).mem_iff.mp hr)
  refine ⟨h, ?_, ?_⟩
  · unfold bothIdle engine
    rw [h.engines]
    exact ht.1
  · unfold channel
    rw [h.channels]
    exact ht.2

/-- Nothing that CLEAR leaves alone is in a channel entry or a rate history. -/
theorem entryWritten_clearStep (ch : Channel) (new : ChannelEntry) (s : State) :
    ClearStep .measurement s (entryWritten ch new s) where
  others p hp := by
    cases p with
    | measurement => exact absurd rfl hp
    | drive => exact ⟨by simp, fun r => by simp [relay]⟩
    | lock => simp [ClearOwner.Kept]
    | fan => exact ⟨by simp, by simp⟩
    | supervisor => exact ⟨by simp, by simp⟩
  tables := by simp
  tableLocks := by simp
  engines := by simp
  pending := by simp
  link := by simp
  elementWelded := by simp
  masterWelded := by simp
  trip := by simp
  outbox := by simp

theorem postChannelCleared_step (ch : Channel) (e : ChannelEntry) (s : State) :
    ClearStep .measurement s (postChannelCleared ch e s) ∧ (postChannelCleared ch e s).channels = s.channels := by
  unfold postChannelCleared
  split
  · exact ⟨.post .., rfl⟩
  · exact ⟨.refl s, rfl⟩

/-- CLEAR of one channel (R15). -/
theorem clearChannel_step (ch : Channel) {s : State} (hi : s.bothIdle = true) :
    ClearStep .measurement s (clearChannel ch s)
      ∧ (clearChannel ch s).channels = s.channels.set ch
          (if (s.channel ch).state = .failed then .reset else s.channel ch) := by
  unfold clearChannel
  dsimp only
  by_cases hf : (s.channel ch).state = .failed
  case neg =>
    rw [if_neg hf, if_neg hf]
    exact ⟨.refl s, (PerChannel.set_get ..).symm⟩
  rw [if_pos hf, if_pos hf]
  obtain ⟨hp, hpc⟩ := postChannelCleared_step ch (s.channel ch) s
  generalize hu : postChannelCleared ch (s.channel ch) s = u at hp hpc
  have hf' : (u.channel ch).state = .failed := by rw [channel, hpc]; exact hf
  have hw := entryWritten_clearStep ch .reset u
  rw [takeEntry_channels, hpc]
  refine ⟨?_, rfl⟩
  rw [takeEntry_eq, hf', if_pos (.inr (by decide))]
  exact hp.trans (hw.trans (.of_rereads (channelKnown_cleared (hw.idle (hp.idle hi)) (by simp [channel]))
    (Quiet.channelKnown ..).outbox))

/-- FAULT_CLEARED of a failed channel is on its way (R168). -/
theorem clearChannel_posted {ch : Channel} {s : State} {cause : FailCause} (hf : (s.channel ch).state = .failed)
    (hc : (s.channel ch).cause = some cause) : (clearChannel ch s).Posted
      (.faultCleared (channelCavity ch) (failCode cause) (some (.channel ch))) := by
  unfold clearChannel
  dsimp only
  rw [if_pos hf]
  refine Posted.quiet (s := entryWritten ch .reset (postChannelCleared ch (s.channel ch) s)) ?_ (takeEntry_written ..)
  refine Posted.mono (s := postChannelCleared ch (s.channel ch) s) ?_ (by simp)
  unfold postChannelCleared
  rw [hc]
  exact posted_post ..

/-- CLEAR of one element (R145). -/
theorem openToOk_step (r : Relay) (s : State) : ClearStep .drive s (openToOk r s)
    ∧ (openToOk r s).drive.elementOpen = s.drive.elementOpen
    ∧ ((openToOk r s).relay r).health = (if (s.relay r).health = .stuckOpen then .ok else (s.relay r).health)
    ∧ ∀ q, q ≠ r → (openToOk r s).relay q = s.relay q := by
  unfold openToOk
  split
  · refine ⟨⟨⟨rfl, rfl, rfl, rfl, rfl, rfl, rfl, rfl, List.prefix_refl _⟩, fun p hp => ?_⟩, rfl,
      by simp [relay, setRelay], fun q hq => by simp [relay, setRelay, hq]⟩
    cases p with
    | drive => exact absurd rfl hp
    | fan => exact ⟨rfl, id⟩
    | supervisor => exact ⟨rfl, rfl⟩
    | measurement => exact rfl
    | lock => exact rfl
  · exact ⟨.refl s, rfl, rfl, fun _ _ => rfl⟩

theorem unlatchOpen_step (e : Element) (s : State) : ClearStep .drive s (unlatchOpen e s)
    ∧ (unlatchOpen e s).drive.elementOpen = s.drive.elementOpen.set e false
    ∧ ∀ q, (unlatchOpen e s).relay q = s.relay q := by
  refine ⟨⟨⟨rfl, rfl, rfl, rfl, rfl, rfl, rfl, rfl, List.prefix_append _ _⟩, fun p hp => ?_⟩, rfl, fun _ => rfl⟩
  cases p with
  | drive => exact absurd rfl hp
  | fan => exact ⟨rfl, id⟩
  | supervisor => exact ⟨rfl, rfl⟩
  | measurement => exact rfl
  | lock => exact rfl

end State

end Sys2Proof.Machine
end

section
/-!
PROOFS. Obligation O46, assembled: CLEAR at every owner in turn.
-/

namespace Sys2Proof.Machine

open Sys2Proof State

/-- One write to each name of a list, where a second write to a name changes nothing. -/
theorem forEach_writes {α β : Type} [DecidableEq α] {P : State → Prop} (read : State → α → β) (w : β → β)
    (again : ∀ b, w (w b) = w b) (op : α → State → State)
    (h : ∀ x s, P s → P (op x s) ∧ ∀ y, read (op x s) y = if y = x then w (read s y) else read s y)
    (l : List α) (y : α) (s : State) (hs : P s) :
    read (forEach l op s) y = if y ∈ l then w (read s y) else read s y := by
  induction l generalizing s with
  | nil => simp [forEach]
  | cons x xs ih =>
    obtain ⟨hp, hr⟩ := h x s hs
    refine (ih (op x s) hp).trans ?_
    rw [hr y]
    by_cases hy : y = x
    · simp [hy, again]
    · simp [hy]

/-- What an operation for one name of a list brings about, where the others leave its condition or the outcome alone. -/
theorem forEach_reaches {α : Type} {Q T : State → Prop} (op : α → State → State) (y : α)
    (hy : ∀ s, Q s → T (op y s)) (hq : ∀ x s, x ≠ y → Q s → Q (op x s)) (ht : ∀ x s, T s → T (op x s))
    {l : List α} (hm : y ∈ l) (s : State) (hs : Q s) : T (forEach l op s) := by
  have keep : ∀ (l : List α) (s : State), T s → T (forEach l op s) := by
    intro l
    induction l with
    | nil => exact fun _ h => h
    | cons x xs ih => exact fun s h => ih _ (ht x s h)
  induction l generalizing s with
  | nil => exact absurd hm List.not_mem_nil
  | cons x xs ih =>
    by_cases hx : x = y
    · exact keep xs _ (hx ▸ hy s hs)
    · exact ih ((List.mem_cons.mp hm).resolve_left fun e => hx e.symm) _ (hq x s hx hs)

namespace ClearStep

/-- A part of CLEAR for each name of a list. -/
theorem forEach {α : Type} {o : ClearOwner} (l : List α) (op : α → State → State)
    (h : ∀ x s, s.bothIdle = true → ClearStep o s (op x s)) (s : State) (hs : s.bothIdle = true) :
    ClearStep o s (Machine.forEach l op s) :=
  (forEach_rel (P := fun s => s.bothIdle = true) .refl .trans l op
    (fun x _ t ht => ⟨h x t ht, (h x t ht).idle ht⟩) s hs).1

end ClearStep

namespace State

/-! ## The channels -/

/-- A channel's entry as CLEAR leaves it (R15). -/
def clearedEntry (e : ChannelEntry) : ChannelEntry := if e.state = .failed then .reset else e

theorem clearedEntry_again (e : ChannelEntry) : clearedEntry (clearedEntry e) = clearedEntry e := by
  unfold clearedEntry
  split <;> rfl

theorem clearChannel_channel (ch : Channel) {s : State} (hi : s.bothIdle = true) (y : Channel) :
    (clearChannel ch s).channel y = if y = ch then clearedEntry (s.channel y) else s.channel y := by
  unfold channel
  rw [(clearChannel_step ch hi).2]
  by_cases h : y = ch
  · subst h
    exact (PerChannel.get_set_same ..).trans (if_pos rfl).symm
  · simp [h]

theorem clearChannels_step {s : State} (hi : s.bothIdle = true) :
    ClearStep .measurement s (forEach allChannels clearChannel s)
      ∧ ∀ ch, (forEach allChannels clearChannel s).channel ch = clearedEntry (s.channel ch) := by
  refine ⟨.forEach _ _ (fun ch _ h => (clearChannel_step ch h).1) s hi, fun ch => ?_⟩
  rw [forEach_writes (P := fun s => s.bothIdle = true) channel clearedEntry clearedEntry_again clearChannel
    (fun ch s h => ⟨(clearChannel_step ch h).1.idle h, clearChannel_channel ch h⟩) allChannels ch s hi,
    if_pos (mem_allChannels ch)]

theorem clearChannels_posted {s : State} (hi : s.bothIdle = true) {ch : Channel} {cause : FailCause}
    (hf : (s.channel ch).state = .failed) (hc : (s.channel ch).cause = some cause) :
    (forEach allChannels clearChannel s).Posted
      (.faultCleared (channelCavity ch) (failCode cause) (some (.channel ch))) := by
  refine (forEach_reaches (Q := fun t => t.bothIdle = true ∧ t.channel ch = s.channel ch)
    (T := fun t => t.bothIdle = true ∧ t.Posted _) clearChannel ch
    (fun t ⟨hi, ht⟩ => ⟨(clearChannel_step ch hi).1.idle hi, clearChannel_posted (ht ▸ hf) (ht ▸ hc)⟩)
    (fun x t hx ⟨hi, ht⟩ => ⟨(clearChannel_step x hi).1.idle hi, ?_⟩)
    (fun x t ⟨hi, hp⟩ => ⟨(clearChannel_step x hi).1.idle hi, hp.mono (clearChannel_step x hi).1.outbox⟩)
    (mem_allChannels ch) s ⟨hi, rfl⟩).2
  rw [clearChannel_channel x hi, if_neg hx.symm, ht]

/-! ## The elements -/

/-- The latch and the health of an element as CLEAR leaves them (R145). -/
def clearedElement (x : Bool × Health) : Bool × Health :=
  (false, if x.1 = true ∧ x.2 = .stuckOpen then .ok else x.2)

/-- What the Element Drive has latched of an element, and its health. -/
def elementPart (s : State) (e : Element) : Bool × Health :=
  (s.drive.elementOpen.get e, (s.relay (.element e)).health)

theorem clearElement_step (e : Element) (s : State) : ClearStep .drive s (clearElement e s)
    ∧ (∀ y, (clearElement e s).elementPart y = if y = e then clearedElement (s.elementPart y) else s.elementPart y)
    ∧ (clearElement e s).relay .master = s.relay .master := by
  unfold clearElement
  split
  · next h =>
    obtain ⟨hu, hopen, hrelay⟩ := unlatchOpen_step e s
    obtain ⟨ho, hopen', hsame, hother⟩ := openToOk_step (.element e) (unlatchOpen e s)
    refine ⟨hu.trans ho, fun y => ?_, by rw [hother .master nofun, hrelay]⟩
    by_cases hy : y = e
    · subst hy
      simp [elementPart, hopen', hopen, hsame, hrelay, clearedElement, h]
    · have hne : Relay.element y ≠ .element e := fun k => hy (Relay.element.inj k)
      simp [elementPart, hopen', hopen, hother _ hne, hrelay, hy]
  · next h =>
    refine ⟨.refl s, fun y => ?_, rfl⟩
    split
    · next hy =>
      subst hy
      simp [elementPart, clearedElement, h]
    · rfl

theorem clearElement_posted {e : Element} {s : State} (h : s.drive.elementOpen.get e = true) :
    (clearElement e s).Posted (.faultCleared (some e.cavity) .elementOpen (some (.element e))) := by
  unfold clearElement
  rw [if_pos h]
  exact (posted_post ..).mono (openToOk_step (.element e) (unlatchOpen e s)).1.outbox

theorem clearDrive_step {s : State} (hi : s.bothIdle = true) : ClearStep .drive s s.clearDrive
    ∧ (∀ e, s.clearDrive.elementPart e = clearedElement (s.elementPart e))
    ∧ (s.clearDrive.relay .master).health
        = (if (s.relay .master).health = .stuckOpen then .ok else (s.relay .master).health) := by
  have hs := ClearStep.forEach (o := .drive) allElements clearElement (fun e s _ => (clearElement_step e s).1) s hi
  have hw := fun e => forEach_writes (P := fun _ => True) elementPart clearedElement (fun _ => by simp [clearedElement])
    clearElement (fun e s _ => ⟨trivial, (clearElement_step e s).2.1⟩) allElements e s trivial
  have hm := (forEach_rel (P := fun _ => True) (R := fun s t => t.relay .master = s.relay .master) (fun _ => rfl)
    (fun h k => Eq.trans k h) allElements clearElement (fun e _ s _ => ⟨(clearElement_step e s).2.2, trivial⟩) s
    trivial).1
  obtain ⟨ho, hopen, hsame, hother⟩ := openToOk_step .master (forEach allElements clearElement s)
  refine ⟨hs.trans ho, fun e => ?_, ?_⟩
  · have he : (openToOk .master (forEach allElements clearElement s)).elementPart e
        = (forEach allElements clearElement s).elementPart e := by
      simp [elementPart, hopen, hother (.element e) nofun]
    exact he.trans ((hw e).trans (if_pos (mem_allElements e)))
  · exact hsame.trans (by rw [hm])

theorem clearDrive_posted {e : Element} {s : State} (h : s.drive.elementOpen.get e = true) :
    s.clearDrive.Posted (.faultCleared (some e.cavity) .elementOpen (some (.element e))) := by
  refine Posted.mono ?_ (openToOk_step .master (forEach allElements clearElement s)).1.outbox
  refine forEach_reaches (Q := fun t => t.drive.elementOpen.get e = true) (T := Posted _) clearElement e
    (fun t ht => clearElement_posted ht) (fun x t hx ht => ?_)
    (fun x t hp => hp.mono (clearElement_step x t).1.outbox) (mem_allElements e) s h
  have hx' := congrArg Prod.fst ((clearElement_step x t).2.1 e)
  rw [if_neg hx.symm] at hx'
  exact hx'.trans ht

/-! ## The locks -/

/-- What CLEAR makes known of a lock reaches an engine in IDLE without effect (R66). -/
theorem clearLock_eq {c : Cavity} {s : State} (hi : s.bothIdle = true) :
    clearLock c s = (s.applyLock c (LockCtl.clear (s.lock c))).review := by
  refine forEach_id _ _ _ fun n hn => ?_
  have he : (((s.applyLock c (LockCtl.clear (s.lock c))).review).engine c).state = .idle := by
    rw [engine_review, engine_applyLock]
    exact idle_of_bothIdle hi c
  rcases LockCtl.clear_notices hn with ⟨f, rfl⟩ | rfl | ⟨a, b, rfl⟩
  · rfl
  · rfl
  · show onLockChanged c a b _ = _
    unfold onLockChanged
    rw [he]

theorem clearLock_step (c : Cavity) {s : State} (hi : s.bothIdle = true) : ClearStep .lock s (clearLock c s)
    ∧ (clearLock c s).lock c = (LockCtl.clear (s.lock c)).lock
    ∧ ∀ d, d ≠ c → (clearLock c s).lock d = s.lock d := by
  rw [clearLock_eq hi]
  refine ⟨.trans (t := s.applyLock c (LockCtl.clear (s.lock c))) ?_ (.of_settles (.review _)), by simp,
    fun d hd => by simp [hd]⟩
  have ho : s.events.outbox <+: (s.applyLock c (LockCtl.clear (s.lock c))).events.outbox := (Quiet.applyLock ..).outbox
  obtain ⟨y, hy⟩ := applyLock_rest c (LockCtl.clear (s.lock c)) s
  rw [hy] at ho ⊢
  refine ⟨⟨rfl, rfl, rfl, rfl, rfl, rfl, rfl, rfl, ho⟩, fun p hp => ?_⟩
  cases p with
  | lock => exact absurd rfl hp
  | fan => exact ⟨rfl, id⟩
  | supervisor => exact ⟨rfl, rfl⟩
  | measurement => exact rfl
  | drive => exact ⟨rfl, fun _ => rfl⟩

theorem clearLock_posted {c : Cavity} {s : State} (hi : s.bothIdle = true) {n : LockNotice} {body : EventBody}
    (hn : n ∈ (LockCtl.clear (s.lock c)).notices) (hb : noticeRecord c n = some body) :
    (clearLock c s).Posted body := by
  rw [clearLock_eq hi]
  exact (applyLock_posted hn hb s).quiet (.review _)

theorem clearLocks_step {s : State} (hi : s.bothIdle = true) : ClearStep .lock s (forEach cavities clearLock s)
    ∧ ∀ c, (forEach cavities clearLock s).lock c = (LockCtl.clear (s.lock c)).lock := by
  obtain ⟨ha, haa, hab⟩ := clearLock_step .a hi
  obtain ⟨hb, hbb, hba⟩ := clearLock_step .b (ha.idle hi)
  refine ⟨ha.trans hb, fun c => ?_⟩
  cases c with
  | a => exact (hba .a nofun).trans haa
  | b => exact hbb.trans (by rw [hab .b nofun])

theorem clearLocks_posted {c : Cavity} {s : State} (hi : s.bothIdle = true) {n : LockNotice} {body : EventBody}
    (hn : n ∈ (LockCtl.clear (s.lock c)).notices) (hb : noticeRecord c n = some body) :
    (forEach cavities clearLock s).Posted body := by
  obtain ⟨ha, -, hab⟩ := clearLock_step .a hi
  have hstep := (clearLock_step .b (ha.idle hi)).1
  cases c with
  | a => exact (clearLock_posted hi hn hb).mono hstep.outbox
  | b => exact clearLock_posted (ha.idle hi) (by rw [hab .b nofun]; exact hn) hb

/-! ## The fan and the Supervisor -/

theorem judgeExpected_fan (r : Relay) (s : State) : (judgeExpected r s).fan = s.fan := by
  unfold judgeExpected
  dsimp only
  split
  · rfl
  · split <;> rfl

theorem withdraw_fan (e : Element) (s : State) : (s.withdraw e).fan = s.fan := by
  unfold withdraw
  split
  · rfl
  · dsimp only
    split
    · exact judgeExpected_fan ..
    · rfl

theorem review_fan (s : State) : s.review.fan = s.fan :=
  (forEach_rel (P := fun _ => True) (R := fun s t => t.fan = s.fan) (fun _ => rfl) (fun h k => Eq.trans k h) _ _
    (fun e _ s _ => ⟨by unfold reviewElement; split; exacts [rfl, withdraw_fan e s], trivial⟩) s trivial).1

theorem judgeAllExpected_fan (s : State) : s.judgeAllExpected.fan = s.fan :=
  (forEach_rel (P := fun _ => True) (R := fun s t => t.fan = s.fan) (fun _ => rfl) (fun h k => Eq.trans k h) _ _
    (fun r _ s _ => ⟨judgeExpected_fan r s, trivial⟩) s trivial).1

/-- Drive enable and heat inhibit are no matter of the fan (R162, R163). -/
theorem recompute_fan (s : State) : s.recompute.fan = s.fan := by
  unfold recompute recomputeInhibit recomputeEnable
  rw [review_fan]
  exact judgeAllExpected_fan _

theorem clearFan_step (s : State) : ClearStep .fan s s.clearFan
    ∧ s.clearFan.fan = if s.fan.stall then s.fan.clearStall else s.fan := by
  unfold clearFan
  split
  · refine ⟨⟨⟨rfl, rfl, rfl, rfl, rfl, rfl, rfl, rfl, List.prefix_append _ _⟩, fun p hp => ?_⟩, rfl⟩
    cases p with
    | fan => exact absurd rfl hp
    | lock => exact rfl
    | supervisor => exact ⟨rfl, rfl⟩
    | measurement => exact rfl
    | drive => exact ⟨rfl, fun _ => rfl⟩
  · exact ⟨.refl s, rfl⟩

/-- A write of RUNAWAY or OVERHEAT, with its record (R164, R165). -/
theorem supervisor_step (x : Sup) (body : EventBody) (s : State) (h : x.trip = s.sup.trip) :
    ClearStep .supervisor s (post .supervisor body (s.setSup x)) where
  tables := rfl
  tableLocks := rfl
  engines := rfl
  pending := rfl
  link := rfl
  elementWelded := rfl
  masterWelded := rfl
  trip := h
  outbox := List.prefix_append _ _
  others p hp := by
    cases p with
    | supervisor => exact absurd rfl hp
    | lock => exact rfl
    | fan => exact ⟨rfl, id⟩
    | measurement => exact rfl
    | drive => exact ⟨rfl, fun _ => rfl⟩

theorem clearRunaway_step (c : Cavity) (s : State) : ClearStep .supervisor s (clearRunaway c s)
    ∧ (clearRunaway c s).sup.runaway = s.sup.runaway.set c false
    ∧ (clearRunaway c s).sup.overheat = s.sup.overheat ∧ (clearRunaway c s).fan = s.fan := by
  unfold clearRunaway
  split
  · exact ⟨supervisor_step _ _ s rfl, rfl, rfl, rfl⟩
  · next h =>
    have hf : s.sup.runaway.get c = false := Bool.eq_false_iff.mpr h
    exact ⟨.refl s, by rw [← hf, PerCavity.set_get], rfl, rfl⟩

theorem clearRunaway_posted {c : Cavity} {s : State} (h : s.sup.runaway.get c = true) :
    (clearRunaway c s).Posted (.faultCleared (some c) .runaway none) := by
  unfold clearRunaway
  rw [if_pos h]
  exact posted_post ..

theorem clearOverheat_step (c : Cavity) (s : State) : ClearStep .supervisor s (clearOverheat c s)
    ∧ (clearOverheat c s).sup.overheat = s.sup.overheat.set c (s.sup.overheat.get c && !s.cooledDown c)
    ∧ (clearOverheat c s).sup.runaway = s.sup.runaway ∧ (clearOverheat c s).fan = s.fan := by
  unfold clearOverheat
  split
  · next h =>
    refine ⟨supervisor_step _ _ s rfl, ?_, rfl, rfl⟩
    have hb : (s.sup.overheat.get c && !s.cooledDown c) = false := by
      simp [(Bool.and_eq_true_iff.mp h).2]
    rw [hb]
    rfl
  · next h =>
    have hb : (s.sup.overheat.get c && !s.cooledDown c) = s.sup.overheat.get c := by
      cases ho : s.sup.overheat.get c <;> simp_all
    exact ⟨.refl s, by rw [hb, PerCavity.set_get], rfl, rfl⟩

theorem clearOverheat_posted {c : Cavity} {s : State} (h : s.sup.overheat.get c = true) (hd : s.cooledDown c = true) :
    (clearOverheat c s).Posted (.faultCleared (some c) .overheat none) := by
  unfold clearOverheat
  rw [if_pos (by simp [h, hd])]
  exact posted_post ..

theorem cooledDown_iff {s : State} {c : Cavity} :
    s.cooledDown c = true ↔ s.isValid (.cav c) = true ∧ ∃ f, s.f (.cav c) = some f ∧ f < 5500 := by
  unfold cooledDown
  cases s.f (.cav c) <;> simp

end State
end Sys2Proof.Machine
end

section
/-!
PROOFS. Obligation O46: the whole of CLEAR, its records at the close and its reply.
-/

namespace Sys2Proof.Machine

open Sys2Proof State

/-- What CLEAR leaves at every owner, and the records that it has posted. -/
structure AllCleared (s t : State) : Prop extends ClearFrame s t where
  channel : ∀ ch, t.channel ch = clearedEntry (s.channel ch)
  element : ∀ e, t.elementPart e = clearedElement (s.elementPart e)
  master : (t.relay .master).health
    = if (s.relay .master).health = .stuckOpen then .ok else (s.relay .master).health
  lock : ∀ c, t.lock c = (LockCtl.clear (s.lock c)).lock
  stall : t.fan.stall = false
  watch : s.fan.stall = true → s.fan.watch = .stalled →
    t.fan.watch = (if t.fan.level = 0 then .off else .grace)
      ∧ t.fan.grace = (if t.fan.level = 0 then none else some 0)
  runaway : ∀ c, t.sup.runaway.get c = false
  overheat : ∀ c, t.sup.overheat.get c = (s.sup.overheat.get c && !s.cooledDown c)
  channelPosted : ∀ ch cause, (s.channel ch).state = .failed → (s.channel ch).cause = some cause →
    t.Posted (.faultCleared (channelCavity ch) (failCode cause) (some (.channel ch)))
  elementPosted : ∀ e, s.drive.elementOpen.get e = true →
    t.Posted (.faultCleared (some e.cavity) .elementOpen (some (.element e)))
  lockPosted : ∀ c n body, n ∈ (LockCtl.clear (s.lock c)).notices → noticeRecord c n = some body → t.Posted body
  stallPosted : s.fan.stall = true → t.Posted (.faultCleared none .fanStall none)
  runawayPosted : ∀ c, s.sup.runaway.get c = true → t.Posted (.faultCleared (some c) .runaway none)
  overheatPosted : ∀ c, s.sup.overheat.get c = true → s.cooledDown c = true →
    t.Posted (.faultCleared (some c) .overheat none)

/-- The watch after the stall is cleared (R158). -/
theorem Fan.clearStall_watch (x : Fan) (h : x.watch = .stalled) :
    x.clearStall.watch = (if x.clearStall.level = 0 then .off else .grace)
      ∧ x.clearStall.grace = (if x.clearStall.level = 0 then none else some 0) := by
  unfold Fan.clearStall
  rw [h]
  by_cases hl : x.level = 0 <;> simp [hl]

theorem Fan.clearStall_stall (x : Fan) : x.clearStall.stall = false := by
  unfold Fan.clearStall
  split
  · split <;> rfl
  · rfl

namespace State

/-- RUNAWAY and OVERHEAT at both cavities, and the outputs after them (R162 to R165). -/
structure SupervisorCleared (s t : State) : Prop extends ClearStep .supervisor s t where
  fan : t.fan = s.fan
  runaway : ∀ c, t.sup.runaway.get c = false
  overheat : ∀ c, t.sup.overheat.get c = (s.sup.overheat.get c && !s.cooledDown c)
  runawayPosted : ∀ c, s.sup.runaway.get c = true → t.Posted (.faultCleared (some c) .runaway none)
  overheatPosted : ∀ c, s.sup.overheat.get c = true → s.cooledDown c = true →
    t.Posted (.faultCleared (some c) .overheat none)

theorem cooledDown_congr {s t : State} {c : Cavity} (h : t.channel (.cav c) = clearedEntry (s.channel (.cav c))) :
    t.cooledDown c = s.cooledDown c := by
  have hv : t.isValid (.cav c) = s.isValid (.cav c) := by
    unfold isValid
    rw [h, clearedEntry]
    split
    · next hf => rw [hf]; rfl
    · rfl
  rw [Bool.eq_iff_iff, cooledDown_iff, cooledDown_iff, hv]
  refine and_congr_right fun hs => ?_
  have hf : ¬ (s.channel (.cav c)).state = .failed := fun k => by
    rw [isValid, k] at hs
    exact absurd hs nofun
  rw [f, h, clearedEntry, if_neg hf]
  rfl

theorem cooledDown_of_channels {s t : State} (h : t.channels = s.channels) (c : Cavity) :
    t.cooledDown c = s.cooledDown c := by
  unfold cooledDown f isValid channel
  rw [h]

theorem supervisor_cleared (s : State) : SupervisorCleared s
    (recompute (forEach cavities clearOverheat (forEach cavities clearRunaway s))) := by
  obtain ⟨ra, rar, rao, raf⟩ := clearRunaway_step .a s
  obtain ⟨rb, rbr, rbo, rbf⟩ := clearRunaway_step .b (clearRunaway .a s)
  show SupervisorCleared s (recompute (clearOverheat .b (clearOverheat .a (clearRunaway .b (clearRunaway .a s)))))
  obtain ⟨oa, oao, oar, oaf⟩ := clearOverheat_step .a (clearRunaway .b (clearRunaway .a s))
  obtain ⟨ob, obo, obr, obf⟩ := clearOverheat_step .b (clearOverheat .a (clearRunaway .b (clearRunaway .a s)))
  have hpa : ∀ {body}, (clearRunaway .a s).Posted body → (clearRunaway .b (clearRunaway .a s)).Posted body :=
    fun h => h.mono rb.outbox
  have hpr : ∀ {body}, (clearRunaway .b (clearRunaway .a s)).Posted body →
      (clearOverheat .b (clearOverheat .a (clearRunaway .b (clearRunaway .a s)))).Posted body :=
    fun h => h.mono (oa.outbox.trans ob.outbox)
  have hca : ∀ c, (clearRunaway .b (clearRunaway .a s)).cooledDown c = s.cooledDown c :=
    cooledDown_of_channels ((ra.trans rb).others .measurement nofun)
  have hcb : ∀ c, (clearOverheat .a (clearRunaway .b (clearRunaway .a s))).cooledDown c = s.cooledDown c :=
    fun c => (cooledDown_of_channels (oa.others .measurement nofun) c).trans (hca c)
  generalize hu : clearOverheat .b (clearOverheat .a (clearRunaway .b (clearRunaway .a s))) = u at *
  have hrec : ClearStep .supervisor u u.recompute :=
    .of_rereads (.ofBackground (.recompute u)) (Quiet.recompute u).outbox
  have hsup : u.recompute.sup.runaway = u.sup.runaway ∧ u.recompute.sup.overheat = u.sup.overheat := by
    rw [(Background.recompute u).sup]
    exact ⟨rfl, rfl⟩
  exact {
    toClearStep := (((ra.trans rb).trans oa).trans ob).trans hrec
    fan := (recompute_fan u).trans (obf.trans (oaf.trans (rbf.trans raf)))
    runaway := fun c => by
      rw [hsup.1, obr, oar, rbr, rar]
      cases c <;> rfl
    overheat := fun c => by
      rw [hsup.2, obo, hcb, oao, hca, rbo, rao]
      cases c <;> rfl
    runawayPosted := fun c h => by
      refine (hpr ?_).quiet (.recompute u)
      cases c with
      | a => exact hpa (clearRunaway_posted h)
      | b => exact clearRunaway_posted (by rw [rar]; exact h)
    overheatPosted := fun c h hd => by
      refine Posted.quiet ?_ (.recompute u)
      cases c with
      | a => exact (clearOverheat_posted (by rw [rbo, rao]; exact h) (by rw [hca]; exact hd)).mono ob.outbox
      | b => exact hu ▸ clearOverheat_posted (by rw [oao, rbo, rao]; exact h) (by rw [hcb]; exact hd) }

theorem clearAll_cleared {s : State} (hi : s.bothIdle = true) : AllCleared s s.clearAll := by
  obtain ⟨hc, hcv⟩ := clearChannels_step hi
  have hcp := fun {ch cause} => clearChannels_posted (s := s) hi (ch := ch) (cause := cause)
  unfold clearAll
  dsimp only
  generalize forEach allChannels clearChannel s = s1 at *
  obtain ⟨hd, hde, hdm⟩ := clearDrive_step (hc.idle hi)
  have hdp := fun {e} => clearDrive_posted (e := e) (s := s1)
  generalize s1.clearDrive = s2 at *
  have hcd := hc.toClearFrame.trans hd.toClearFrame
  obtain ⟨hl, hlv⟩ := clearLocks_step (hcd.idle hi)
  have hlp := fun {c n body} => clearLocks_posted (s := s2) (c := c) (n := n) (body := body) (hcd.idle hi)
  generalize forEach cavities clearLock s2 = s3 at *
  obtain ⟨hf, hfv⟩ := clearFan_step s3
  have hfp : s3.fan.stall = true → s3.clearFan.Posted (.faultCleared none .fanStall none) := fun h => by
    unfold clearFan
    rw [if_pos h]
    exact posted_post ..
  generalize s3.clearFan = s4 at *
  have hs := supervisor_cleared s4
  generalize recompute (forEach cavities clearOverheat (forEach cavities clearRunaway s4)) = s5 at *
  have hopen : s1.drive.elementOpen = s.drive.elementOpen ∧ ∀ r, (s1.relay r).health = (s.relay r).health :=
    hc.others .drive nofun
  have hlocks : s2.locks = s.locks := (hc.others .lock nofun).trans (hd.others .lock nofun)
  have hfan : StallKept s.fan s3.fan :=
    ((hc.others .fan nofun).trans (hd.others .fan nofun)).trans (hl.others .fan nofun)
  have hsup : s4.sup.overheat = s.sup.overheat ∧ s4.sup.runaway = s.sup.runaway :=
    (((hc.others .supervisor nofun).trans (hd.others .supervisor nofun)).trans (hl.others .supervisor nofun)).trans
      (hf.others .supervisor nofun)
  have hchan : s4.channels = s1.channels :=
    ((hd.others .measurement nofun).trans (hl.others .measurement nofun)).trans (hf.others .measurement nofun)
  have hcool : ∀ c, s4.cooledDown c = s.cooledDown c := fun c =>
    (cooledDown_of_channels hchan c).trans (cooledDown_congr (hcv _))
  have hdrive : s5.drive.elementOpen = s2.drive.elementOpen ∧ ∀ r, (s5.relay r).health = (s2.relay r).health :=
    ((hl.others .drive nofun).trans (hf.others .drive nofun)).trans (hs.others .drive nofun)
  have hlast := hf.toClearFrame.trans hs.toClearFrame
  exact {
    toClearFrame := (hcd.trans hl.toClearFrame).trans hlast
    channel := fun ch => by
      have h5 : s5.channels = s1.channels := Eq.trans (hs.others .measurement nofun) hchan
      rw [← hcv ch, State.channel, h5]
      rfl
    element := fun e => by
      have h1 : s1.elementPart e = s.elementPart e := by simp only [elementPart, hopen.1, hopen.2]
      rw [← h1, ← hde e]
      simp only [elementPart, hdrive.1, hdrive.2]
    master := by rw [hdrive.2, hdm, hopen.2]
    lock := fun c => by
      have h5 : s5.locks = s3.locks := Eq.trans (hs.others .lock nofun) (hf.others .lock nofun)
      have h2 : s2.lock c = s.lock c := by unfold lock; rw [hlocks]
      rw [← h2, ← hlv c, lock, h5]
      rfl
    stall := by
      rw [hs.fan, hfv]
      split
      · exact Fan.clearStall_stall _
      · next h => exact Bool.eq_false_iff.mpr h
    watch := fun h hw => by
      rw [hs.fan, hfv, if_pos (hfan.1.trans h)]
      exact Fan.clearStall_watch _ (hfan.2 hw)
    runaway := hs.runaway
    overheat := fun c => by rw [hs.overheat, hsup.1, hcool]
    channelPosted := fun ch cause h1 h2 =>
      (hcp h1 h2).mono (hd.outbox.trans (hl.outbox.trans hlast.outbox))
    elementPosted := fun e he => (hdp (by rw [hopen.1]; exact he)).mono (hl.outbox.trans hlast.outbox)
    lockPosted := fun c n body hn hb =>
      (hlp (by unfold lock; rw [hlocks]; exact hn) hb).mono hlast.outbox
    stallPosted := fun h => (hfp (hfan.1.trans h)).mono hs.outbox
    runawayPosted := fun c h => hs.runawayPosted c (by rw [hsup.2]; exact h)
    overheatPosted := fun c h hd => hs.overheatPosted c (by rw [hsup.1]; exact h) (by rw [hcool]; exact hd) }

/-- The reply DONE without a payload, after a request whose owner left the line alone (R176, R178, R179). -/
theorem repliedDone_close {s t : State} (h : t.link = s.endOfFrame.link) :
    s.repliedDone false [] (t.close.sendReply doneEmpty) := by
  have hl : t.close.link = { s.endOfFrame.link with eventsLost := t.close.link.eventsLost } := by
    rw [← h]
    conv_lhs => rw [close_rest]
  rw [endOfFrame_link] at hl
  generalize t.close = w at hl
  have hf : s.flagsOf (w.sendReply doneEmpty) = w.attentionFlags := by
    have hcol : s.collided = w.link.collisionSeen := by rw [hl]; rfl
    simp only [flagsOf, attentionFlags, hcol, sendReply, setLink, doneEmpty, Bool.not_false, Bool.and_true]
    rfl
  unfold repliedDone replied
  rw [hf]
  simp only [sendReply, setLink, doneEmpty, Bool.not_false, Bool.and_true]
  conv_lhs => rw [hl]

theorem reported_sendReply {body : EventBody} {s : State} (a : Answer) (ha : a.clearsLost = false)
    (h : s.reported body) : (s.sendReply a).reported body :=
  h.imp id fun hl => by simp [sendReply, setLink, ha, hl]

end State

namespace LockCtl

/-- The faults of a lock after CLEAR (R70). -/
theorem clear_faults (l : LockCtl) : (clear l).lock.faults =
    { l.otherFaultsCleared with
      stuck := l.faults.stuck
        && (decide (l.levels.latchSet = some true) && decide (l.levels.latchHome = some true)) } := by
  rw [clear_lock]
  cases h : l.faults.stuck <;> simp [rederived, otherFaultsCleared, h]

theorem clear_of_not_stuck {l : LockCtl} (h : l.faults.stuck = false) :
    (clear l).lock = { l with faults := (clear l).lock.faults } := by
  rw [clear_lock, h]
  rfl

theorem clear_of_stuck {l : LockCtl} (h : l.faults.stuck = true) :
    (clear l).lock = { l.rederived with faults := (clear l).lock.faults } := by
  rw [clear_lock, h]
  rfl

end LockCtl

/-- Settles O46: the clearing at each owner, seen through the close and the reply. -/
theorem clearClearsLatchedFaults : Obligations.ClearClearsLatchedFaults := by
  intro s hl hb
  have run : exec (.clear []) s = .next ((clearAnswer s.endOfFrame).1.close.sendReply (clearAnswer s.endOfFrame).2) :=
    congrArg Host.Outcome.next (serve_fields (f := ⟨[], false⟩) (lineDead_of_takes hl) rfl)
  refine ⟨fun hi => ?_, fun hi => ⟨_, run, ?_⟩⟩
  · have ha : clearAnswer s.endOfFrame = (s.endOfFrame, refuse .notIdle) :=
      if_neg (by rw [endOfFrame_bothIdle, hi]; exact nofun)
    rw [run, ha]
    exact congrArg Host.Outcome.next (endOfFrame_close_refuse _ _ hb)
  · have hi' : s.endOfFrame.bothIdle = true := endOfFrame_bothIdle.trans hi
    have ha : clearAnswer s.endOfFrame = (s.endOfFrame.clearAll, doneEmpty) := if_pos hi'
    rw [ha]
    have h := clearAll_cleared hi'
    generalize s.endOfFrame.clearAll = v at h
    have hreply := repliedDone_close h.link
    rw [endOfFrame_rest] at h
    have hp : ∀ {body}, v.Posted body → (v.close.sendReply doneEmpty).reported body := fun k =>
      reported_sendReply _ rfl k.close
    have hdrive : (v.close.sendReply doneEmpty).drive = v.drive := close_drive v
    have hfan : (v.close.sendReply doneEmpty).fan = v.fan := close_fan v
    have hsup : (v.close.sendReply doneEmpty).sup = v.sup := close_sup v
    have hlocks : (v.close.sendReply doneEmpty).locks = v.locks := close_locks v
    have hchan : (v.close.sendReply doneEmpty).channels = v.channels := close_channels v
    obtain ⟨htables, hengines, htableLocks, hpending⟩ : (v.close.sendReply doneEmpty).tables = v.tables
        ∧ (v.close.sendReply doneEmpty).engines = v.engines
        ∧ (v.close.sendReply doneEmpty).tableLocks = v.tableLocks
        ∧ (v.close.sendReply doneEmpty).pending = v.pending :=
      ⟨close_tables v, close_engines v, close_tableLocks v, close_pending v⟩
    generalize v.close.sendReply doneEmpty = t at *
    have hrelay : ∀ r, t.relay r = v.relay r := fun r => by unfold relay; rw [hdrive]
    have hlock : ∀ c, t.lock c = (LockCtl.clear (s.lock c)).lock := fun c => by
      rw [lock, hlocks]
      exact h.lock c
    refine ⟨fun ch => ?_, fun e => ?_, ?_, fun c => ?_, fun c => ?_, fun ch cause hf hc => ?_, fun e he => ?_,
      fun hs => hp (h.stallPosted hs), fun c => ⟨fun hr => hp (h.runawayPosted c hr), fun ho hn => ?_⟩, ?_, ?_,
      fun c => ⟨?_, ?_⟩, ?_, ?_, ?_, ?_, ?_, ?_, ?_, hreply⟩
    · rw [channel, hchan]
      exact h.channel ch
    · rw [hdrive, hrelay]
      exact Prod.mk.inj (h.element e)
    · rw [hrelay]
      exact h.master
    · rw [hlock, LockCtl.clear_faults]
      refine ⟨rfl, rfl, ?_, ?_⟩ <;> simp [LockCtl.otherFaultsCleared] <;> tauto
    · have hother : ∀ {n body}, n ∈ (s.lock c).otherFaultNotices → noticeRecord c n = some body → t.reported body :=
        fun hn hb => hp (h.lockPosted c _ _ (LockCtl.mem_clear_other hn) hb)
      have hstuck := fun hs {n body} hn hb => hp (h.lockPosted c n body (LockCtl.mem_clear_stuck hs hn) hb)
      rw [hlock]
      refine ⟨fun hs => LockCtl.clear_of_not_stuck hs, fun hs => ⟨LockCtl.clear_of_stuck hs, ?_, ?_, fun h1 h2 => ?_⟩,
        fun hj => ?_, fun hj => ?_, fun hj hd => ?_⟩
      · exact hstuck hs (.inl rfl) rfl
      · exact hstuck hs (.inr (.inl rfl)) rfl
      · refine hstuck hs (n := .raised .stuck) (.inr (.inr ⟨rfl, ?_⟩)) rfl
        show (LockCtl.clear (s.lock c)).lock.faults.stuck = true
        rw [LockCtl.clear_faults]
        simp only [hs, h1, h2, Bool.and_self]
      · exact hother (n := .cleared .jam) (by simp [LockCtl.otherFaultNotices, hj]) rfl
      · exact hother (n := .cleared .slip) (by simp [LockCtl.otherFaultNotices, hj]) rfl
      · exact hother (n := .cleared .breach)
          (by simp [LockCtl.otherFaultNotices, hj, of_decide_eq_true hd]) rfl
    · cases ch <;> exact hp (h.channelPosted _ cause hf hc)
    · exact hp (h.elementPosted e he)
    · rw [hsup, h.overheat] at hn
      refine hp (h.overheatPosted c ho ?_)
      simpa [show ({ s with link := s.endOfFrame.link } : State).sup.overheat.get c = true from ho] using hn
    · rw [hfan, h.stall]
    · intro hs hw
      rw [hfan]
      exact h.watch hs hw
    · rw [hsup, h.runaway]
    · rw [hsup, h.overheat, ← cooledDown_iff]
      simp only [Bool.and_eq_true, Bool.not_eq_true', Bool.not_eq_true]
      exact Iff.rfl
    · rw [hsup, h.trip]
    · rw [hdrive, h.elementWelded]
    · rw [hdrive, h.masterWelded]
    · rw [htables, h.tables]
    · rw [hengines, h.engines]
    · rw [htableLocks, h.tableLocks]
    · rw [hpending, h.pending]

end Sys2Proof.Machine
end

section
/-!
PROOFS. The Supervisor at a change of a channel: the measured flag, readiness, and the two outputs, through whatever the
other readers do before and after it (R161 to R163).
-/

namespace Sys2Proof.Machine

open Sys2Proof State

/-- One operation of a list brings an outcome about, and the others keep its condition before it and the outcome
after. -/
theorem forEach_once {α : Type} {Q T : State → Prop} (op : α → State → State) (y : α) {l : List α}
    (hn : l.Nodup) (hm : y ∈ l) (hy : ∀ s, Q s → T (op y s)) (hq : ∀ x ∈ l, x ≠ y → ∀ s, Q s → Q (op x s))
    (ht : ∀ x ∈ l, x ≠ y → ∀ s, T s → T (op x s)) (s : State) (hs : Q s) : T (forEach l op s) := by
  induction l generalizing s with
  | nil => exact absurd hm List.not_mem_nil
  | cons x xs ih =>
    obtain ⟨hx, hn⟩ := List.nodup_cons.mp hn
    by_cases hxy : x = y
    · subst hxy
      exact (forEach_rel (P := T) (R := fun _ _ => True) (fun _ => trivial) (fun _ _ => trivial) xs op
        (fun z hz s h => ⟨trivial, ht z (List.mem_cons_of_mem _ hz) (fun e => hx (e ▸ hz)) s h⟩) _ (hy s hs)).2
    · exact ih hn ((List.mem_cons.mp hm).resolve_left fun e => hxy e.symm)
        (fun z hz => hq z (List.mem_cons_of_mem _ hz)) (fun z hz => ht z (List.mem_cons_of_mem _ hz)) _
        (hq x List.mem_cons_self hxy s hs)

/-- What the Supervisor's outputs follow is as it was, and so are the outputs (R162, R163). -/
structure SupKept (s t : State) : Prop where
  sup : t.sup = s.sup
  stall : t.fan.stall = s.fan.stall
  frontHotInhibit : t.fan.frontHotInhibit = s.fan.frontHotInhibit
  elementWelded : t.drive.elementWelded = s.drive.elementWelded
  masterWelded : t.drive.masterWelded = s.drive.masterWelded
  channels : t.channels = s.channels
  outbox : s.events.outbox <+: t.events.outbox

namespace SupKept

variable {s t u : State}

theorem refl (s : State) : SupKept s s := ⟨rfl, rfl, rfl, rfl, rfl, rfl, List.prefix_refl _⟩

theorem trans (h : SupKept s t) (k : SupKept t u) : SupKept s u :=
  ⟨k.sup.trans h.sup, k.stall.trans h.stall, k.frontHotInhibit.trans h.frontHotInhibit,
    k.elementWelded.trans h.elementWelded, k.masterWelded.trans h.masterWelded, k.channels.trans h.channels,
    h.outbox.trans k.outbox⟩

theorem ofSettles (h : Settles s t) : SupKept s t where
  sup := h.sup
  stall := h.fan.stall
  frontHotInhibit := h.fan.frontHot.2
  elementWelded := by rw [h.drive]
  masterWelded := by rw [h.drive]
  channels := h.channels
  outbox := by rw [h.events]

theorem ofEngine {c : Cavity} (h : EngineFrame c s t) (q : Quiet s t) : SupKept s t where
  sup := h.sup
  stall := h.fan.stall
  frontHotInhibit := h.fan.frontHot.2
  elementWelded := by rw [h.drive]
  masterWelded := by rw [h.drive]
  channels := h.channels
  outbox := q.outbox

theorem isFailed (h : SupKept s t) (ch : Channel) : t.isFailed ch = s.isFailed ch := by
  unfold State.isFailed State.channel
  rw [h.channels]

theorem enableFollows (h : SupKept s t) (k : s.EnableFollows) : t.EnableFollows := by
  unfold State.EnableFollows
  rw [h.sup, h.stall, h.frontHotInhibit, h.elementWelded, h.masterWelded, h.isFailed]
  exact k

theorem systemAbort (s : State) : SupKept s s.systemAbort :=
  (forEach_rel (P := fun _ => True) .refl .trans cavities (fun c => abortCycle c .system)
    (fun c _ s _ => ⟨.ofEngine (EngineActs.abortCycle c .system s).toEngineFrame (.abortCycle ..), trivial⟩) s
    trivial).1

end SupKept

namespace State

/-- The outputs follow their conditions once they are recomputed (R162, R163). -/
theorem recompute_enableFollows (s : State) : s.recompute.EnableFollows := by
  have he : SupKept (s.setSup { s.sup with driveEnable := s.driveEnableNow }) s.recomputeEnable :=
    .ofSettles (.judgeAllExpected _)
  have hi : SupKept (s.recomputeEnable.setSup { s.recomputeEnable.sup with inhibit := s.recomputeEnable.inhibitNow })
      s.recompute := .ofSettles (.review _)
  refine hi.enableFollows ?_
  have hnow : s.driveEnableNow = true ↔ s.sup.readiness = true ∧ s.sup.trip = false ∧ s.drive.elementWelded = false
      ∧ s.drive.masterWelded = false ∧ (∀ c, s.sup.overheat.get c = false) ∧ ∀ c, s.sup.runaway.get c = false := by
    simp only [driveEnableNow, Bool.and_eq_true, Bool.not_eq_true', and_assoc]
    constructor
    · rintro ⟨h1, h2, h3, h4, h5, h6, h7, h8⟩
      exact ⟨h1, h2, h3, h4, fun c => by cases c; exacts [h5, h6], fun c => by cases c; exacts [h7, h8]⟩
    · rintro ⟨h1, h2, h3, h4, h5, h6⟩
      exact ⟨h1, h2, h3, h4, h5 .a, h5 .b, h6 .a, h6 .b⟩
  refine ⟨?_, rfl, rfl, rfl, rfl⟩
  show s.recomputeEnable.sup.driveEnable = true ↔ s.recomputeEnable.sup.readiness = true ∧ _
  simp only [setSup_drive, setSup_sup, he.elementWelded, he.masterWelded, he.sup]
  exact hnow

theorem systemFault_enableFollows (s : State) : s.systemFault.EnableFollows :=
  (SupKept.systemAbort _).enableFollows (recompute_enableFollows s)

/-- What readiness is judged from, and readiness (R161). -/
structure ReadinessKept (s t : State) : Prop where
  measured : t.sup.measured = s.sup.measured
  startupDone : t.sup.startupDone = s.sup.startupDone
  adopted : t.sup.adopted = s.sup.adopted
  readiness : t.sup.readiness = s.sup.readiness

theorem ReadinessKept.of_sup {s t : State} (h : t.sup = s.sup) : ReadinessKept s t := by
  constructor <;> rw [h]

theorem ReadinessKept.trans {s t u : State} (h : ReadinessKept s t) (k : ReadinessKept t u) : ReadinessKept s u :=
  ⟨k.measured.trans h.measured, k.startupDone.trans h.startupDone, k.adopted.trans h.adopted,
    k.readiness.trans h.readiness⟩

theorem recompute_sup (s : State) :
    s.recompute.sup =
      { s.sup with driveEnable := s.recompute.sup.driveEnable, inhibit := s.recompute.sup.inhibit } := by
  have h1 : s.recomputeEnable.sup = { s.sup with driveEnable := s.driveEnableNow } :=
    (Settles.judgeAllExpected (s.setSup { s.sup with driveEnable := s.driveEnableNow })).sup
  have h2 : s.recompute.sup = { s.recomputeEnable.sup with inhibit := s.recomputeEnable.inhibitNow } :=
    (Settles.review (s.recomputeEnable.setSup { s.recomputeEnable.sup with
      inhibit := s.recomputeEnable.inhibitNow })).sup
  obtain ⟨d, i, h⟩ : ∃ d i, s.recompute.sup = { s.sup with driveEnable := d, inhibit := i } :=
    ⟨_, _, h2.trans (by rw [h1])⟩
  rw [h]

theorem ReadinessKept.recompute (s : State) : ReadinessKept s s.recompute := by
  constructor <;> rw [recompute_sup]

theorem ReadinessKept.systemFault (s : State) : ReadinessKept s s.systemFault :=
  (recompute s).trans (.of_sup (SupKept.systemAbort _).sup)

/-- A channel has been measured by an event on its way, with READY posted where readiness is new. -/
structure MeasuredBy (ch : Channel) (s t : State) : Prop where
  measured : t.sup.measured = s.sup.measured.set ch true
  startupDone : t.sup.startupDone = s.sup.startupDone
  adopted : t.sup.adopted = s.sup.adopted
  readiness : t.sup.readiness = true ↔ s.sup.readiness = true
    ∨ ((∀ d, d ≠ ch → s.sup.measured.get d = true) ∧ s.sup.startupDone = true ∧ ∀ c, s.sup.adopted.get c = true)
  ready : s.sup.readiness = false → t.sup.readiness = true → t.Posted .ready ∧ t.EnableFollows

namespace MeasuredBy

variable {ch : Channel} {s t u : State}

/-- The condition before the Supervisor acts matters in what readiness is judged from alone. -/
theorem congr (h : ReadinessKept s t) (k : MeasuredBy ch t u) : MeasuredBy ch s u := by
  obtain ⟨h1, h2, h3, h4, h5⟩ := k
  rw [h.measured] at h1 h4
  rw [h.startupDone] at h2 h4
  rw [h.adopted] at h3 h4
  rw [h.readiness] at h4 h5
  exact ⟨h1, h2, h3, h4, h5⟩

theorem kept (h : MeasuredBy ch s t) (k : SupKept t u) : MeasuredBy ch s u where
  measured := by rw [k.sup, h.measured]
  startupDone := by rw [k.sup, h.startupDone]
  adopted := by rw [k.sup, h.adopted]
  readiness := by rw [k.sup, h.readiness]
  ready hs ht := by
    obtain ⟨hp, he⟩ := h.ready hs (k.sup ▸ ht)
    exact ⟨hp.mono k.outbox, k.enableFollows he⟩

/-- An event that recomputes the outputs (R162, R163). -/
theorem recomputed (h : MeasuredBy ch s t) (k : ReadinessKept t u) (ho : t.events.outbox <+: u.events.outbox)
    (he : u.EnableFollows) : MeasuredBy ch s u where
  measured := by rw [k.measured, h.measured]
  startupDone := by rw [k.startupDone, h.startupDone]
  adopted := by rw [k.adopted, h.adopted]
  readiness := by rw [k.readiness, h.readiness]
  ready hs ht := ⟨(h.ready hs (k.readiness ▸ ht)).1.mono ho, he⟩

theorem close (h : MeasuredBy ch s t) : s.ChannelMeasured ch t.close := by
  refine ⟨by simp [h.measured], by simp [h.startupDone], by simp [h.adopted], by simp [h.readiness], fun hs ht => ?_⟩
  rw [close_sup] at ht
  obtain ⟨hp, he⟩ := h.ready hs ht
  refine ⟨hp.close, ?_⟩
  unfold State.EnableFollows State.isFailed State.channel
  simp only [close_sup, close_drive, close_fan, close_channels]
  exact he

end MeasuredBy

theorem readyNow_measured {ch : Channel} {s : State} :
    (s.setSup { s.sup with measured := s.sup.measured.set ch true }).readyNow = true
      ↔ (∀ d, d ≠ ch → s.sup.measured.get d = true) ∧ s.sup.startupDone = true ∧ ∀ c, s.sup.adopted.get c = true := by
  simp only [readyNow, Bool.and_eq_true, List.all_eq_true, setSup_sup, and_assoc]
  refine and_congr ⟨fun h d hd => ?_, fun h d _ => ?_⟩ (and_congr_right fun _ => ⟨fun h c => ?_, fun h => ⟨h .a, h .b⟩⟩)
  · simpa [hd] using h d (mem_allChannels d)
  · by_cases hd : d = ch
    · simp [hd]
    · simpa [hd] using h d hd
  · cases c
    · exact h.1
    · exact h.2

/-- The Supervisor marks a channel out of WARMUP measured, and judges readiness (R161). -/
theorem markMeasured_measuredBy {ch : Channel} {s : State} (h : (s.channel ch).state ≠ .warmup) :
    MeasuredBy ch s (markMeasured ch s) := by
  rw [markMeasured, if_neg h]
  generalize hv : s.setSup { s.sup with measured := s.sup.measured.set ch true } = v
  have hready : v.readyNow = true ↔ _ := hv ▸ readyNow_measured
  have hsup : v.sup = { s.sup with measured := s.sup.measured.set ch true } := by rw [← hv]; rfl
  unfold judgeReady
  split
  · next hr =>
    have hr' : s.sup.readiness = true := by rw [hsup] at hr; exact hr
    exact ⟨by rw [hsup], by rw [hsup], by rw [hsup], by simp [hr, hr'], fun k => absurd hr' (by simp [k])⟩
  · next hr =>
    have hr' : s.sup.readiness = false := by rw [hsup] at hr; simpa using hr
    split
    · next hn =>
      have hp := posted_post .supervisor .ready (v.setSup { v.sup with readiness := true })
      have k := ReadinessKept.recompute (post .supervisor .ready (v.setSup { v.sup with readiness := true }))
      have hw : (post .supervisor .ready (v.setSup { v.sup with readiness := true })).sup
          = { s.sup with measured := s.sup.measured.set ch true, readiness := true } := by
        rw [← hv]
        rfl
      generalize post .supervisor .ready (v.setSup { v.sup with readiness := true }) = w at hp k hw
      refine ⟨by rw [k.measured, hw], by rw [k.startupDone, hw], by rw [k.adopted, hw], ?_,
        fun _ _ => ⟨hp.quiet (.recompute w), recompute_enableFollows w⟩⟩
      rw [k.readiness, hw]
      exact iff_of_true rfl (.inr (hready.mp hn))
    · next hn =>
      refine ⟨by rw [hsup], by rw [hsup], by rw [hsup], ?_, fun _ k => absurd k hr⟩
      rw [hr']
      refine iff_of_false hr (fun k => ?_)
      exact hn (hready.mpr (k.resolve_left nofun))

end State
end Sys2Proof.Machine
end

section
/-!
PROOFS. The readers of a channel that has left VALID or has failed, in whatever order they act: what each brings about
and what the others leave of it (R13, R36, R103, R112, R153, R161).
-/

namespace Sys2Proof.Machine

open Sys2Proof State

namespace State

/-! ## A forced end -/

theorem afterAbort_congr {s t : State} {c : Cavity} (he : t.engine c = s.engine c) (hl : t.lock c = s.lock c)
    (k : Condition) : t.afterAbort k c = s.afterAbort k c := by
  unfold afterAbort inCycle
  rw [he, hl]

theorem inCycle_congr {s t : State} {c : Cavity} (he : t.engine c = s.engine c) : t.inCycle c = s.inCycle c := by
  unfold inCycle
  rw [he]

theorem currentRecord_congr {s t : State} {c : Cavity} (he : t.engine c = s.engine c) (ht : t.tables = s.tables) :
    t.currentRecord c = s.currentRecord c := by
  unfold currentRecord program
  rw [he, ht]

/-- A condition that forces the end of a segment aborts its cycle (R91, R102 to R104). -/
theorem judge_forced {c : Cavity} {k : Causes} {x : Condition} {s : State} (hc : s.inCycle c = true)
    (hr : s.currentRecord c ≠ none) (hx : x ≠ .done) (hf : forcedEnding c k s = some x) :
    judge c k s = abortCycle c x s := by
  unfold judge
  rcases (inCycle_iff c s).mp hc with he | he | he
  · rw [he]
    obtain ⟨i, hi⟩ : ∃ i, (s.engine c).segmentIndex = some i := by
      unfold currentRecord at hr
      cases h : (s.engine c).segmentIndex with
      | none => exact absurd (by rw [h]) hr
      | some i => exact ⟨i, rfl⟩
    obtain ⟨r, hr⟩ := Option.ne_none_iff_exists'.mp hr
    have hend : ending c r k s = some x := by simp [ending, hf]
    simp only [hi, hr, hend]
  · simp only [he, hf]
  · simp only [he, hf]

theorem overCeiling_of_unforced {s : State} {c : Cavity} {f : Int} (hf : s.f (.cav c) = some f)
    (hm : ∀ m, (s.engine c).ceiling = some m → f ≤ m) : s.overCeiling c = false := by
  unfold overCeiling
  rw [hf]
  cases h : (s.engine c).ceiling with
  | none => rfl
  | some m => simpa using hm m h

theorem forcedEnding_lost {s : State} {c : Cavity} {k : Causes} (ho : s.overCeiling c = false)
    (hl : s.isValid (.cav c) = false ∨ k.catLost = true ∧ s.regulating c = true) :
    forcedEnding c k s = some .sensorLost := by
  unfold forcedEnding
  rw [if_neg (by simp [ho]), if_pos (by simpa using hl)]

theorem regulating_of_not_off {s : State} {c : Cavity} (h : (s.engine c).catalyst ≠ .off) : s.regulating c = true := by
  unfold regulating regulationTarget
  split
  · next k => exact absurd k h
  · rfl
  · rfl

/-! ## What the readers of a lost channel leave -/

/-- The engine of a cavity, its lock and what its judgement reads are as they were. -/
structure CycleKept (c : Cavity) (s t : State) : Prop where
  tables : t.tables = s.tables
  channels : t.channels = s.channels
  engine : t.engine c = s.engine c
  lock : t.lock c = s.lock c

theorem CycleKept.trans {c : Cavity} {s t u : State} (h : CycleKept c s t) (k : CycleKept c t u) : CycleKept c s u :=
  ⟨k.tables.trans h.tables, k.channels.trans h.channels, k.engine.trans h.engine, k.lock.trans h.lock⟩

theorem CycleKept.refl (c : Cavity) (s : State) : CycleKept c s s := ⟨rfl, rfl, rfl, rfl⟩

theorem CycleKept.ofRereads {s t : State} (h : Rereads s t) (c : Cavity) : CycleKept c s t where
  tables := h.tables
  channels := h.channels
  engine := by unfold State.engine; rw [h.engines]
  lock := by unfold State.lock; rw [h.locks]

/-- The cycle of a cavity has ended by an abort, with its lock asked under a policy (R110, R113). -/
structure CycleAborted (c : Cavity) (k : Condition) (p : DoorPolicy) (s t : State) : Prop where
  engine : t.engine c = s.afterAbort k c
  cold : coldNow t c
  lock : t.lock c = askedByAbort p (s.lock c)

/-- A reader that only rereads leaves an aborted cycle. -/
theorem CycleAborted.rereads {c : Cavity} {k : Condition} {p : DoorPolicy} {s t u : State} (h : CycleAborted c k p s t)
    (r : Rereads t u) : CycleAborted c k p s u where
  engine := (CycleKept.ofRereads r c).engine.trans h.engine
  cold := coldNow_of_holds r.holds h.cold
  lock := (CycleKept.ofRereads r c).lock.trans h.lock

/-- The abort of a cycle that has been left as it was until then. -/
theorem CycleAborted.of_abort {c : Cavity} {k : Condition} {s t : State} (h : CycleKept c s t)
    (hc : s.inCycle c = true) : CycleAborted c k (t.policy c) s (abortCycle c k t) where
  engine := (abortCycle_engine ..).trans (afterAbort_congr h.engine h.lock k)
  cold := abortCycle_coldNow _ _ _ ((inCycle_congr h.engine).trans hc)
  lock := (abortCycle_lock _ _ _ ((inCycle_congr h.engine).trans hc)).trans (by rw [h.lock])

theorem f_congr {s t : State} (h : t.channels = s.channels) (ch : Channel) : t.f ch = s.f ch := by
  unfold f channel
  rw [h]

/-- The readers of a channel are each named once, in any order (R13). -/
theorem readers_nodup (ch : Channel) (n : Nat) : (arrange (readersOf ch) n).Nodup :=
  (arrange_perm _ _).nodup_iff.mpr (by cases ch <;> simp [readersOf])

theorem mem_readers {ch : Channel} {n : Nat} {r : Reader} : r ∈ arrange (readersOf ch) n ↔ r ∈ readersOf ch :=
  (arrange_perm _ _).mem_iff

theorem supReadsF_old (c : Cavity) (s : State) : supReadsF c false s = s := by
  unfold supReadsF
  split <;> rfl

/-- The readers of a lost channel other than the engine. -/
theorem lostCavity_rereads {c : Cavity} {s : State} (h : s.isValid (.cav c) = false) (old : ChannelState) {r : Reader}
    (hr : r ≠ .engine) : Rereads s (readerActs ⟨.cav c, old, false⟩ r s) := by
  cases r with
  | bandTable => exact (bandReads_not_valid h old).1
  | engine => exact absurd rfl hr
  | supervisor =>
    show Rereads s (supReadsF c false (markMeasured (.cav c) s))
    rw [supReadsF_old]
    exact .ofBackground (.markMeasured _ s)
  | allocator => exact .refl s
  | fan => exact .refl s

/-- The readers of a catalyst channel other than the engine. -/
theorem catalyst_background (c : Cavity) (old : ChannelState) (newF : Bool) (s : State) {r : Reader}
    (hr : r ≠ .engine) : Background s (readerActs ⟨.cat c, old, newF⟩ r s) := by
  cases r with
  | allocator => exact .ofSettles (.review s)
  | engine => exact absurd rfl hr
  | supervisor => exact .markMeasured _ s
  | bandTable => exact .refl s
  | fan => exact .refl s

/-- A cycle that the engine aborts at a change of a channel which the other readers only reread. -/
theorem channelKnown_aborts {x : ChannelChange} {c : Cavity} {k : Condition} {p : DoorPolicy} {s : State}
    (hm : .engine ∈ readersOf x.channel) (hc : s.inCycle c = true) (hp : s.policy c = p)
    (hr : ∀ t, t.channels = s.channels → ∀ r, r ≠ .engine →
      Rereads t (readerActs x r t) ∧ (t.policy c = p → (readerActs x r t).policy c = p))
    (he : ∀ t, CycleKept c s t → readerActs x .engine t = abortCycle c k t) :
    CycleAborted c k p s (channelKnown x s) := by
  refine (forEach_once (Q := fun t => CycleKept c s t ∧ t.policy c = p)
    (T := fun t => t.channels = s.channels ∧ CycleAborted c k p s t) (readerActs x) .engine (readers_nodup ..)
    (mem_readers.mpr hm) (fun t ⟨ht, htp⟩ => ?_) (fun r _ hn t ⟨ht, htp⟩ => ?_) (fun r _ hn t ht => ?_) s
    ⟨.refl c s, hp⟩).2
  · rw [he t ht]
    exact ⟨(EngineActs.abortCycle c k t).channels.trans ht.channels, htp ▸ .of_abort ht hc⟩
  · obtain ⟨h, hp'⟩ := hr t ht.channels r hn
    exact ⟨ht.trans (.ofRereads h c), hp' htp⟩
  · obtain ⟨h, -⟩ := hr t ht.1 r hn
    exact ⟨h.channels.trans ht.1, ht.2.rereads h⟩

/-- A cavity channel that is lost ends the cycle of its cavity (R103). -/
theorem lostCavity_aborts {c : Cavity} {s : State} (old : ChannelState) {f : Int}
    (hv : s.isValid (.cav c) = false) (hc : s.inCycle c = true) (hr : s.currentRecord c ≠ none)
    (hf : s.f (.cav c) = some f) (hm : ∀ m, (s.engine c).ceiling = some m → f ≤ m) :
    CycleAborted c .sensorLost .interlock s (channelKnown ⟨.cav c, old, false⟩ s) := by
  refine channelKnown_aborts (by simp [readersOf]) hc (policy_of_not_valid hv) (fun t ht r hn => ?_) fun t ht => ?_
  · have h := lostCavity_rereads ((isValid_congr ht _).trans hv) old hn
    exact ⟨h, fun _ => policy_of_not_valid ((isValid_congr (h.channels.trans ht) _).trans hv)⟩
  · have ho : t.overCeiling c = false :=
      overCeiling_of_unforced ((f_congr ht.channels _).trans hf) (by rw [ht.engine]; exact hm)
    exact judge_forced ((inCycle_congr ht.engine).trans hc)
      ((currentRecord_congr ht.engine ht.tables).trans_ne hr) nofun
      (forcedEnding_lost ho (.inl ((isValid_congr ht.channels _).trans hv)))

theorem catalystLost_congr {s t : State} (h : t.channels = s.channels) (c : Cavity) (old : ChannelState) :
    t.catalystLost c old = s.catalystLost c old := by
  unfold catalystLost isFailed isValid channel
  rw [h]

/-- A catalyst channel that is lost ends the cycle of its cavity while regulation is ON or SUSPENDED (R103, R167). -/
theorem lostCatalyst_aborts {c : Cavity} {s : State} {old : ChannelState} {f : Int}
    (hl : s.catalystLost c old = true) (hc : s.inCycle c = true) (hr : s.currentRecord c ≠ none)
    (hf : s.f (.cav c) = some f) (hm : ∀ m, (s.engine c).ceiling = some m → f ≤ m)
    (ho : (s.engine c).catalyst ≠ .off) :
    CycleAborted c .sensorLost (s.policy c) s (channelKnown ⟨.cat c, old, false⟩ s) := by
  refine channelKnown_aborts (by simp [readersOf]) hc rfl (fun t _ r hn => ?_) fun t ht => ?_
  · have h := catalyst_background c old false t hn
    exact ⟨.ofBackground h, (policy_congr (by rw [h.rest]) h.bandIndex h.channels c).trans⟩
  · have hoc : t.overCeiling c = false :=
      overCeiling_of_unforced ((f_congr ht.channels _).trans hf) (by rw [ht.engine]; exact hm)
    exact judge_forced ((inCycle_congr ht.engine).trans hc)
      ((currentRecord_congr ht.engine ht.tables).trans_ne hr) nofun
      (forcedEnding_lost hoc (.inr ⟨(catalystLost_congr ht.channels c old).trans hl,
        regulating_of_not_off (by rw [ht.engine]; exact ho)⟩))

/-- OVER comes into force at the loss of a cavity channel (R36). -/
theorem lostCavity_band {c : Cavity} {s : State} (old : ChannelState) (hv : s.isValid (.cav c) = false) :
    (channelKnown ⟨.cav c, old, false⟩ s).bandIndex = s.bandIndex.set c .over := by
  have other : ∀ t, t.channels = s.channels → ∀ r, r ≠ .bandTable →
      (readerActs ⟨.cav c, old, false⟩ r t).channels = s.channels
        ∧ (readerActs ⟨.cav c, old, false⟩ r t).bandIndex = t.bandIndex := by
    intro t ht r hr
    by_cases he : r = .engine
    · subst he
      have h := EngineActs.judge c {} t
      exact ⟨h.channels.trans ht, h.bandIndex⟩
    · have h := lostCavity_rereads ((isValid_congr ht _).trans hv) old he
      refine ⟨h.channels.trans ht, ?_⟩
      cases r with
      | supervisor =>
        show (supReadsF c false (markMeasured (.cav c) t)).bandIndex = _
        rw [supReadsF_old, (Background.markMeasured ..).bandIndex]
      | bandTable => exact absurd rfl hr
      | engine => exact absurd rfl he
      | allocator => rfl
      | fan => rfl
  refine (forEach_once (Q := fun t => t.channels = s.channels ∧ t.bandIndex = s.bandIndex)
    (T := fun t => t.channels = s.channels ∧ t.bandIndex = s.bandIndex.set c .over) (readerActs ⟨.cav c, old, false⟩)
    .bandTable (readers_nodup ..) (mem_readers.mpr (by simp [readersOf])) (fun t ⟨ht, hb⟩ => ?_)
    (fun r _ hn t ⟨ht, hb⟩ => ?_) (fun r _ hn t ⟨ht, hb⟩ => ?_) s ⟨rfl, rfl⟩).2
  · obtain ⟨h, hi⟩ := bandReads_not_valid (s := t) ((isValid_congr ht _).trans hv) old
    exact ⟨h.channels.trans ht, hi.trans (by rw [hb])⟩
  · obtain ⟨h1, h2⟩ := other t ht r hn
    exact ⟨h1, h2.trans hb⟩
  · obtain ⟨h1, h2⟩ := other t ht r hn
    exact ⟨h1, h2.trans hb⟩

end State
end Sys2Proof.Machine
end

section
/-!
PROOFS. The readers of FRONT, and the system fault: heat inhibit makes every element cold and both cycles are aborted;
the fan takes the full level, and its tacho watch begins its grace where the fan stood still (R112, R151, R153, R156,
R163).
-/

namespace Sys2Proof.Machine

open Sys2Proof State

namespace Fan

theorem frontInvalid_le (x : Fan) : x.frontInvalid ≤ x.greatest := by
  unfold greatest
  omega

/-- A fan that stood still does so yet, or has begun its grace (R156). -/
def Spinning (x y : Fan) : Prop :=
  x.level = 0 → x.watch = .off →
    (y.level = 0 ∧ y.watch = .off) ∨ (0 < y.level ∧ y.watch = .grace ∧ y.grace = some 0)

theorem Spinning.forms {x y z : Fan} (h : Spinning x y) (k : Forms 3 y z) : Spinning x z := by
  intro hl hw
  obtain ⟨d, n, rfl⟩ := k
  have hg : 3 ≤ ({ y with cavityDemand := d, frontInvalid := 3, tripDemand := n } : Fan).greatest :=
    frontInvalid_le { y with cavityDemand := d, frontInvalid := 3, tripDemand := n }
  unfold relevel
  dsimp only
  generalize ({ y with cavityDemand := d, frontInvalid := 3, tripDemand := n } : Fan).greatest = g at hg
  have hpos : 0 < g := by omega
  rcases h hl hw with ⟨h0, hoff⟩ | ⟨h1, hgr, h0⟩
  · rw [if_pos ⟨h0, hpos⟩]
    simp [riseFromZero, hoff, hpos]
  · rw [if_neg (by omega), if_neg (by omega)]
    exact .inr ⟨hpos, hgr, h0⟩

/-- A fan with the full demand of FRONT formed, from a state of it (R151, R153, R156). -/
structure FullFrom (x y : Fan) : Prop where
  level : y.level = y.greatest
  frontInvalid : y.frontInvalid = 3
  spun : x.level = 0 → x.watch = .off → y.watch = .grace ∧ y.grace = some 0

theorem FullFrom.of_spinning {x y : Fan} (h : Spinning x y) (hf : y.level = y.greatest ∧ y.frontInvalid = 3) :
    FullFrom x y := by
  refine ⟨hf.1, hf.2, fun hl hw => ?_⟩
  have := frontInvalid_le y
  rcases h hl hw with ⟨h0, -⟩ | ⟨-, hg⟩
  · omega
  · exact hg

end Fan

namespace State

theorem fanReadsFront_old (s : State) : fanReadsFront false s = s.fanSync := by
  unfold fanReadsFront
  split <;> rfl

theorem frontDemand_congr {s t : State} (h : t.channels = s.channels) : t.frontDemand = s.frontDemand := by
  unfold frontDemand
  rw [isValid_congr h]

/-- The fan is full once its reader has acted on a FRONT that is not VALID, whatever the others do (R153). -/
theorem lostFront_fan {x : ChannelChange} {s : State} (hx : x.channel = .front) (hn : x.newF = false)
    (hv : s.isValid .front = false)
    (hr : ∀ t, t.channels = s.channels → ∀ r ∈ readersOf .front, r ≠ .fan →
      Fan.FormsAll t.frontDemand t.fan (readerActs x r t).fan ∧ (readerActs x r t).channels = t.channels) :
    Fan.FullFrom s.fan (channelKnown x s).fan := by
  have hfan : ∀ t : State, readerActs x .fan t = t.fanSync := by
    intro t
    obtain ⟨ch, old, newF⟩ := x
    subst hx hn
    exact fanReadsFront_old t
  have h3 : ∀ t : State, t.channels = s.channels → t.frontDemand = 3 := fun t ht => by
    rw [frontDemand_congr ht, frontDemand, if_neg (by simp [hv])]
  have h := forEach_once (Q := fun t => t.channels = s.channels ∧ Fan.Spinning s.fan t.fan)
    (T := fun t => t.channels = s.channels ∧ Fan.Spinning s.fan t.fan ∧ t.fan.level = t.fan.greatest
      ∧ t.fan.frontInvalid = 3)
    (readerActs x) .fan (readers_nodup x.channel s.order.readers) (mem_readers.mpr (by rw [hx]; simp [readersOf]))
    (fun t ⟨ht, hs⟩ => ?_) (fun r hm hn' t ⟨ht, hs⟩ => ?_) (fun r hm hn' t ⟨ht, hs, hf⟩ => ?_) s
    ⟨rfl, fun hl hw => .inl ⟨hl, hw⟩⟩
  · exact .of_spinning h.2.1 h.2.2
  · rw [hfan]
    have hforms : Fan.Forms 3 t.fan t.fanSync.fan := ⟨_, _, by rw [← h3 t ht]; rfl⟩
    exact ⟨ht, hs.forms hforms, hforms.formed⟩
  · obtain ⟨hf, hc⟩ := hr t ht r (hx ▸ mem_readers.mp hm) hn'
    rw [h3 t ht] at hf
    exact ⟨hc.trans ht, hf.keeps (fun _ _ k h => h.forms k) hs⟩
  · obtain ⟨hf', hc⟩ := hr t ht r (hx ▸ mem_readers.mp hm) hn'
    rw [h3 t ht] at hf'
    exact ⟨hc.trans ht, hf'.keeps (fun _ _ k h => h.forms k) hs, hf'.formed hf⟩

/-! ## FRONT in STALE -/

/-- FRONT that is neither VALID nor FAILED is no matter of the engines (R163). -/
theorem staleFront_background {old : ChannelState} {s : State} (hf : s.isFailed .front = false) {r : Reader} :
    Background s (readerActs ⟨.front, old, false⟩ r s) := by
  cases r with
  | fan =>
    show Background s (fanReadsFront false s)
    rw [fanReadsFront_old]
    exact .ofSettles (.fanSync s)
  | supervisor =>
    have hm := Background.markMeasured .front s
    have hf' : (markMeasured .front s).isFailed .front = false := by
      unfold isFailed channel
      rw [hm.channels]
      exact hf
    show Background s (supReadsFront old (markMeasured .front s))
    rw [supReadsFront, if_neg (by simp [hf'])]
    exact hm.trans (.recompute _)
  | bandTable => exact .refl s
  | engine => exact .refl s
  | allocator => exact .refl s

theorem isFailed_congr {s t : State} (h : t.channels = s.channels) (ch : Channel) :
    t.isFailed ch = s.isFailed ch := by
  unfold isFailed channel
  rw [h]

theorem staleFront_known {old : ChannelState} {s : State} (hf : s.isFailed .front = false)
    (hv : s.isValid .front = false) :
    Background s (channelKnown ⟨.front, old, false⟩ s)
      ∧ Fan.FullFrom s.fan (channelKnown ⟨.front, old, false⟩ s).fan := by
  refine ⟨(forEach_rel (P := fun t => t.isFailed .front = false) .refl .trans _ _ (fun r _ t ht =>
    ⟨staleFront_background ht, ?_⟩) s hf).1, lostFront_fan rfl rfl hv (fun t ht r _ _ => ?_)⟩
  · exact (isFailed_congr (staleFront_background ht).channels _).trans ht
  · have hb := staleFront_background (old := old) (r := r) ((isFailed_congr ht _).trans hf)
    exact ⟨hb.fan, hb.channels⟩

/-! ## A system fault -/

theorem recompute_eq (s : State) : s.recompute = review (s.recomputeEnable.setSup
    { s.recomputeEnable.sup with inhibit := s.recomputeEnable.inhibitNow }) := rfl

/-- Under heat inhibit no element holds a grant (R130, R163). -/
theorem recompute_cold {s : State} (h : s.recompute.heatInhibit = true) (c : Cavity) : coldNow s.recompute c := by
  rw [recompute_eq] at h ⊢
  generalize s.recomputeEnable.setSup _ = t at h ⊢
  unfold heatInhibit at h
  rw [(Settles.review t).sup] at h
  exact review_coldNow fun k => permission_of_inhibit h _

theorem systemAbort_engine (s : State) (c : Cavity) : s.systemAbort.engine c = s.afterAbort .system c := by
  have ha := EngineActs.abortCycle .a .system s
  have hb := EngineActs.abortCycle .b .system (abortCycle .a .system s)
  cases c with
  | a => exact (hb.otherEngine .a nofun).trans (abortCycle_engine ..)
  | b => exact (abortCycle_engine ..).trans (afterAbort_congr (ha.otherEngine .b nofun) (ha.otherLock .b nofun) _)

theorem systemAbort_holds (s : State) (e : Element) (h : s.systemAbort.holdsGrant e = true) : s.holdsGrant e = true :=
  (EngineActs.abortCycle .a .system s).holds e
    ((EngineActs.abortCycle .b .system (abortCycle .a .system s)).holds e h)

/-- A system fault that inhibits heat: both cycles are aborted and every element is cold (R112, R163). -/
theorem systemFault_stops {s : State} (h : s.recompute.heatInhibit = true) (c : Cavity) :
    s.systemFault.engine c = s.afterAbort .system c ∧ coldNow s.systemFault c := by
  have hb := Background.recompute s
  exact ⟨(systemAbort_engine _ c).trans (afterAbort_congr (hb.engine c) (hb.lock c) _),
    coldNow_of_holds (systemAbort_holds _) (recompute_cold h c)⟩

end State
end Sys2Proof.Machine
end

section
/-!
PROOFS. Obligation O30: the expiry of a staleness timer.
-/

namespace Sys2Proof.Machine

open Sys2Proof State

namespace State

variable (ch : Channel) (new : ChannelEntry) (u : State)

@[simp] theorem entryWritten_engine (c : Cavity) : (entryWritten ch new u).engine c = u.engine c := by
  simp [engine]
@[simp] theorem entryWritten_lock (c : Cavity) : (entryWritten ch new u).lock c = u.lock c := by
  simp [lock]
@[simp] theorem entryWritten_channel_same : (entryWritten ch new u).channel ch = new := by
  simp [channel]
@[simp] theorem entryWritten_channel_ne {d : Channel} (h : d ≠ ch) :
    (entryWritten ch new u).channel d = u.channel d := by
  simp [channel, h]
@[simp] theorem entryWritten_currentRecord (c : Cavity) :
    (entryWritten ch new u).currentRecord c = u.currentRecord c := currentRecord_congr (by simp) (by simp)
@[simp] theorem entryWritten_inCycle (c : Cavity) : (entryWritten ch new u).inCycle c = u.inCycle c :=
  inCycle_congr (by simp)

theorem entryWritten_isValid : (entryWritten ch new u).isValid ch = decide (new.state = .valid) := by
  unfold isValid
  rw [entryWritten_channel_same]

theorem entryWritten_policy {ch : Channel} (c : Cavity) (h : ch ≠ .cav c) :
    (entryWritten ch new u).policy c = u.policy c := by
  unfold policy bandFields bandNow bandTable isValid
  rw [entryWritten_channel_ne _ _ _ h.symm, entryWritten_bandIndex, entryWritten_tables]

theorem entryWritten_rates {ch : Channel} (h : ∀ c, ch ≠ .cav c) : (entryWritten ch new u).rates = u.rates := by
  cases ch with
  | cav c => exact absurd rfl (h c)
  | cat c => rfl
  | front => rfl

/-- A cavity channel that leaves its state for one that is not VALID has its rate history emptied (R30). -/
theorem entryWritten_rates_lost {c : Cavity} {new : ChannelEntry} {u : State} (hv : new.state ≠ .valid)
    (hs : (u.channel (.cav c)).state ≠ new.state) :
    (entryWritten (.cav c) new u).rates = u.rates.set c ⟨none, none, none⟩ := by
  show u.rates.set c (rateAfter (u.channel (.cav c)) new (u.rateOf c)) = _
  rw [rateAfter, if_neg hv, if_neg hs]
  rfl

/-- A change of a catalyst channel is no matter of the Band Table (R40). -/
theorem catalystKnown_bandIndex (c : Cavity) (old : ChannelState) (newF : Bool) (s : State) :
    (channelKnown ⟨.cat c, old, newF⟩ s).bandIndex = s.bandIndex := by
  refine (forEach_rel (P := fun _ => True) (R := fun s t => t.bandIndex = s.bandIndex) (fun _ => rfl)
    (fun h k => Eq.trans k h) _ _ (fun r _ t _ => ⟨?_, trivial⟩) s trivial).1
  by_cases hr : r = .engine
  · subst hr
    exact (EngineActs.judge c { catLost := t.catalystLost c old } t).bandIndex
  · exact (catalyst_background c old newF t hr).bandIndex

/-- The outcome of a cycle's abort at the close of the event. -/
theorem CycleAborted.close {c : Cavity} {k : Condition} {p : DoorPolicy} {s t : State} (h : CycleAborted c k p s t) :
    t.close.engine c = s.afterAbort k c ∧ coldNow t.close c ∧ t.close.lock c = askedByAbort p (s.lock c) := by
  unfold State.coldNow State.holdsGrant State.engine State.lock
  rw [close_engines, close_locks, close_alloc]
  exact ⟨h.engine, h.cold, h.lock⟩

/-- A cycle aborted from the state with a channel's new entry has been aborted from the state before. -/
theorem CycleAborted.written {ch : Channel} {c : Cavity} {k : Condition} {p : DoorPolicy} {new : ChannelEntry}
    {s t : State} (h : CycleAborted c k p (entryWritten ch new s) t) : CycleAborted c k p s t where
  engine := h.engine.trans (afterAbort_congr (by simp) (by simp) k)
  cold := h.cold
  lock := h.lock.trans (by simp)

/-- The new entry of a cavity channel that is not VALID ends the cycle of its cavity (R103). -/
theorem writtenCavity_aborts {c : Cavity} {new : ChannelEntry} {s : State} (old : ChannelState) {f : Int}
    (hv : new.state ≠ .valid) (hn : new.f = s.f (.cav c)) (hc : s.inCycle c = true) (hr : s.currentRecord c ≠ none)
    (hu : s.unforced c f) :
    CycleAborted c .sensorLost .interlock s (channelKnown ⟨.cav c, old, false⟩ (entryWritten (.cav c) new s)) := by
  obtain ⟨-, hf, hm, -⟩ := hu
  refine (lostCavity_aborts (f := f) old ?_ (by simpa using hc) (by simpa using hr) ?_ (by simpa using hm)).written
  · rw [entryWritten_isValid]
    exact decide_eq_false hv
  · rw [State.f, entryWritten_channel_same, hn, hf]

/-- The new entry of a catalyst channel that is lost by it ends the cycle while regulation is ON or SUSPENDED (R103,
R167). -/
theorem writtenCatalyst_aborts {c : Cavity} {new : ChannelEntry} {s : State} {old : ChannelState} {f : Int}
    (hl : old = .valid ∧ new.state ≠ .valid ∨ old ≠ .failed ∧ new.state = .failed) (hc : s.inCycle c = true)
    (hr : s.currentRecord c ≠ none) (hu : s.unforced c f) (ho : (s.engine c).catalyst ≠ .off) :
    CycleAborted c .sensorLost (s.policy c) s (channelKnown ⟨.cat c, old, false⟩ (entryWritten (.cat c) new s)) := by
  obtain ⟨-, hf, hm, -⟩ := hu
  have hne : Channel.cat c ≠ .cav c := fun h => nomatch h
  have h := lostCatalyst_aborts (s := entryWritten (.cat c) new s) (c := c) (old := old) (f := f) ?_
    (by simpa using hc) (by simpa using hr) ?_ (by simpa using hm) (by simpa using ho)
  · rw [entryWritten_policy new s c hne] at h
    exact h.written
  · unfold catalystLost isFailed isValid
    rw [entryWritten_channel_same]
    simpa using hl
  · rw [State.f, entryWritten_channel_ne _ _ _ hne.symm]
    exact hf

theorem exec_staleness_waits {s : State} {ch : Channel}
    (h : s.isValid ch = false ∨ ¬ RanOut (s.channel ch).staleness (stalenessLimit ch)) :
    exec (.stalenessTimerExpiry ch) s = .next s := by
  refine congrArg Host.Outcome.next (if_neg fun k => ?_)
  obtain ⟨hv, hd⟩ := Bool.and_eq_true_iff.mp k
  rcases h with h | h
  · exact absurd (h.symm.trans hv) nofun
  · exact h (isDue_iff.mp hd)

theorem exec_staleness {s : State} {ch : Channel} (hv : s.isValid ch = true)
    (hr : RanOut (s.channel ch).staleness (stalenessLimit ch)) : exec (.stalenessTimerExpiry ch) s
      = .next (channelKnown ⟨ch, .valid, false⟩ (entryWritten ch (staleChannel (s.channel ch)) s)).close := by
  have hs : (s.channel ch).state = .valid := of_decide_eq_true hv
  refine congrArg Host.Outcome.next ((if_pos (Bool.and_eq_true_iff.mpr ⟨hv, isDue_iff.mpr hr⟩)).trans ?_)
  rw [expireStaleness, takeEntry_eq, if_pos (.inr (by rw [hs]; exact nofun)), hs]

end State

/-- Settles O30: the timer's limit, the entry in STALE, and its readers by the kind of channel. -/
theorem stalenessEndsValid : Obligations.StalenessEndsValid := by
  intro s ch limit
  have hlimit : limit = stalenessLimit ch := by cases ch <;> rfl
  rw [hlimit]
  refine ⟨exec_staleness_waits, fun hv hr => ⟨_, exec_staleness hv hr, ?_⟩⟩
  have hs : (s.channel ch).state = .valid := of_decide_eq_true hv
  have hw := entryWritten_isValid ch (staleChannel (s.channel ch)) s
  have q := Quiet.channelKnown ⟨ch, .valid, false⟩ (entryWritten ch (staleChannel (s.channel ch)) s)
  refine ⟨by simp [q.channels]; rfl, by simp [q.tables], ?_, by simp [q.pins], by simp [q.clock], by simp [q.pending],
    fun hc => ⟨by simp [q.rates, entryWritten_rates _ _ hc], ?_⟩, fun c hc => ⟨?_, ?_, fun f hcy hrec hu => ?_⟩,
    fun c f hc hcy hrec hu ho => ?_, fun hc => ?_⟩
  · rw [close_converter, q.converter]
    cases ch <;> rfl
  · rw [close_bandIndex]
    cases ch with
    | cav c => exact absurd rfl (hc c)
    | cat c => exact (catalystKnown_bandIndex ..).trans (by simp)
    | front => exact (staleFront_known (by simp [isFailed, staleChannel]) (hw.trans rfl)).1.bandIndex.trans (by simp)
  · subst hc
    rw [close_rates, q.rates, entryWritten_rates_lost (new := staleChannel _) nofun (by rw [hs]; exact nofun)]
  · subst hc
    rw [close_bandIndex, lostCavity_band _ (hw.trans rfl), entryWritten_bandIndex]
  · subst hc
    exact (writtenCavity_aborts (new := staleChannel _) .valid nofun rfl hcy hrec hu).close
  · subst hc
    exact (writtenCatalyst_aborts (new := staleChannel _) (.inl ⟨rfl, nofun⟩) hcy hrec hu ho).close
  · subst hc
    obtain ⟨hb, hfan⟩ := staleFront_known (old := .valid) (s := entryWritten .front (staleChannel (s.channel .front)) s)
      (by simp [isFailed, staleChannel]) (hw.trans rfl)
    rw [entryWritten_fan] at hfan
    rw [close_engines, close_locks, close_fan, hb.engines, hb.locks, entryWritten_engines, entryWritten_locks]
    exact ⟨rfl, rfl, hfan.frontInvalid, hfan.level, hfan.spun⟩

end Sys2Proof.Machine
end

section
/-!
PROOFS. What the readers of a failing channel bring about: a FRONT that fails, the measured flag, and an engine that a
channel's change does not concern (R112, R161, R163, R167).
-/

namespace Sys2Proof.Machine

open Sys2Proof State

namespace State

/-! ## Measured, in whatever order the readers act -/

/-- A channel is measured once the Supervisor has acted on its change, whatever the other readers do (R161). -/
theorem measured_known {x : ChannelChange} {s : State} (hm : .supervisor ∈ readersOf x.channel)
    (hsup : ∀ t, t.channels = s.channels → MeasuredBy x.channel t (readerActs x .supervisor t))
    (hother : ∀ t, t.channels = s.channels → ∀ r, r ≠ .supervisor → ReadinessKept t (readerActs x r t)
      ∧ ∀ u, MeasuredBy x.channel u t → MeasuredBy x.channel u (readerActs x r t)) :
    MeasuredBy x.channel s (channelKnown x s) := by
  have hc : ∀ r t, t.channels = s.channels → (readerActs x r t).channels = s.channels := fun r t ht =>
    (Quiet.readerActs x r t).channels.trans ht
  refine (forEach_once (Q := fun t => t.channels = s.channels ∧ ReadinessKept s t)
    (T := fun t => t.channels = s.channels ∧ MeasuredBy x.channel s t) (readerActs x) .supervisor (readers_nodup ..)
    (mem_readers.mpr hm) (fun t ⟨ht, hk⟩ => ?_) (fun r _ hn t ⟨ht, hk⟩ => ?_) (fun r _ hn t ⟨ht, hk⟩ => ?_) s
    ⟨rfl, .of_sup rfl⟩).2
  · exact ⟨hc _ t ht, (hsup t ht).congr hk⟩
  · exact ⟨hc r t ht, hk.trans (hother t ht r hn).1⟩
  · exact ⟨hc r t ht, (hother t ht r hn).2 s hk⟩

/-- A reader that is no matter of the Supervisor. -/
theorem measured_kept {ch : Channel} {s t : State} (h : SupKept s t) :
    ReadinessKept s t ∧ ∀ u, MeasuredBy ch u s → MeasuredBy ch u t :=
  ⟨.of_sup h.sup, fun _ k => k.kept h⟩

theorem SupKept.setBandIndex (s : State) (c : Cavity) (i : BandIndex) : SupKept s (s.setBandIndex c i) :=
  ⟨rfl, rfl, rfl, rfl, rfl, rfl, List.prefix_refl _⟩

theorem bandReads_not_valid_sup {s : State} {c : Cavity} (h : s.isValid (.cav c) = false) (old : ChannelState) :
    SupKept s (bandReads c old s) := by
  have hs : (s.channel (.cav c)).state ≠ .valid := of_decide_eq_false h
  rw [bandReads, if_neg hs, takeBand]
  split
  · exact .refl s
  · exact (SupKept.setBandIndex s c .over).trans (.ofSettles (bandKnown_not_valid (s := s.setBandIndex c .over) h))

theorem state_congr {s t : State} (h : t.channels = s.channels) (ch : Channel) :
    (t.channel ch).state = (s.channel ch).state := by
  unfold channel
  rw [h]

theorem lostCavity_measured {c : Cavity} {s : State} (old : ChannelState) (hv : s.isValid (.cav c) = false)
    (hw : (s.channel (.cav c)).state ≠ .warmup) :
    MeasuredBy (.cav c) s (channelKnown ⟨.cav c, old, false⟩ s) := by
  refine measured_known (x := ⟨.cav c, old, false⟩) (by simp [readersOf]) (fun t ht => ?_) fun t ht r hr => ?_
  · show MeasuredBy (.cav c) t (supReadsF c false (markMeasured (.cav c) t))
    rw [supReadsF_old]
    exact markMeasured_measuredBy ((state_congr ht _).trans_ne hw)
  · cases r with
    | bandTable => exact measured_kept (bandReads_not_valid_sup ((isValid_congr ht _).trans hv) old)
    | engine => exact measured_kept (.ofEngine (EngineActs.judge c {} t).toEngineFrame (.judge ..))
    | supervisor => exact absurd rfl hr
    | allocator => exact measured_kept (.refl t)
    | fan => exact measured_kept (.refl t)

theorem catalyst_measured {c : Cavity} {s : State} (old : ChannelState) (newF : Bool)
    (hw : (s.channel (.cat c)).state ≠ .warmup) :
    MeasuredBy (.cat c) s (channelKnown ⟨.cat c, old, newF⟩ s) := by
  refine measured_known (x := ⟨.cat c, old, newF⟩) (by simp [readersOf]) (fun t ht => ?_) fun t ht r hr => ?_
  · exact markMeasured_measuredBy (ch := .cat c) ((state_congr ht _).trans_ne hw)
  · cases r with
    | allocator => exact measured_kept (.ofSettles (.review t))
    | engine => exact measured_kept (.ofEngine
        (EngineActs.judge c { catLost := t.catalystLost c old } t).toEngineFrame (.judge ..))
    | supervisor => exact absurd rfl hr
    | bandTable => exact measured_kept (.refl t)
    | fan => exact measured_kept (.refl t)

/-! ## FRONT that fails -/

/-- The Supervisor at a FRONT that has just failed. -/
theorem failedFront_supervisor {old : ChannelState} {newF : Bool} {s : State} (ho : old ≠ .failed)
    (hf : s.isFailed .front = true) :
    readerActs ⟨.front, old, newF⟩ .supervisor s = (markMeasured .front s).systemFault := by
  have hf' : (markMeasured .front s).isFailed .front = true :=
    (isFailed_congr (Background.markMeasured .front s).channels _).trans hf
  exact if_pos ⟨hf', ho⟩

theorem failedFront_measured {old : ChannelState} {s : State} (ho : old ≠ .failed) (hf : s.isFailed .front = true) :
    MeasuredBy .front s (channelKnown ⟨.front, old, false⟩ s) := by
  refine measured_known (x := ⟨.front, old, false⟩) (by simp [readersOf]) (fun t ht => ?_) fun t ht r hr => ?_
  · have hft : t.isFailed .front = true := (isFailed_congr ht _).trans hf
    have hw : (t.channel .front).state ≠ .warmup := fun k => by
      have hfs : (t.channel .front).state = .failed := of_decide_eq_true hft
      exact absurd (hfs.symm.trans k) nofun
    rw [failedFront_supervisor ho hft]
    exact (markMeasured_measuredBy hw).recomputed (.systemFault _) (Quiet.systemFault _).outbox
      (systemFault_enableFollows _)
  · cases r with
    | fan =>
      show ReadinessKept t (fanReadsFront false t)
        ∧ ∀ u, MeasuredBy .front u t → MeasuredBy .front u (fanReadsFront false t)
      rw [fanReadsFront_old]
      exact measured_kept (.ofSettles (.fanSync t))
    | supervisor => exact absurd rfl hr
    | bandTable => exact measured_kept (.refl t)
    | engine => exact measured_kept (.refl t)
    | allocator => exact measured_kept (.refl t)

theorem systemAbort_fan (s : State) : Fan.FormsAll s.frontDemand s.fan s.systemAbort.fan := by
  have ha := EngineActs.abortCycle .a .system s
  exact ha.fan.trans (frontDemand_congr ha.channels ▸ (EngineActs.abortCycle .b .system (abortCycle .a .system s)).fan)

/-- Both cycles aborted with SYSTEM, every element cold, and heat inhibited by FRONT (R112, R163). -/
structure FrontFault (s t : State) : Prop where
  engine : ∀ d, t.engine d = s.afterAbort .system d
  cold : ∀ d, coldNow t d
  inhibit : t.sup.inhibit.frontFailed = true
  trip : t.sup.trip = s.sup.trip

theorem failedFront_fault {s : State} (hf : s.isFailed .front = true) :
    FrontFault s (markMeasured .front s).systemFault := by
  have hb := Background.markMeasured .front s
  generalize markMeasured .front s = m at hb
  have hr := Background.recompute m
  have hin : m.recompute.sup.inhibit.frontFailed = true := by
    obtain ⟨-, -, -, hff, -⟩ := recompute_enableFollows m
    rw [hff, isFailed_congr (hr.channels.trans hb.channels)]
    exact hf
  have hheat : m.recompute.heatInhibit = true := by simp [heatInhibit, InhibitSources.any, hin]
  have hsup : m.systemFault.sup = m.recompute.sup := (SupKept.systemAbort _).sup
  exact {
    engine := fun d => ((systemFault_stops hheat d).1).trans (afterAbort_congr (hb.engine d) (hb.lock d) _)
    cold := fun d => (systemFault_stops hheat d).2
    inhibit := by rw [hsup]; exact hin
    trip := by rw [hsup, recompute_sup, hb.sup] }

theorem failedFront_known {old : ChannelState} {s : State} (ho : old ≠ .failed) (hf : s.isFailed .front = true) :
    FrontFault s (channelKnown ⟨.front, old, false⟩ s)
      ∧ Fan.FullFrom s.fan (channelKnown ⟨.front, old, false⟩ s).fan := by
  have other : ∀ t, ∀ r, r ≠ .supervisor → Settles t (readerActs ⟨.front, old, false⟩ r t) := by
    intro t r hr
    cases r with
    | fan =>
      show Settles t (fanReadsFront false t)
      rw [fanReadsFront_old]
      exact .fanSync t
    | supervisor => exact absurd rfl hr
    | bandTable => exact .refl t
    | engine => exact .refl t
    | allocator => exact .refl t
  have hv : s.isValid .front = false := by
    have hs : (s.channel .front).state = .failed := of_decide_eq_true hf
    exact decide_eq_false (by rw [hs]; exact nofun)
  refine ⟨(forEach_once
    (Q := fun t => t.channels = s.channels ∧ (∀ d, t.engine d = s.engine d) ∧ (∀ d, t.lock d = s.lock d)
      ∧ t.sup.trip = s.sup.trip)
    (T := FrontFault s) (readerActs ⟨.front, old, false⟩) .supervisor (readers_nodup .front s.order.readers)
    (mem_readers.mpr (by simp [readersOf])) (fun t ⟨ht, he, hl, htr⟩ => ?_) (fun r _ hn t ⟨ht, he, hl, htr⟩ => ?_)
    (fun r _ hn t h => ?_) s ⟨rfl, fun _ => rfl, fun _ => rfl, rfl⟩), lostFront_fan rfl rfl hv (fun t ht r hm hn => ?_)⟩
  · have hft : t.isFailed .front = true := (isFailed_congr ht _).trans hf
    rw [failedFront_supervisor ho hft]
    obtain ⟨h1, h2, h3, h4⟩ := failedFront_fault hft
    exact ⟨fun d => (h1 d).trans (afterAbort_congr (he d) (hl d) _), h2, h3, h4.trans htr⟩
  · have k := other t r hn
    exact ⟨k.channels.trans ht, fun d => (CycleKept.ofRereads (.ofSettles k) d).engine.trans (he d),
      fun d => (CycleKept.ofRereads (.ofSettles k) d).lock.trans (hl d), by rw [k.sup, htr]⟩
  · have k := other t r hn
    exact ⟨fun d => (CycleKept.ofRereads (.ofSettles k) d).engine.trans (h.engine d),
      fun d => coldNow_of_holds k.holds (h.cold d), by rw [k.sup, h.inhibit], by rw [k.sup, h.trip]⟩
  · have hft : t.isFailed .front = true := (isFailed_congr ht _).trans hf
    have hr : r = .supervisor := by
      simp only [readersOf, List.mem_cons, List.not_mem_nil, or_false] at hm
      exact hm.resolve_left hn
    subst hr
    rw [failedFront_supervisor ho hft]
    have hb := (Background.markMeasured .front t).trans (.recompute _)
    exact ⟨hb.fan.trans (hb.frontDemand ▸ systemAbort_fan _), (Quiet.systemFault _).channels.trans
      (Background.markMeasured .front t).channels⟩

end State
end Sys2Proof.Machine
end

section
/-!
PROOFS. Obligation O29: the conversion that fails a channel.
-/

namespace Sys2Proof.Machine

open Sys2Proof State

/-! ## The entry that fails -/

/-- A channel entry that fails on a cause at its next disagreement (R9, R10). -/
structure FailsBy (cause : FailCause) (e new : ChannelEntry) : Prop where
  state : new.state = .failed
  cause : new.cause = some cause
  staleness : new.staleness = none
  f : new.f = e.f
  disagreements : new.disagreements = e.disagreements + 1

theorem failChannel_failsBy {cause : FailCause} {e g : ChannelEntry} (h : failureOf g = some cause) (hf : g.f = e.f)
    (hd : g.disagreements = e.disagreements + 1) : FailsBy cause e (failChannel g) := by
  rw [failChannel, h]
  exact ⟨rfl, rfl, rfl, hf, hd⟩

/-- The cause that the end of a run of a class gives (R10). -/
def NoTempClass.cause : NoTempClass → FailCause
  | .reference => .reference
  | .shortCircuit => .shortCircuit
  | .openCircuit => .openCircuit

theorem judgeScan_runEnds {w : Int} {r : ConvResult} {e : ChannelEntry} (k : NoTempClass) (hs : e.state ≠ .failed)
    (hc : r.cls = k.conv) (hr : e.runClass = some k) (hn : e.runCount + 1 = k.limit) :
    (judgeScan w r e).accepted = false ∧ FailsBy k.cause e (judgeScan w r e).entry := by
  rw [judgeScan_noTemperature k hs hc]
  refine ⟨rfl, failChannel_failsBy ?_ rfl rfl⟩
  unfold failureOf judgeNoTemperature
  simp only [hr, if_pos, hn]
  cases k <;> simp [NoTempClass.limit, NoTempClass.cause]

theorem judgeScan_eighthClass {w : Int} {r : ConvResult} {e : ChannelEntry} (k : NoTempClass) (hs : e.state ≠ .failed)
    (hc : r.cls = k.conv) (hd : e.disagreements = 7)
    (hn : (if e.runClass = some k then e.runCount + 1 else 1) < k.limit) :
    (judgeScan w r e).accepted = false ∧ FailsBy .erratic e (judgeScan w r e).entry := by
  rw [judgeScan_noTemperature k hs hc]
  exact ⟨rfl, failChannel_failsBy ((failureOf_noTemperature k e _ rfl hn).trans (if_pos (by rw [hd]))) rfl rfl⟩

theorem judgeScan_eighthTemperature {w : Int} {r : ConvResult} {e : ChannelEntry} {x p : Int} (hs : e.state ≠ .failed)
    (hc : r.cls = .temperature) (ht : r.temperature = some x) (hp : e.previousRaw = some p)
    (hw : w.toNat < (x - p).natAbs) (hd : e.disagreements = 7) :
    (judgeScan w r e).accepted = false ∧ FailsBy .erratic e (judgeScan w r e).entry := by
  have hj : judgeTemperature w x e = ⟨{ e with
      previousRaw := some x, runClass := none, runCount := 0, disagreements := e.disagreements + 1 }, false⟩ := by
    simp [judgeTemperature, hp, agrees, Nat.not_le.mpr hw]
  rw [judgeScan_temperature hs hc ht, hj]
  exact ⟨rfl, failChannel_failsBy (by simp [failureOf, hd]) rfl rfl⟩

namespace State

/-! ## An engine whose segment goes on -/

/-- A segment that goes on has not reached its end (R93 to R100). -/
theorem segmentDone_of_goesOn {s : State} {c : Cavity} {f : Int} {r : SegmentRecord} (hf : s.f (.cav c) = some f)
    (h : s.GoesOn c f (s.engine c) (s.lock c).state r) : s.segmentDone c r = false := by
  cases r with
  | engage => exact decide_eq_false h
  | catalyst t l =>
    refine Bool.eq_false_iff.mpr fun k => h ?_
    obtain ⟨hv, ha⟩ := Bool.and_eq_true_iff.mp k
    refine ⟨hv, ?_⟩
    unfold atOrAbove at ha
    split at ha
    · next x hx => exact ⟨x, hx, of_decide_eq_true ha⟩
    · exact absurd ha nofun
  | ramp x =>
    refine Bool.eq_false_iff.mpr fun k => ?_
    obtain ⟨hs, ha⟩ := Bool.and_eq_true_iff.mp k
    unfold atOrAbove at ha
    rw [hf] at ha
    exact h.elim (fun n => n (of_decide_eq_true hs)) (fun n => by simp at ha; omega)
  | soak x => exact decide_eq_false h
  | cool t l level =>
    unfold segmentDone atOrBelow
    rw [hf]
    exact decide_eq_false (Int.not_le.mpr h)
  | release => exact decide_eq_false h

theorem forcedEnding_none {s : State} {c : Cavity} {f : Int} {k : Causes} (hu : s.unforced c f)
    (hk : k.catLost = true → s.regulating c = false) (hb : k.breach = false) : forcedEnding c k s = none := by
  obtain ⟨hv, hf, hm, hl⟩ := hu
  have hn : (k.catLost && s.regulating c) = false := by
    cases hc : k.catLost
    · rfl
    · exact hk hc
  simp [forcedEnding, overCeiling_of_unforced hf hm, hv, hn, hb, hl]

/-- Nothing ends the segment of an engine that goes on (R91). -/
theorem ending_none {s : State} {c : Cavity} {f : Int} {k : Causes} {r : SegmentRecord} (hu : s.unforced c f)
    (hk : k.catLost = true → s.regulating c = false) (hb : k.breach = false) (hj : k.jammed = false)
    (hd : k.doorOpen = false) (ht : k.tick = false) (hr : s.segmentDone c r = false) : ending c r k s = none := by
  simp [ending, forcedEnding_none hu hk hb, hj, hd, ht, hr]

/-- A judgement that ends nothing. -/
theorem judge_goesOn {s : State} {c : Cavity} {f : Int} {k : Causes} (hu : s.unforced c f)
    (hk : k.catLost = true → s.regulating c = false) (hb : k.breach = false) (hj : k.jammed = false)
    (hd : k.doorOpen = false) (ht : k.tick = false)
    (hr : (s.engine c).state = .running → ∀ r, s.currentRecord c = some r → s.segmentDone c r = false) :
    judge c k s = s := by
  unfold judge
  split
  · next he =>
    split
    · next i r hi hrec =>
      rw [ending_none hu hk hb hj hd ht (hr he r hrec)]
    · rfl
  · rw [forcedEnding_none hu hk hb]
  · rw [forcedEnding_none hu hk hb]
  · rfl

theorem unforced_congr {s t : State} {c : Cavity} {f : Int} (hv : t.isValid (.cav c) = s.isValid (.cav c))
    (hf : t.f (.cav c) = s.f (.cav c)) (he : t.engine c = s.engine c) (hl : t.lock c = s.lock c)
    (hu : s.unforced c f) : t.unforced c f := by
  unfold unforced
  rw [hv, hf, he, hl]
  exact hu

/-- A catalyst channel's failure with regulation OFF is no matter of a segment that goes on and is no CATALYST. -/
theorem catalyst_idle {c : Cavity} {s : State} {old : ChannelState} {newF : Bool} {f : Int} (hu : s.unforced c f)
    (hoff : (s.engine c).catalyst = .off)
    (hr : (s.engine c).state = .running → ∃ x, s.currentRecord c = some x
      ∧ (∀ target limit, x ≠ .catalyst target limit) ∧ s.GoesOn c f (s.engine c) (s.lock c).state x) :
    (channelKnown ⟨.cat c, old, newF⟩ s).engine c = s.engine c
      ∧ (channelKnown ⟨.cat c, old, newF⟩ s).lock c = s.lock c := by
  have h := (forEach_rel (P := CycleKept c s) (R := fun _ _ => True) (fun _ => trivial) (fun _ _ => trivial)
    (arrange (readersOf (.cat c)) s.order.readers) (readerActs ⟨.cat c, old, newF⟩)
    (fun r _ t ht => ⟨trivial, ?_⟩) s (.refl c s)).2
  · exact ⟨h.engine, h.lock⟩
  · by_cases hre : r = .engine
    · subst hre
      obtain ⟨-, hf, -, -⟩ := id hu
      have hut : t.unforced c f := unforced_congr (isValid_congr ht.channels _) (f_congr ht.channels _)
        ht.engine ht.lock hu
      have hreg : t.regulating c = false := by
        unfold regulating regulationTarget
        rw [ht.engine, hoff]
        rfl
      have hj : judge c { catLost := t.catalystLost c old } t = t :=
        judge_goesOn hut (fun _ => hreg) rfl rfl rfl rfl fun hrun r hrec => by
          rw [ht.engine] at hrun
          obtain ⟨x, hx, hcat, hgo⟩ := hr hrun
          rw [currentRecord_congr ht.engine ht.tables, hx] at hrec
          cases hrec
          refine segmentDone_of_goesOn ((f_congr ht.channels _).trans hf) ?_
          rw [ht.engine, ht.lock]
          cases r with
          | catalyst a b => exact absurd rfl (hcat a b)
          | engage => exact hgo
          | ramp a => exact hgo
          | soak a => exact hgo
          | cool a b d => exact hgo
          | release => exact hgo
      show CycleKept c s (judge c { catLost := t.catalystLost c old } t)
      rw [hj]
      exact ht
    · exact ht.trans (.ofRereads (.ofBackground (catalyst_background c old newF t hre)) c)

/-- The state in which a scan result is taken: the converter has gone on, and a failure has been recorded. -/
def scanBase (s : State) (rtd ref : BitVec 16) : State :=
  postFailure s.converter.channel (s.channel s.converter.channel) (s.scanJudged rtd ref).entry
    (s.nextStarted (rtd, ref))

theorem scanBase_rest (s : State) (rtd ref : BitVec 16) :
    ∃ x, s.scanBase rtd ref = (s.nextStarted (rtd, ref)).setEvents x := postFailure_rest ..

theorem scanBase_posted {s : State} {rtd ref : BitVec 16} {cause : FailCause}
    (hs : (s.channel s.converter.channel).state ≠ .failed)
    (h : FailsBy cause (s.channel s.converter.channel) (s.scanJudged rtd ref).entry) :
    (s.scanBase rtd ref).Posted (.faultRaised (channelCavity s.converter.channel) (failCode cause)
      (some (.channel s.converter.channel))) := by
  unfold scanBase postFailure
  simp only [h.state, h.cause, if_neg hs]
  exact posted_post ..

/-- A scan result that fails a channel, as its readers see it. -/
theorem exec_scan_fails {s : State} {rtd ref : BitVec 16} {cause : FailCause} (ho : s.converter.origin = .scan)
    (he : 50 ≤ s.converter.elapsed) (hs : (s.channel s.converter.channel).state ≠ .failed)
    (ha : (s.scanJudged rtd ref).accepted = false)
    (h : FailsBy cause (s.channel s.converter.channel) (s.scanJudged rtd ref).entry) :
    exec (.scanConversionComplete rtd ref) s = .next
      (channelKnown ⟨s.converter.channel, (s.channel s.converter.channel).state, false⟩
        (entryWritten s.converter.channel (s.scanJudged rtd ref).entry (s.scanBase rtd ref))).close := by
  rw [exec_scan rtd ref ho he]
  show Host.Outcome.next (takeEntry s.converter.channel (s.scanJudged rtd ref).entry (s.scanJudged rtd ref).accepted
    (s.scanBase rtd ref)).close = _
  have hc : (s.scanBase rtd ref).channel s.converter.channel = s.channel s.converter.channel := by
    obtain ⟨x, hx⟩ := scanBase_rest s rtd ref
    rw [hx]
    rfl
  rw [takeEntry_eq, hc, ha, if_pos (.inr (by rw [h.state]; exact hs))]

end State

/-- The causes of the statement, by what is judged (R9, R10). -/
theorem scanJudged_fails {s : State} {rtd ref : BitVec 16} {cause : FailCause} {e : ChannelEntry}
    (he : s.channel s.converter.channel = e) (hs : e.state ≠ .failed)
    (h : (cause = .openCircuit ∧ (convert rtd ref).cls = .openCircuit ∧ e.runClass = some .openCircuit
          ∧ e.runCount = 1)
      ∨ (cause = .shortCircuit ∧ (convert rtd ref).cls = .shortCircuit ∧ e.runClass = some .shortCircuit
          ∧ e.runCount = 1)
      ∨ (cause = .reference ∧ (convert rtd ref).cls = .reference ∧ e.runClass = some .reference
          ∧ e.runCount = 7)
      ∨ (cause = .erratic ∧ e.disagreements = 7 ∧ ∃ x p, (convert rtd ref).cls = .temperature
          ∧ (convert rtd ref).temperature = some x ∧ e.previousRaw = some p
          ∧ (agreementWindow s.converter.channel).toNat < (x - p).natAbs)
      ∨ (cause = .erratic ∧ e.disagreements = 7 ∧ ∃ k limit,
          (((convert rtd ref).cls = .openCircuit ∧ k = NoTempClass.openCircuit ∧ limit = 2)
            ∨ ((convert rtd ref).cls = .shortCircuit ∧ k = .shortCircuit ∧ limit = 2)
            ∨ ((convert rtd ref).cls = .reference ∧ k = .reference ∧ limit = 8))
          ∧ (if e.runClass = some k then e.runCount + 1 else 1) < limit)) :
    (s.scanJudged rtd ref).accepted = false ∧ FailsBy cause e (s.scanJudged rtd ref).entry := by
  unfold scanJudged
  rw [he]
  rcases h with ⟨rfl, hc, hr, hn⟩ | ⟨rfl, hc, hr, hn⟩ | ⟨rfl, hc, hr, hn⟩ | ⟨rfl, hd, x, p, hc, ht, hp, hw⟩
    | ⟨rfl, hd, k, limit, hk, hn⟩
  · exact judgeScan_runEnds .openCircuit hs hc hr (by rw [hn]; rfl)
  · exact judgeScan_runEnds .shortCircuit hs hc hr (by rw [hn]; rfl)
  · exact judgeScan_runEnds .reference hs hc hr (by rw [hn]; rfl)
  · exact judgeScan_eighthTemperature hs hc ht hp hw hd
  · obtain ⟨hc, rfl⟩ := noTempClass_cases hk
    exact judgeScan_eighthClass k hs hc hd hn

/-- Settles O29: the entry that fails, its record, and its readers by the kind of channel. -/
theorem repeatedFailureFailsChannel : Obligations.RepeatedFailureFailsChannel := by
  intro s rtd ref cause
  dsimp only
  intro ho hel hs hcause
  obtain ⟨ha, hf⟩ := scanJudged_fails rfl hs hcause
  refine ⟨_, exec_scan_fails ho hel hs ha hf, ?_⟩
  have hp := scanBase_posted hs hf
  obtain ⟨x, hx⟩ := scanBase_rest s rtd ref
  rw [hx] at hp ⊢
  generalize (s.scanJudged rtd ref).entry = new at hf
  clear hcause
  generalize s.converter.channel = ch at hs hf hp ⊢
  generalize hb : (s.nextStarted (rtd, ref)).setEvents x = b at hp ⊢
  have hengine : ∀ c, b.engine c = s.engine c := fun c => by rw [← hb]; rfl
  have hlock : ∀ c, b.lock c = s.lock c := fun c => by rw [← hb]; rfl
  have hchan : b.channels = s.channels := by rw [← hb]; rfl
  have htables : b.tables = s.tables := by rw [← hb]; rfl
  have hsup : b.sup = s.sup := by rw [← hb]; rfl
  have hfan : b.fan = s.fan := by rw [← hb]; rfl
  have hrates : b.rates = s.rates := by rw [← hb]; rfl
  have hpending : b.pending = s.pending := by rw [← hb]; rfl
  have hband : b.bandIndex = s.bandIndex := by rw [← hb]; rfl
  have hnv : new.state ≠ .valid := by rw [hf.state]; exact nofun
  have hw : (entryWritten ch new b).isValid ch = false := (entryWritten_isValid ..).trans (decide_eq_false hnv)
  have hfailed : (entryWritten ch new b).isFailed ch = true := by
    unfold isFailed
    rw [entryWritten_channel_same, hf.state]
    rfl
  have hwarm : ((entryWritten ch new b).channel ch).state ≠ .warmup := by
    rw [entryWritten_channel_same, hf.state]
    exact nofun
  have hkept : ReadinessKept s (entryWritten ch new b) := .of_sup (by rw [entryWritten_sup, hsup])
  have hmeasured : s.ChannelMeasured ch
      (channelKnown ⟨ch, (s.channel ch).state, false⟩ (entryWritten ch new b)).close := by
    cases ch with
    | cav c => exact ((lostCavity_measured _ hw hwarm).congr hkept).close
    | cat c => exact ((catalyst_measured _ _ hwarm).congr hkept).close
    | front => exact ((failedFront_measured hs hfailed).congr hkept).close
  have q := Quiet.channelKnown ⟨ch, (s.channel ch).state, false⟩ (entryWritten ch new b)
  have hch : (channelKnown ⟨ch, (s.channel ch).state, false⟩ (entryWritten ch new b)).close.channels
      = s.channels.set ch new := by
    rw [close_channels, q.channels, entryWritten_channels, hchan]
  have hnew : (channelKnown ⟨ch, (s.channel ch).state, false⟩ (entryWritten ch new b)).close.channel ch = new := by
    rw [channel, hch, PerChannel.get_set_same]
  have hrec : ∀ c, s.currentRecord c ≠ none → b.currentRecord c ≠ none := fun c =>
    (currentRecord_congr (hengine c) htables).trans_ne
  have hun : ∀ {c f}, s.unforced c f → b.unforced c f := fun {c f} =>
    unforced_congr (isValid_congr hchan _) (f_congr hchan _) (hengine c) (hlock c)
  have habort : ∀ {c k p t}, CycleAborted c k p b t →
      t.close.engine c = s.afterAbort k c ∧ coldNow t.close c ∧ t.close.lock c = askedByAbort p (s.lock c) :=
    fun {c k p t} h => by
      rw [← afterAbort_congr (hengine c) (hlock c), ← hlock c]
      exact h.close
  refine ⟨by rw [hnew, hf.state], by rw [hnew, hf.cause], by rw [hnew, hf.staleness], by rw [hnew, hf.f],
    by rw [hnew, hf.disagreements], fun d hd => by rw [channel, hch, PerChannel.get_set_ne _ _ hd]; rfl, hmeasured,
    fun c hc => ?_, ?_, by rw [close_tables, q.tables, entryWritten_tables, htables],
    by rw [close_pending, q.pending, entryWritten_pending, hpending], fun c f hc hcy hr hu => ?_,
    fun c f hc hcy hr hu => ⟨fun hcat => ?_, fun hcat hgo => ?_⟩, fun hc => ?_⟩
  · subst hc
    rw [close_rates, q.rates, entryWritten_rates_lost hnv (by rw [channel, hchan, hf.state]; exact hs), hrates,
      close_bandIndex, lostCavity_band _ hw, PerCavity.get_set_same]
    exact ⟨rfl, rfl⟩
  · have hq := ((hp.mono (by simp)).quiet q).close
    cases ch <;> exact hq
  · subst hc
    exact habort (writtenCavity_aborts _ hnv (hf.f.trans (f_congr hchan _).symm) ((inCycle_congr (hengine c)).trans hcy)
      (hrec c hr) (hun hu))
  · subst hc
    have h := writtenCatalyst_aborts (old := (s.channel (.cat c)).state) (.inr ⟨hs, hf.state⟩)
      ((inCycle_congr (hengine c)).trans hcy) (hrec c hr) (hun hu) (by rw [hengine]; exact hcat)
    rw [policy_congr htables hband hchan] at h
    exact habort h
  · subst hc
    have hne : Channel.cav c ≠ .cat c := fun h => nomatch h
    have hu' : (entryWritten (.cat c) new b).unforced c f := by
      refine unforced_congr ?_ ?_ (by simp) (by simp) (hun hu)
      · unfold isValid
        rw [entryWritten_channel_ne _ _ _ hne]
      · unfold State.f
        rw [entryWritten_channel_ne _ _ _ hne]
    have h := catalyst_idle (old := (s.channel (.cat c)).state) (newF := false) hu'
      (by rw [entryWritten_engine, hengine]; exact hcat) (fun hrun => ?_)
    · rw [engine, lock, close_engines, close_locks]
      exact ⟨h.1.trans (by simp [hengine]), h.2.trans (by simp [hlock])⟩
    · rw [entryWritten_engine, hengine] at hrun ⊢
      obtain ⟨y, hy, hcaty, hgo'⟩ := hgo hrun
      refine ⟨y, by rw [entryWritten_currentRecord, currentRecord_congr (hengine c) htables, hy], hcaty, ?_⟩
      rw [entryWritten_lock, hlock]
      cases y with
      | catalyst a b => exact absurd rfl (hcaty a b)
      | engage => exact hgo'
      | ramp a => exact hgo'
      | soak a => exact hgo'
      | cool a b d => exact hgo'
      | release => exact hgo'
  · subst hc
    obtain ⟨hfault, hfull⟩ := failedFront_known (old := (s.channel .front).state) hs hfailed
    rw [entryWritten_fan, hfan] at hfull
    rw [close_sup, close_fan]
    refine ⟨fun d => ⟨?_, ?_⟩, hfault.inhibit, ?_, hfull.frontInvalid, hfull.level, hfull.spun⟩
    · rw [engine, close_engines]
      exact (hfault.engine d).trans (afterAbort_congr (by simp [hengine]) (by simp [hlock]) _)
    · unfold coldNow holdsGrant
      rw [close_alloc]
      exact hfault.cold d
    · rw [hfault.trip, entryWritten_sup, hsup]

end Sys2Proof.Machine
end

section
/-!
PROOFS. The end DONE of a segment and what it leads to: the end of the cycle, HELD, or the entry of the next segment
with its lock request (R68, R90, R93 to R100, R108, R114).
-/

namespace Sys2Proof.Machine

open Sys2Proof State

namespace LockCtl

/-- The lock after the engage of an entry (R61). -/
theorem engage_lock (p : DoorPolicy) (l : LockCtl) :
    (engage .engine l).1.lock = askedByEntry p .engage l := by
  obtain ⟨x, motor, motion, slot, pending, faults, levels⟩ := l
  cases x with
  | released =>
    simp only [engage, engageReleased, askedByEntry]
    by_cases hd : levels.doorShut = some true
    · rw [if_pos hd, if_neg (not_not.mpr hd)]
      split <;> rfl
    · rw [if_neg hd, if_pos hd]
      rfl
  | engaging => rcases slot with _ | ⟨_ | _, by_⟩ <;> rfl
  | engaged => rfl
  | releasing => rfl
  | returning => rfl
  | faulted => rfl
  | notAdopted => rfl

/-- The answer to the engage of an entry that finds no open door (R55, R61). -/
theorem engage_answer {l : LockCtl} (hn : l.state ≠ .notAdopted)
    (hd : l.state = .released → l.levels.doorShut = some true) :
    (engage .engine l).2 ≠ .refused .doorOpen
      ∧ decide ((engage .engine l).2 = .refused .busy) = decide (l.state = .returning) := by
  obtain ⟨x, motor, motion, slot, pending, faults, levels⟩ := l
  cases x with
  | released =>
    simp only [engage, engageReleased]
    rw [if_pos (hd rfl)]
    split <;> exact ⟨nofun, rfl⟩
  | notAdopted => exact absurd rfl hn
  | engaging => exact ⟨nofun, rfl⟩
  | engaged => exact ⟨nofun, rfl⟩
  | releasing => exact ⟨nofun, rfl⟩
  | returning => exact ⟨nofun, rfl⟩
  | faulted => exact ⟨nofun, rfl⟩

/-- The lock after the release of an entry, with the wait option (R61). -/
theorem release_entry (p : DoorPolicy) (l : LockCtl) :
    (release p true .engine l).1.lock = askedByEntry p .release l := by
  by_cases h : l.state = .engaged ∨ l.state = .engaging ∨ l.state = .releasing
  · rw [release_lock p l h]
    unfold askedByEntry
    rcases h with h | h | h <;> simp only [h]
  · obtain ⟨x, motor, motion, slot, pending, faults, levels⟩ := l
    cases x with
    | engaged => exact absurd (.inl rfl) h
    | engaging => exact absurd (.inr (.inl rfl)) h
    | releasing => exact absurd (.inr (.inr rfl)) h
    | released => rfl
    | returning => rfl
    | faulted => rfl
    | notAdopted => rfl

end LockCtl

namespace State

variable {c : Cavity} {s : State}

/-- The lock after the entry of a segment (R68). -/
theorem enterSegment_lock (c : Cavity) (i : Nat) (r : SegmentRecord) (s : State) :
    (s.enterSegment c i r).1.lock c = askedByEntry (s.policy c) r (s.lock c) := by
  have hp : ∀ fn : Engine → Engine, (s.modEngine c fn).policy c = s.policy c := fun _ => rfl
  show (announce (entryAsk c r (s.modEngine c _)).1).lock c = _
  rw [lock_announce]
  cases r with
  | engage => exact (applyLock_lock_same ..).trans (LockCtl.engage_lock _ _)
  | release => exact (applyLock_lock_same ..).trans (LockCtl.release_entry _ _)
  | catalyst t l => rfl
  | ramp x => rfl
  | soak x => rfl
  | cool t l level => rfl

/-- The entry of a segment brings no open door where its engage finds none (R93). -/
theorem enterSegment_causes (i : Nat) {r : SegmentRecord} (h : EntryAnswered (s.lock c) r) :
    (s.enterSegment c i r).2 = {} := by
  show (entryAsk c r (s.modEngine c _)).2 = _
  cases r with
  | engage =>
    obtain ⟨hn, hd⟩ := h rfl
    show answerCauses (LockCtl.engage .engine (s.lock c)).2 = _
    rw [answerCauses, decide_eq_false (LockCtl.engage_answer hn hd).1]
  | release => rfl
  | catalyst t l => rfl
  | ramp x => rfl
  | soak x => rfl
  | cool t l level => rfl

/-- The start value of a RAMP, in the words of the statements (R95). -/
theorem rampStart_eq {index : Nat} {f start : Int} {x : RampRecord} (hf : s.f (.cav c) = some f)
    (h : s.StartsAt c (s.engine c) index f start) :
    s.rampStart c (index + 1) x = some (if x.target ≤ start ∨ x.rate = none then x.target else start) := by
  unfold StartsAt at h
  unfold rampStart previousSetpoint
  rw [Nat.add_sub_cancel]
  have hsome : ∀ y : Int, (if x.target ≤ y ∨ x.rate = none then some x.target else some y)
      = some (if x.target ≤ y ∨ x.rate = none then x.target else y) := fun y => (apply_ite some _ _ _).symm
  cases hr : recordAt (s.program c) index with
  | none =>
    rw [hr] at h
    subst h
    simp only [hf, hsome]
  | some y =>
    rw [hr] at h
    cases y with
    | ramp a => simp only [show (s.engine c).setpoint = some start from h, hsome]
    | soak a => simp only [show (s.engine c).setpoint = some start from h, hsome]
    | engage =>
      cases (show start = f from h)
      simp only [hf, hsome]
    | release =>
      cases (show start = f from h)
      simp only [hf, hsome]
    | catalyst a b =>
      cases (show start = f from h)
      simp only [hf, hsome]
    | cool a b d =>
      cases (show start = f from h)
      simp only [hf, hsome]

/-- The engine after the entry of a segment (R90, R93 to R95, R97, R99). -/
theorem enterSegment_engine {index : Nat} {r : SegmentRecord} {f start : Int}
    (hrun : (s.engine c).state = .running) (hf : s.f (.cav c) = some f)
    (hs : s.StartsAt c (s.engine c) index f start) (ha : EntryAnswered (s.lock c) r) :
    (s.enterSegment c (index + 1) r).1.engine c = entered (index + 1) start (s.lock c).state r (s.engine c) := by
  show (announce (entryAsk c r (s.modEngine c _)).1).engine c = _
  rw [engine_announce]
  cases r with
  | engage =>
    obtain ⟨hn, hd⟩ := ha rfl
    show ((noteBusy c (LockCtl.engage .engine (s.lock c)).2 _).engine c) = _
    rw [noteBusy, engine_modEngine_same, (LockCtl.engage_answer hn hd).2]
    simp [askLock, enterKind, enterCommon, entered, hrun]
  | release => simp [entryAsk, askLock, enterKind, enterCommon, entered, hrun]
  | catalyst t l => simp [entryAsk, enterKind, enterCommon, entered, hrun]
  | ramp x => simp [entryAsk, enterKind, enterCommon, entered, hrun, rampStart_eq hf hs]
  | soak x => simp [entryAsk, enterKind, enterCommon, entered, hrun]
  | cool t l level => simp [entryAsk, enterKind, enterCommon, entered, hrun]

theorem hold_engine (c : Cavity) (s : State) : (hold c s).engine c = heldAfter (s.engine c) := by
  unfold hold
  rw [engine_announce, engine_modEngine_same]
  cases h : (s.engine c).catalyst <;> simp [heldAfter, suspend, h]

theorem hold_lock (c : Cavity) (s : State) : (hold c s).lock c = s.lock c := by
  simp [hold]

end State
end Sys2Proof.Machine
end

section
/-!
PROOFS. The end DONE of a segment, as the statements tell it; and peak F, which no judgement changes (R90, R102).
-/

namespace Sys2Proof.Machine

open Sys2Proof State

namespace State

/-- What the end DONE of a segment leads to under a door policy (R68, R90, R108, R114). -/
def DoneUnder (p : DoorPolicy) (s : State) (c : Cavity) (index : Nat) (f : Int) (l : LockCtl) (e : Engine)
    (l' : LockCtl) (e' : Engine) : Prop :=
  ((s.program c).length = index → e' = endedBy .completed .done l.state e ∧ l' = l)
  ∧ (index < (s.program c).length → e.singleStep = true → e' = heldAfter e ∧ l' = l)
  ∧ ∀ r start, e.singleStep = false → recordAt (s.program c) (index + 1) = some r → s.StartsAt c e index f start →
      EntryAnswered l r → s.GoesOn c f (entered (index + 1) start l.state r e) (askedByEntry p r l).state r →
      e' = entered (index + 1) start l.state r e ∧ l' = askedByEntry p r l

theorem doneLeadsTo_iff {s : State} {c : Cavity} {index : Nat} {f : Int} {l l' : LockCtl} {e e' : Engine} :
    s.DoneLeadsTo c index f l e l' e' ↔ DoneUnder (s.policy c) s c index f l e l' e' := Iff.rfl

/-- The end condition of a segment reads the catalyst channel alone of the state (R94). -/
theorem goesOn_of_cat {s t : State} {c : Cavity} (h : t.channel (.cat c) = s.channel (.cat c)) {f : Int} {e : Engine}
    {x : LockState} {r : SegmentRecord} : t.GoesOn c f e x r ↔ s.GoesOn c f e x r := by
  cases r with
  | catalyst a b =>
    unfold GoesOn isValid State.f
    rw [h]
  | engage => exact Iff.rfl
  | ramp a => exact Iff.rfl
  | soak a => exact Iff.rfl
  | cool a b d => exact Iff.rfl
  | release => exact Iff.rfl

theorem goesOn_congr {s t : State} {c : Cavity} (h : t.channels = s.channels) {f : Int} {e : Engine} {x : LockState}
    {r : SegmentRecord} : t.GoesOn c f e x r ↔ s.GoesOn c f e x r :=
  goesOn_of_cat (by rw [channel, h]; rfl)

theorem startsAt_congr {s t : State} {c : Cavity} (h : t.tables = s.tables) {e : Engine} {i : Nat} {f x : Int} :
    t.StartsAt c e i f x ↔ s.StartsAt c e i f x := by
  unfold StartsAt program
  rw [h]

theorem doneUnder_of_cat {s t : State} {c : Cavity} (ht : t.tables = s.tables)
    (hc : t.channel (.cat c) = s.channel (.cat c)) {p : DoorPolicy} {index : Nat} {f : Int} {l l' : LockCtl}
    {e e' : Engine} (h : DoneUnder p s c index f l e l' e') : DoneUnder p t c index f l e l' e' := by
  have hp : t.program c = s.program c := by
    unfold program
    rw [ht]
  obtain ⟨h1, h2, h3⟩ := h
  rw [← hp] at h1 h2 h3
  exact ⟨h1, h2, fun r start hs hr hst ha hg =>
    h3 r start hs hr ((startsAt_congr ht).mp hst) ha ((goesOn_of_cat hc).mp hg)⟩

theorem doneUnder_congr {s t : State} {c : Cavity} (ht : t.tables = s.tables) (hc : t.channels = s.channels)
    {p : DoorPolicy} {index : Nat} {f : Int} {l l' : LockCtl} {e e' : Engine}
    (h : DoneUnder p s c index f l e l' e') : DoneUnder p t c index f l e l' e' :=
  doneUnder_of_cat ht (by rw [channel, hc]; rfl) h

theorem askedByAbort_not_faulted {p : DoorPolicy} {l : LockCtl} (h : l.state ≠ .faulted) :
    (askedByAbort p l).state ≠ .faulted := by
  unfold askedByAbort
  split
  · split
    · exact nofun
    · exact h
  · exact h
  · exact h
  · exact h

/-- An entry's request faults no lock. -/
theorem askedByEntry_not_faulted {p : DoorPolicy} {l : LockCtl} (r : SegmentRecord) (h : l.state ≠ .faulted) :
    (askedByEntry p r l).state ≠ .faulted := by
  unfold askedByEntry
  split
  · split
    · exact h
    · split <;> exact nofun
  · exact h
  · exact h
  · exact h
  · exact askedByAbort_not_faulted h
  · exact askedByAbort_not_faulted h
  · exact askedByAbort_not_faulted h
  · exact h

theorem recordAt_succ {p : List SegmentRecord} {i : Nat} {r : SegmentRecord} (h : recordAt p (i + 1) = some r) :
    ∃ rest, p.drop i = r :: rest := by
  have hi : p[i]? = some r := h
  obtain ⟨hl, he⟩ := List.getElem?_eq_some_iff.mp hi
  exact ⟨_, (List.drop_eq_getElem_cons hl).trans (by rw [he])⟩

/-- The next segment, where it goes on (R90). -/
theorem runFrom_goesOn {s : State} {c : Cavity} {index : Nat} {f start : Int} {r : SegmentRecord}
    (rest : List SegmentRecord) (hrun : (s.engine c).state = .running) (hu : s.unforced c f)
    (hs : s.StartsAt c (s.engine c) index f start) (ha : EntryAnswered (s.lock c) r)
    (hg : s.GoesOn c f (entered (index + 1) start (s.lock c).state r (s.engine c))
      (askedByEntry (s.policy c) r (s.lock c)).state r) :
    runFrom c (r :: rest) (index + 1) s = (s.enterSegment c (index + 1) r).1 := by
  obtain ⟨hv, hf, hm, hl⟩ := hu
  have he := enterSegment_engine hrun hf hs ha
  have hk := enterSegment_lock c (index + 1) r s
  have hc := (EngineActs.enterSegment c (index + 1) r s hrun).channels
  have hcause := enterSegment_causes (c := c) (s := s) (index + 1) ha
  have hu' : (s.enterSegment c (index + 1) r).1.unforced c f :=
    ⟨(isValid_congr hc _).trans hv, (f_congr hc _).trans hf, by rw [he]; exact hm,
      by rw [hk]; exact askedByEntry_not_faulted r hl⟩
  have hd : (s.enterSegment c (index + 1) r).1.segmentDone c r = false :=
    segmentDone_of_goesOn hu'.2.1 (by rw [he, hk]; exact (goesOn_congr hc).mpr hg)
  have hend : ending c r (s.enterSegment c (index + 1) r).2 (s.enterSegment c (index + 1) r).1 = none := by
    rw [hcause]
    exact ending_none hu' nofun rfl rfl rfl rfl hd
  unfold runFrom
  dsimp only
  rw [hend]

/-- The end DONE of the segment at an index (R90, R108, R114). -/
theorem endDone_leads {s : State} {c : Cavity} {index : Nat} {f : Int} (hrun : (s.engine c).state = .running)
    (hu : s.unforced c f) : DoneUnder (s.policy c) s c index f (s.lock c) (s.engine c) ((endDone c index s).lock c)
      ((endDone c index s).engine c) := by
  unfold endDone
  dsimp only
  refine ⟨fun hl => ?_, fun hl hs => ?_, fun r start hs hr hst ha hg => ?_⟩
  · rw [if_pos (Nat.le_of_eq hl)]
    exact ⟨toIdle_engine .., toIdle_lock ..⟩
  · rw [if_neg (Nat.not_le.mpr hl), if_pos (show ((postDone c index s).engine c).singleStep = true from hs)]
    exact ⟨hold_engine .., hold_lock ..⟩
  · obtain ⟨rest, hd⟩ := recordAt_succ hr
    have hl : index < (s.program c).length := by
      refine Nat.not_le.mp fun k => ?_
      rw [List.drop_of_length_le k] at hd
      exact absurd hd nofun
    rw [if_neg (Nat.not_le.mpr hl),
      if_neg (show ¬ ((postDone c index s).engine c).singleStep = true by simp [postDone, hs]), hd,
      runFrom_goesOn (s := postDone c index s) rest hrun hu hst ha hg]
    exact ⟨enterSegment_engine (s := postDone c index s) hrun hu.2.1 hst ha, enterSegment_lock ..⟩

/-- The records of an end DONE (R90, R114). -/
theorem endDone_posted {s : State} {c : Cavity} {index : Nat} :
    (endDone c index s).Posted (.segmentEnded c index .done)
      ∧ ((s.program c).length = index → (endDone c index s).Posted (.cycleEnded c .completed .done)) := by
  have hp := posted_post (.engine c) (.segmentEnded c index .done) s
  unfold endDone
  dsimp only
  constructor
  · split
    · exact hp.quiet (.complete ..)
    · split
      · exact hp.quiet (.hold ..)
      · exact hp.quiet (.runFrom ..)
  · intro hl
    rw [if_pos (Nat.le_of_eq hl)]
    exact Posted.quiet (posted_post (.engine c) (.cycleEnded c .completed .done) _) (.announce _)

/-! ## Peak F -/

variable (c : Cavity)

theorem afterAbort_peakF (k : Condition) (s : State) : (s.afterAbort k c).peakF = (s.engine c).peakF := by
  unfold afterAbort abortedUnder
  split
  · split <;> rfl
  · rfl

theorem abortCycle_peakF (k : Condition) (s : State) : ((abortCycle c k s).engine c).peakF = (s.engine c).peakF := by
  rw [abortCycle_engine, afterAbort_peakF]

theorem enterSegment_peakF (i : Nat) (r : SegmentRecord) (s : State) :
    ((s.enterSegment c i r).1.engine c).peakF = (s.engine c).peakF := by
  show ((announce (entryAsk c r (s.modEngine c _)).1).engine c).peakF = _
  obtain ⟨w, hw⟩ := entryAsk_engine c r (s.modEngine c fun e => s.enterKind c i r (enterCommon i e))
  rw [engine_announce, hw, engine_modEngine_same]
  cases r <;> rfl

theorem runFrom_peakF (l : List SegmentRecord) (i : Nat) (s : State) :
    ((runFrom c l i s).engine c).peakF = (s.engine c).peakF := by
  induction l generalizing i s with
  | nil => rfl
  | cons r rest ih =>
    have he := enterSegment_peakF c i r s
    unfold runFrom
    dsimp only
    split
    · exact he
    · split
      · exact (congrArg Engine.peakF (toIdle_engine ..)).trans he
      · split
        · exact (congrArg Engine.peakF (hold_engine ..)).trans he
        · exact (ih _ _).trans he
    · exact (abortCycle_peakF ..).trans he

theorem judge_peakF (k : Causes) (s : State) : ((judge c k s).engine c).peakF = (s.engine c).peakF := by
  unfold judge
  split
  · split
    · split
      · rfl
      · unfold endDone
        dsimp only
        split
        · exact (congrArg Engine.peakF (toIdle_engine c .completed .done (postDone c _ s))).trans rfl
        · split
          · exact (congrArg Engine.peakF (hold_engine c (postDone c _ s))).trans rfl
          · exact runFrom_peakF ..
      · exact abortCycle_peakF ..
    · rfl
  · split
    · exact abortCycle_peakF ..
    · rfl
  · split
    · exact abortCycle_peakF ..
    · rfl
  · rfl

end State
end Sys2Proof.Machine
end

section
/-!
PROOFS. A temperature that is accepted: the entry it gives and the change it makes known (R8, R11, R13); and the
readers of a FRONT with a new F (R151, R153, R154, R156, R163).
-/

namespace Sys2Proof.Machine

open Sys2Proof State

/-- The entry of a channel whose conversion has been accepted, with its new F (R8, R11). -/
def acceptedEntry (x f : Int) (e : ChannelEntry) : ChannelEntry :=
  { e with state := .valid, previousRaw := some x, staleness := some 0, f := some f, disagreements := 0,
           runClass := none, runCount := 0 }

/-- The F that an acceptance gives: the temperature, or the filter of it in VALID (R11, R26). -/
def acceptedF (x : Int) (e : ChannelEntry) : Int :=
  match e.state, e.f with
  | .valid, some old => filterF old x
  | _, _ => x

theorem acceptedF_of_not_valid {x : Int} {e : ChannelEntry} (h : e.state ≠ .valid) : acceptedF x e = x := by
  unfold acceptedF
  split
  · next hs _ => exact absurd hs h
  · rfl

theorem acceptedF_of_valid {x old : Int} {e : ChannelEntry} (h : e.state = .valid) (hf : e.f = some old) :
    acceptedF x e = (3 * old + x + 2) / 4 := by
  unfold acceptedF
  rw [h, hf]
  rfl

theorem judgeScan_agrees {w x p : Int} {r : Option Nat} {q : Option Qualifier} {e : ChannelEntry}
    (hs : e.state ≠ .failed) (hp : e.previousRaw = some p) (hw : (x - p).natAbs ≤ w.toNat) :
    judgeScan w ⟨.temperature, r, some x, q⟩ e = ⟨acceptedEntry x (acceptedF x e) e, true⟩ := by
  rw [judgeScan_temperature hs rfl rfl]
  simp only [judgeTemperature, hp]
  rw [if_pos (show agrees w x p = true from decide_eq_true hw),
    failChannel_none (by simp [failureOf, acceptTemperature])]
  rfl

namespace State

/-- An accepted conversion, as its readers see it. -/
theorem exec_scan_accepts {s : State} {rtd ref : BitVec 16} {new : ChannelEntry} (ho : s.converter.origin = .scan)
    (he : 50 ≤ s.converter.elapsed) (hj : s.scanJudged rtd ref = ⟨new, true⟩) (hn : new.state = .valid) :
    exec (.scanConversionComplete rtd ref) s = .next
      (channelKnown ⟨s.converter.channel, (s.channel s.converter.channel).state, true⟩
        (entryWritten s.converter.channel new (s.nextStarted (rtd, ref)))).close := by
  have hb : s.scanBase rtd ref = s.nextStarted (rtd, ref) := by
    unfold scanBase postFailure
    rw [hj]
    simp only [hn]
  rw [exec_scan rtd ref ho he]
  show Host.Outcome.next (takeEntry s.converter.channel (s.scanJudged rtd ref).entry (s.scanJudged rtd ref).accepted
    (s.scanBase rtd ref)).close = _
  rw [hb, hj, takeEntry_eq, if_pos (.inl rfl)]
  rfl

end State

/-! ## FRONT -/

namespace Fan

/-- The fan once a new F_front has been judged and its level formed: the two conditions with hysteresis, and the tacho
watch that follows a rise of the level from 0 and a fall to 0 (R151, R153, R154, R156). -/
structure Judged (f : Int) (x y : Fan) : Prop where
  demand : y.frontHotDemand = if x.frontHotDemand = true then decide (800 ≤ f) else decide (850 ≤ f)
  inhibit : y.frontHotInhibit = if x.frontHotInhibit = true then decide (900 ≤ f) else decide (1100 ≤ f)
  frontInvalid : y.frontInvalid = 0
  level : y.level = y.greatest
  rises : x.level = 0 → 0 < y.level → x.watch = .off → y.watch = .grace ∧ y.grace = some 0
  falls : 0 < x.level → y.level = 0 →
    (x.watch = .grace → y.watch = .off ∧ y.grace = none) ∧ (x.watch = .watching → y.watch = .off ∧ y.pulse = none)
  turns : 0 < x.level → 0 < y.level → y.watch = x.watch ∧ y.grace = x.grace ∧ y.pulse = x.pulse

theorem Judged.of_forms {f : Int} {x y : Fan} (h : Forms 0 (x.judgeFront f) y) : Judged f x y := by
  obtain ⟨hlevel, hfront⟩ := h.formed
  obtain ⟨hdemand, hinhibit⟩ := h.frontHot
  obtain ⟨d, k, rfl⟩ := h
  refine ⟨hdemand, hinhibit, hfront, hlevel, ?_, ?_, ?_⟩
  all_goals
    generalize hz : ({ x.judgeFront f with cavityDemand := d, frontInvalid := 0, tripDemand := k } : Fan) = z
    have hl : z.level = x.level := by rw [← hz]; rfl
    have hw : z.watch = x.watch := by rw [← hz]; rfl
    have hg : z.grace = x.grace := by rw [← hz]; rfl
    have hp : z.pulse = x.pulse := by rw [← hz]; rfl
    rw [← hl, ← hw]
  · intro h0 hpos hoff
    have hgr : 0 < z.greatest := by rwa [relevel_rest] at hpos
    simp [relevel, h0, hgr, riseFromZero, hoff]
  · intro hpos h0
    have hgr : z.greatest = 0 := by rwa [relevel_rest] at h0
    have hn : z.level ≠ 0 := Nat.pos_iff_ne_zero.mp hpos
    constructor <;> intro hwatch <;> simp [relevel, hgr, hn, hpos, fallToZero, hwatch]
  · intro hpos hpos'
    have hgr : 0 < z.greatest := by rwa [relevel_rest] at hpos'
    have hn : z.level ≠ 0 := Nat.pos_iff_ne_zero.mp hpos
    simp [relevel, Nat.pos_iff_ne_zero.mp hgr, hn, hg, hp]

end Fan

namespace State

theorem fanSync_forms (s : State) : Fan.Forms s.frontDemand s.fan s.fanSync.fan := by
  exact ⟨_, _, rfl⟩

/-- FRONT with a new F has reached the fan and, where it inhibits heat, the Supervisor and the grants. -/
structure FrontJudged (f : Int) (s t : State) : Prop where
  fan : Fan.Judged f s.fan t.fan
  inhibit : t.sup.inhibit.frontHot = t.fan.frontHotInhibit
  cold : t.fan.frontHotInhibit = true → ∀ c, coldNow t c
  engines : t.engines = s.engines
  locks : t.locks = s.locks

theorem recompute_frontHot (s : State) : s.recompute.sup.inhibit.frontHot = s.recompute.fan.frontHotInhibit :=
  (recompute_enableFollows s).2.2.2.2

/-- Once recomputed, a front-hot inhibit has every element cold (R154, R163). -/
theorem recompute_frontCold {s : State} (h : s.recompute.fan.frontHotInhibit = true) (c : Cavity) :
    coldNow s.recompute c := by
  refine recompute_cold ?_ c
  have hi : s.recompute.sup.inhibit.frontHot = true := (recompute_frontHot s).trans h
  simp [heatInhibit, InhibitSources.any, hi]

theorem acceptedFront_fan {old : ChannelState} {f : Int} {s : State} (hv : s.isValid .front = true)
    (hf : s.f .front = some f) : FrontJudged f s (readerActs ⟨.front, old, true⟩ .fan s) := by
  have he : readerActs ⟨.front, old, true⟩ .fan s = recompute (fanSync (s.setFan (s.fan.judgeFront f))) := by
    show fanReadsFront true s = _
    unfold fanReadsFront
    simp only [hf, hv, and_self, if_true]
  have hd : (s.setFan (s.fan.judgeFront f)).frontDemand = 0 := if_pos hv
  have hs := fanSync_forms (s.setFan (s.fan.judgeFront f))
  rw [hd] at hs
  have hb := Background.recompute (fanSync (s.setFan (s.fan.judgeFront f)))
  have hset := Settles.fanSync (s.setFan (s.fan.judgeFront f))
  rw [he]
  exact {
    fan := .of_forms (by rw [recompute_fan]; exact hs)
    inhibit := recompute_frontHot _
    cold := recompute_frontCold
    engines := hb.engines.trans hset.engines
    locks := hb.locks.trans hset.locks }

theorem judgeReady_fan (s : State) : s.judgeReady.fan = s.fan := by
  unfold judgeReady
  split
  · rfl
  · split
    · exact recompute_fan _
    · rfl

theorem markMeasured_fan (ch : Channel) (s : State) : (markMeasured ch s).fan = s.fan := by
  unfold markMeasured
  split
  · rfl
  · exact judgeReady_fan _

/-- The Supervisor at a FRONT that has not failed. -/
theorem liveFront_supervisor {old : ChannelState} {newF : Bool} {s : State} (hf : s.isFailed .front = false) :
    readerActs ⟨.front, old, newF⟩ .supervisor s = (markMeasured .front s).recompute := by
  have hf' : (markMeasured .front s).isFailed .front = false :=
    (isFailed_congr (Background.markMeasured .front s).channels _).trans hf
  refine if_neg fun ⟨h, _⟩ => ?_
  rw [show (markMeasured .front s).isFailed .front = true from h] at hf'
  exact absurd hf' nofun

/-- The readers of FRONT with a new F, in either order (R13). -/
theorem acceptedFront_known {old : ChannelState} {f : Int} {s : State} (hv : s.isValid .front = true)
    (hfail : s.isFailed .front = false) (hf : s.f .front = some f) :
    FrontJudged f s (channelKnown ⟨.front, old, true⟩ s)
      ∧ (channelKnown ⟨.front, old, true⟩ s).bandIndex = s.bandIndex := by
  have hc : ∀ r t, t.channels = s.channels → (readerActs ⟨.front, old, true⟩ r t).channels = s.channels :=
    fun r t ht => (Quiet.readerActs _ r t).channels.trans ht
  have hsup : ∀ t, t.channels = s.channels → readerActs ⟨.front, old, true⟩ .supervisor t
      = (markMeasured .front t).recompute := fun t ht => liveFront_supervisor ((isFailed_congr ht _).trans hfail)
  have hfan : ∀ t, (markMeasured .front t).recompute.fan = t.fan := fun t =>
    (recompute_fan _).trans (markMeasured_fan ..)
  have hb : ∀ t, Background t (markMeasured .front t).recompute := fun t =>
    (Background.markMeasured .front t).trans (.recompute _)
  have hfanBand : ∀ t, (readerActs ⟨.front, old, true⟩ .fan t).bandIndex = t.bandIndex := fun t => by
    show (fanReadsFront true t).bandIndex = _
    unfold fanReadsFront
    split
    · split
      · exact (Background.recompute _).bandIndex.trans (Settles.fanSync _).bandIndex
      · exact (Settles.fanSync _).bandIndex
    · exact (Settles.fanSync _).bandIndex
  have hother : ∀ r ∈ arrange (readersOf .front) s.order.readers, r ≠ .fan → r = .supervisor := fun r hm hr => by
    have hm' := mem_readers.mp hm
    simp only [readersOf, List.mem_cons, List.not_mem_nil, or_false] at hm'
    exact hm'.resolve_left hr
  suffices h : (channelKnown ⟨.front, old, true⟩ s).channels = s.channels
      ∧ (channelKnown ⟨.front, old, true⟩ s).bandIndex = s.bandIndex
      ∧ FrontJudged f s (channelKnown ⟨.front, old, true⟩ s) from ⟨h.2.2, h.2.1⟩
  refine forEach_once
    (Q := fun t => t.channels = s.channels ∧ t.bandIndex = s.bandIndex ∧ t.fan = s.fan ∧ t.engines = s.engines
      ∧ t.locks = s.locks)
    (T := fun t => t.channels = s.channels ∧ t.bandIndex = s.bandIndex ∧ FrontJudged f s t)
    (readerActs ⟨.front, old, true⟩) .fan (readers_nodup .front s.order.readers)
    (mem_readers.mpr (by simp [readersOf])) (fun t ⟨ht, hi, hx, he, hl⟩ => ?_)
    (fun r hm hr t ⟨ht, hi, hx, he, hl⟩ => ?_)
    (fun r hm hr t ⟨ht, hi, hj⟩ => ?_) s ⟨rfl, rfl, rfl, rfl, rfl⟩
  · have k := acceptedFront_fan (old := old) ((isValid_congr ht _).trans hv) ((f_congr ht _).trans hf)
    exact ⟨hc _ t ht, (hfanBand t).trans hi, hx ▸ k.fan, k.inhibit, k.cold, k.engines.trans he, k.locks.trans hl⟩
  · obtain rfl := hother r hm hr
    have hc' := hc .supervisor t ht
    rw [hsup t ht] at hc' ⊢
    exact ⟨hc', (hb t).bandIndex.trans hi, (hfan t).trans hx, (hb t).engines.trans he, (hb t).locks.trans hl⟩
  · obtain rfl := hother r hm hr
    have hc' := hc .supervisor t ht
    rw [hsup t ht] at hc' ⊢
    refine ⟨hc', (hb t).bandIndex.trans hi, ?_, recompute_frontHot _, recompute_frontCold,
      (hb t).engines.trans hj.engines, (hb t).locks.trans hj.locks⟩
    rw [hfan t]
    exact hj.fan

/-- A FRONT with a new F is measured (R161). -/
theorem acceptedFront_measured {old : ChannelState} {s : State} (hv : s.isValid .front = true)
    (hfail : s.isFailed .front = false) : MeasuredBy .front s (channelKnown ⟨.front, old, true⟩ s) := by
  refine measured_known (x := ⟨.front, old, true⟩) (by simp [readersOf]) (fun t ht => ?_) fun t ht r hr => ?_
  · have hw : (t.channel .front).state ≠ .warmup := fun k => by
      have hs : (t.channel .front).state = .valid := of_decide_eq_true ((isValid_congr ht _).trans hv)
      exact absurd (hs.symm.trans k) nofun
    rw [liveFront_supervisor ((isFailed_congr ht _).trans hfail)]
    exact (markMeasured_measuredBy hw).recomputed (.recompute _) (Quiet.recompute _).outbox (recompute_enableFollows _)
  · cases r with
    | fan =>
      show ReadinessKept t (fanReadsFront true t)
        ∧ ∀ u, MeasuredBy .front u t → MeasuredBy .front u (fanReadsFront true t)
      unfold fanReadsFront
      split
      · next f _ =>
        split
        · have hk : ReadinessKept t (fanSync (t.setFan (t.fan.judgeFront f))) := .of_sup rfl
          have q := (Quiet.readerActs ⟨.front, old, true⟩ .fan t).outbox
          exact ⟨hk.trans (.recompute _), fun u h => h.recomputed (hk.trans (.recompute _))
            (Quiet.recompute (fanSync (t.setFan (t.fan.judgeFront f)))).outbox (recompute_enableFollows _)⟩
        · exact measured_kept (.ofSettles (.fanSync t))
      · exact measured_kept (.ofSettles (.fanSync t))
    | supervisor => exact absurd rfl hr
    | bandTable => exact measured_kept (.refl t)
    | engine => exact measured_kept (.refl t)
    | allocator => exact measured_kept (.refl t)

end State
end Sys2Proof.Machine
end

section
/-!
PROOFS. A judgement that ends a segment DONE or leaves its engine alone, with its records and its grants; and the
readers of a catalyst channel with a new F (R49, R90, R94, R114, R131).
-/

namespace Sys2Proof.Machine

open Sys2Proof State

namespace State

/-! ## The ends of segments and cycles among the records -/

/-- A record of the end of a segment or a cycle of the cavity. -/
def isCycleEnd (c : Cavity) (b : EventBody) : Bool :=
  match b with
  | .segmentEnded d _ _ => decide (d = c)
  | .cycleEnded d _ _ => decide (d = c)
  | _ => false

/-- No record of an end is on its way. -/
def Unended (c : Cavity) (s : State) : Prop := ∀ o ∈ s.events.outbox, isCycleEnd c o.record.body = false

theorem Unended.of_empty {c : Cavity} {s : State} (h : s.events.outbox = []) : Unended c s := by
  unfold Unended
  rw [h]
  exact fun _ ho => absurd ho List.not_mem_nil

theorem Unended.post {c : Cavity} {s : State} (h : Unended c s) (b : Block) {body : EventBody}
    (hb : isCycleEnd c body = false) : Unended c (s.post b body) := fun o ho => by
  rcases List.mem_append.mp ho with ho | ho
  · exact h o ho
  · rw [List.mem_singleton.mp ho]
    exact hb

theorem Unended.congr {c : Cavity} {s t : State} (h : Unended c s) (k : t.events = s.events) : Unended c t := by
  unfold Unended
  rw [k]
  exact h

theorem Unended.close {c : Cavity} {s t : State} (h : Unended c t) (q : t.events.queue = s.events.queue) :
    s.CycleUnrecorded c t.close := by
  have hf := close_filter (fun r => isCycleEnd c r.body) t h
  rw [q] at hf
  exact hf

theorem recompute_events (s : State) : s.recompute.events = s.events := by
  unfold recompute recomputeInhibit recomputeEnable
  rw [(Settles.review _).events, setSup_events, (Settles.judgeAllExpected _).events, setSup_events]

theorem Unended.judgeReady {c : Cavity} {s : State} (h : Unended c s) : Unended c s.judgeReady := by
  unfold State.judgeReady
  split
  · exact h
  · split
    · exact Unended.congr (Unended.post (h.congr rfl) .supervisor rfl) (recompute_events _)
    · exact h

theorem Unended.markMeasured {c : Cavity} {s : State} (ch : Channel) (h : Unended c s) :
    Unended c (markMeasured ch s) := by
  unfold State.markMeasured
  split
  · exact h
  · exact Unended.judgeReady (h.congr rfl)

/-! ## An engine that is left alone -/

/-- The cycle of a cavity stays as it is, and no end is recorded. -/
structure Untouched (c : Cavity) (s t : State) : Prop extends CycleKept c s t where
  tableLocks : t.tableLocks = s.tableLocks
  unended : Unended c s → Unended c t

theorem Untouched.refl (c : Cavity) (s : State) : Untouched c s s := ⟨.refl c s, rfl, id⟩

theorem Untouched.trans {c : Cavity} {s t u : State} (h : Untouched c s t) (k : Untouched c t u) : Untouched c s u :=
  ⟨h.toCycleKept.trans k.toCycleKept, k.tableLocks.trans h.tableLocks, k.unended ∘ h.unended⟩

theorem Untouched.ofSettles {c : Cavity} {s t : State} (h : Settles s t) : Untouched c s t :=
  ⟨.ofRereads (.ofSettles h) c, h.tableLocks, fun k => k.congr h.events⟩

theorem Untouched.markMeasured (c : Cavity) (ch : Channel) (s : State) : Untouched c s (markMeasured ch s) :=
  ⟨.ofRereads (.ofBackground (.markMeasured ch s)) c, (Background.markMeasured ch s).tableLocks, .markMeasured ch⟩

/-! ## An end DONE -/

theorem segmentDone_of_not_goesOn {s : State} {c : Cavity} {f : Int} {r : SegmentRecord} (hf : s.f (.cav c) = some f)
    (h : ¬ s.GoesOn c f (s.engine c) (s.lock c).state r) : s.segmentDone c r = true := by
  cases r with
  | engage => exact decide_eq_true (not_not.mp h)
  | catalyst t l =>
    obtain ⟨hv, x, hx, hge⟩ := not_not.mp h
    refine Bool.and_eq_true_iff.mpr ⟨hv, ?_⟩
    unfold atOrAbove
    rw [hx]
    exact decide_eq_true hge
  | ramp x =>
    obtain ⟨hs, hge⟩ := not_or.mp h
    refine Bool.and_eq_true_iff.mpr ⟨decide_eq_true (not_not.mp hs), ?_⟩
    unfold atOrAbove
    rw [hf]
    exact decide_eq_true (Int.not_lt.mp hge)
  | soak x => exact decide_eq_true (not_not.mp h)
  | cool t l level =>
    unfold segmentDone atOrBelow
    rw [hf]
    exact decide_eq_true (Int.not_lt.mp h)
  | release => exact decide_eq_true (not_not.mp h)

theorem judge_done {s : State} {c : Cavity} {f : Int} {k : Causes} {index : Nat} {r : SegmentRecord}
    (hu : s.unforced c f) (hk : k.catLost = true → s.regulating c = false) (hb : k.breach = false)
    (hj : k.jammed = false) (hd : k.doorOpen = false) (hrun : (s.engine c).state = .running)
    (hi : (s.engine c).segmentIndex = some index) (hr : s.currentRecord c = some r)
    (hg : ¬ s.GoesOn c f (s.engine c) (s.lock c).state r) : judge c k s = endDone c index s := by
  have hend : ending c r k s = some .done := by
    simp [ending, forcedEnding_none hu hk hb, hj, hd, segmentDone_of_not_goesOn hu.2.1 hg]
  unfold judge
  simp only [hrun, hi, hr, hend]

/-- An engine that stops is cold, its table lock is clear where its cycle has ended, and no grant is given (R49,
R131). -/
structure StopsCold (c : Cavity) (s t : State) : Prop where
  holds : ∀ e, t.holdsGrant e = true → s.holdsGrant e = true
  stopped : (s.engine c).state = .running → (t.engine c).state = .running ∨ coldNow t c
  idle : (s.engine c).state = .idle → (t.engine c).state = .idle ∧ t.tableLocks.get c = s.tableLocks.get c
  tableLock : (s.engine c).state ≠ .idle →
    t.tableLocks.get c = (s.tableLocks.get c && decide ((t.engine c).state ≠ .idle))

theorem StopsCold.ofEngine {c : Cavity} {s t : State} (h : EngineActs c s t) : StopsCold c s t where
  holds := h.holds
  stopped hs := by
    rcases h.stopped with k | k | k
    · exact .inl k
    · exact .inl (k ▸ hs)
    · exact .inr k
  idle := h.idle
  tableLock := h.tableLock

theorem StopsCold.ofKept {c : Cavity} {s t : State} (h : ∀ e, t.holdsGrant e = true → s.holdsGrant e = true)
    (he : (t.engine c).state = (s.engine c).state) (ht : t.tableLocks = s.tableLocks) : StopsCold c s t where
  holds := h
  stopped hs := .inl (he.trans hs)
  idle hs := ⟨he.trans hs, by rw [ht]⟩
  tableLock hs := by rw [ht, he, decide_eq_true hs, Bool.and_true]

theorem StopsCold.ofBackground {c : Cavity} {s t : State} (h : Background s t) : StopsCold c s t :=
  .ofKept h.holds (by rw [h.engine]) h.tableLocks

/-- The records of an end DONE, the table lock and the grants, before the close of the event (R90, R114). -/
structure DoneActs (c : Cavity) (index : Nat) (s t : State) : Prop where
  ended : t.Posted (.segmentEnded c index .done)
  completed : (s.program c).length = index → t.Posted (.cycleEnded c .completed .done)
  tableLock : t.tableLocks.get c = (s.tableLocks.get c && decide ((t.engine c).state ≠ .idle))
  stopped : (t.engine c).state ≠ .running → coldNow t c

namespace DoneActs

variable {c : Cavity} {index : Nat} {s t u : State}

theorem ofEndDone (hrun : (s.engine c).state = .running) : DoneActs c index s (endDone c index s) where
  ended := endDone_posted.1
  completed := endDone_posted.2
  tableLock := (EngineActs.endDone c index s hrun).tableLock (by rw [hrun]; exact nofun)
  stopped hn := ((StopsCold.ofEngine (.endDone c index s hrun)).stopped hrun).resolve_left hn

theorem kept (h : DoneActs c index s t) (k : StopsCold c t u) (ho : t.events.outbox <+: u.events.outbox) :
    DoneActs c index s u where
  ended := h.ended.mono ho
  completed hl := (h.completed hl).mono ho
  tableLock := by
    by_cases hi : (t.engine c).state = .idle
    · obtain ⟨hs, ht⟩ := k.idle hi
      rw [ht, h.tableLock, hi, hs]
    · rw [k.tableLock hi, h.tableLock, decide_eq_true hi, Bool.and_true]
  stopped hn := by
    by_cases hr : (t.engine c).state = .running
    · exact (k.stopped hr).resolve_left hn
    · exact coldNow_of_holds k.holds (h.stopped hr)

theorem congr (h : DoneActs c index s t) (hp : u.tables = s.tables) (ht : u.tableLocks = s.tableLocks) :
    DoneActs c index u t where
  ended := h.ended
  completed := by
    unfold program
    rw [hp]
    exact h.completed
  tableLock := by rw [h.tableLock, ht]
  stopped := h.stopped

theorem close (h : DoneActs c index s t) : s.DoneRecorded c index t.close := by
  refine ⟨h.ended.close, fun hl => (h.completed hl).close, ?_, fun hn => ?_⟩
  · rw [engine, close_tableLocks, close_engines]
    exact h.tableLock
  · rw [engine, close_engines] at hn
    have hc := h.stopped hn
    unfold coldNow holdsGrant
    rw [close_alloc]
    exact hc

end DoneActs

/-! ## The readers of a catalyst channel with a new F -/

/-- The readers of a catalyst channel but the engine. -/
theorem catalyst_untouched (c : Cavity) (old : ChannelState) (newF : Bool) (s : State) {r : Reader} (hr : r ≠ .engine) :
    Untouched c s (readerActs ⟨.cat c, old, newF⟩ r s) := by
  cases r with
  | allocator => exact .ofSettles (.review s)
  | supervisor => exact .markMeasured c (.cat c) s
  | engine => exact absurd rfl hr
  | bandTable => exact .refl c s
  | fan => exact .refl c s

theorem catalystLost_valid {s : State} {c : Cavity} (hv : s.isValid (.cat c) = true) (old : ChannelState) :
    s.catalystLost c old = false := by
  have hs : (s.channel (.cat c)).state = .valid := of_decide_eq_true hv
  simp [catalystLost, isValid, isFailed, hs]

/-- The engine at a catalyst channel that is VALID. -/
theorem catalyst_engine {s : State} {c : Cavity} (hv : s.isValid (.cat c) = true) (old : ChannelState) (newF : Bool) :
    readerActs ⟨.cat c, old, newF⟩ .engine s = judge c {} s := by
  show judge c { catLost := s.catalystLost c old } s = _
  rw [catalystLost_valid hv]

theorem CycleKept.unforced {c : Cavity} {s t : State} {f : Int} (h : CycleKept c s t) (hu : s.unforced c f) :
    t.unforced c f :=
  unforced_congr (isValid_congr h.channels _) (f_congr h.channels _) h.engine h.lock hu

theorem CycleKept.goesOn {c : Cavity} {s t : State} {f : Int} {r : SegmentRecord} (h : CycleKept c s t) :
    t.GoesOn c f (t.engine c) (t.lock c).state r ↔ s.GoesOn c f (s.engine c) (s.lock c).state r := by
  rw [h.engine, h.lock]
  exact goesOn_congr h.channels

theorem acceptedCatalyst_goesOn {c : Cavity} {s : State} (old : ChannelState) {f : Int}
    (hv : s.isValid (.cat c) = true) (hu : s.unforced c f)
    (hg : (s.engine c).state = .running →
      ∃ x, s.currentRecord c = some x ∧ s.GoesOn c f (s.engine c) (s.lock c).state x) :
    Untouched c s (channelKnown ⟨.cat c, old, true⟩ s) := by
  refine (forEach_rel (P := fun t => CycleKept c s t) (.refl c) .trans _ _ (fun r _ t ht => ?_) s (.refl c s)).1
  suffices h : Untouched c t (readerActs ⟨.cat c, old, true⟩ r t) from ⟨h, ht.trans h.toCycleKept⟩
  by_cases hr : r = .engine
  · subst hr
    rw [catalyst_engine ((isValid_congr ht.channels _).trans hv), judge_goesOn (k := {}) (ht.unforced hu)
      nofun rfl rfl rfl rfl]
    · exact .refl c t
    · intro hrun r hrec
      rw [ht.engine] at hrun
      obtain ⟨x, hx, hgo⟩ := hg hrun
      obtain rfl : x = r := Option.some.inj (hx.symm.trans ((currentRecord_congr ht.engine ht.tables).symm.trans hrec))
      exact segmentDone_of_goesOn ((f_congr ht.channels _).trans hu.2.1) (ht.goesOn.mpr hgo)
  · exact catalyst_untouched c old true t hr

/-- The end DONE that an F_cat brings, and what the other readers leave of it (R94). -/
theorem acceptedCatalyst_done {c : Cavity} {s : State} (old : ChannelState) {f : Int} {index : Nat} {x : SegmentRecord}
    (hv : s.isValid (.cat c) = true) (hu : s.unforced c f) (hrun : (s.engine c).state = .running)
    (hi : (s.engine c).segmentIndex = some index) (hr : s.currentRecord c = some x)
    (hg : ¬ s.GoesOn c f (s.engine c) (s.lock c).state x) :
    DoneUnder (s.policy c) s c index f (s.lock c) (s.engine c) ((channelKnown ⟨.cat c, old, true⟩ s).lock c)
        ((channelKnown ⟨.cat c, old, true⟩ s).engine c)
      ∧ DoneActs c index s (channelKnown ⟨.cat c, old, true⟩ s) := by
  refine forEach_once (Q := fun t => Untouched c s t ∧ t.bandIndex = s.bandIndex)
    (T := fun t => DoneUnder (s.policy c) s c index f (s.lock c) (s.engine c) (t.lock c) (t.engine c)
      ∧ DoneActs c index s t)
    (readerActs ⟨.cat c, old, true⟩) .engine (readers_nodup ..) (mem_readers.mpr (by simp [readersOf]))
    (fun t ⟨ht, hb⟩ => ?_) (fun r _ hn t ⟨ht, hb⟩ => ?_) (fun r _ hn t ⟨hd, ha⟩ => ?_) s ⟨.refl c s, rfl⟩
  · have hrun' : (t.engine c).state = .running := by rw [ht.engine, hrun]
    rw [catalyst_engine ((isValid_congr ht.channels _).trans hv), judge_done (k := {}) (ht.unforced hu)
      nofun rfl rfl rfl hrun' (by rw [ht.engine, hi]) ((currentRecord_congr ht.engine ht.tables).trans hr)
      (mt ht.goesOn.mp hg)]
    refine ⟨?_, (DoneActs.ofEndDone hrun').congr ht.tables.symm ht.tableLocks.symm⟩
    have h := endDone_leads (index := index) hrun' (ht.unforced hu)
    rw [policy_congr ht.tables hb ht.channels, ht.engine, ht.lock] at h
    exact doneUnder_congr ht.tables.symm ht.channels.symm h
  · exact ⟨ht.trans (catalyst_untouched c old true t hn), (catalyst_background c old true t hn).bandIndex.trans hb⟩
  · have k := catalyst_untouched c old true t hn
    rw [k.lock, k.engine]
    exact ⟨hd, ha.kept (.ofBackground (catalyst_background c old true t hn)) (Quiet.readerActs _ r t).outbox⟩

end State
end Sys2Proof.Machine
end

section
/-!
PROOFS. The Band Table at a cavity channel that is VALID: the index that it takes, and the release that begins where one
waits and the policy has become FREE (R38, R39, R59).
-/

namespace Sys2Proof.Machine

open Sys2Proof State

namespace LockCtl

/-- A release that waits begins under the policy (R59). -/
def Begins (p : DoorPolicy) (l : LockCtl) : Prop := l.state = .engaged ∧ l.releasePending ≠ none ∧ p = .free

theorem bandChange_begins {p : DoorPolicy} {l : LockCtl} (h : Begins p l) :
    bandChange p l = ⟨releaseBegun l, [.changed .engaged .releasing]⟩ := by
  obtain ⟨hs, hp, hf⟩ := h
  rw [bandChange, if_pos ⟨hs, Option.isSome_iff_ne_none.mpr hp, hf⟩, beginRelease, run, hs]
  rfl

theorem bandChange_stays {p : DoorPolicy} {l : LockCtl} (h : ¬ Begins p l) : bandChange p l = l.stay :=
  if_neg fun ⟨hs, hp, hf⟩ => h ⟨hs, Option.isSome_iff_ne_none.mp hp, hf⟩

theorem not_begins_of_none {p : DoorPolicy} {l : LockCtl} (h : l.releasePending = none) : ¬ Begins p l :=
  fun ⟨_, hp, _⟩ => hp h

end LockCtl

namespace State

open LockCtl (Begins)

/-! ## The lock as a reader of the band in force -/

/-- The lock has begun a release, and its engine has not heard of it yet (R59, R66). -/
def releaseBegins (c : Cavity) (s : State) : State :=
  review (s.applyLock c ⟨releaseBegun (s.lock c), [.changed .engaged .releasing]⟩)

theorem releaseBegins_rest (c : Cavity) (s : State) : ∃ x,
    Settles ((s.setLock c (releaseBegun (s.lock c))).setEvents x) (releaseBegins c s) := by
  obtain ⟨x, hx⟩ := applyLock_rest c ⟨releaseBegun (s.lock c), [.changed .engaged .releasing]⟩ s
  refine ⟨x, ?_⟩
  rw [← hx]
  exact .review _

theorem lockEvent_begins {c : Cavity} {s : State} (h : Begins (s.policy c) (s.lock c)) :
    lockEvent c (LockCtl.bandChange (s.policy c) (s.lock c)) s
      = onLockChanged c .engaged .releasing (releaseBegins c s) := by
  rw [LockCtl.bandChange_begins h]
  rfl

theorem lockEvent_stays {c : Cavity} {s : State} (h : ¬ Begins (s.policy c) (s.lock c)) :
    lockEvent c (LockCtl.bandChange (s.policy c) (s.lock c)) s = s.review := by
  rw [LockCtl.bandChange_stays h, lockEvent_stay]

theorem begins_congr {c : Cavity} {s t : State} (h : Settles s t) :
    Begins (t.policy c) (t.lock c) ↔ Begins (s.policy c) (s.lock c) := by
  rw [policy_congr h.tables h.bandIndex h.channels, lock, lock, h.locks]

/-- A change of the band in force with no release to begin settles grants and the fan alone. -/
theorem bandKnown_stays {c : Cavity} {s : State} (h : ¬ Begins (s.policy c) (s.lock c)) : Settles s (bandKnown c s) :=
  (forEach_rel (P := fun t => ¬ Begins (t.policy c) (t.lock c)) .refl .trans _ _ (fun r _ t ht => by
    suffices k : Settles t (bandReaderActs c r t) from ⟨k, mt (begins_congr k).mp ht⟩
    cases r with
    | allocator => exact .review t
    | fan => exact .fanSync t
    | lock =>
      rw [show bandReaderActs c .lock t = _ from lockEvent_stays ht]
      exact .review t) s h).1

/-- A change of the band in force that begins a release: before and after the lock acts, grants and the fan settle. -/
theorem bandKnown_begins {c : Cavity} {s : State} (h : Begins (s.policy c) (s.lock c)) : ∃ v, Settles s v
    ∧ Settles (onLockChanged c .engaged .releasing (releaseBegins c v)) (bandKnown c s) := by
  refine forEach_once (Q := fun t => Settles s t)
    (T := fun t => ∃ v, Settles s v ∧ Settles (onLockChanged c .engaged .releasing (releaseBegins c v)) t)
    (bandReaderActs c) .lock ((arrange_perm ..).nodup_iff.mpr (by decide)) ((arrange_perm ..).mem_iff.mpr (by simp))
    (fun t ht => ⟨t, ht, ?_⟩) (fun r _ hr t ht => ?_) (fun r _ hr t ⟨v, hv, ht⟩ => ⟨v, hv, ?_⟩) s (.refl s)
  · rw [show bandReaderActs c .lock t = _ from lockEvent_begins ((begins_congr ht).mpr h)]
    exact .refl _
  · cases r with
    | allocator => exact ht.trans (.review t)
    | fan => exact ht.trans (.fanSync t)
    | lock => exact absurd rfl hr
  · cases r with
    | allocator => exact ht.trans (.review t)
    | fan => exact ht.trans (.fanSync t)
    | lock => exact absurd rfl hr

/-! ## The index taken -/

/-- What the Band Table brings about with the index that it takes. -/
inductive BandTaken (c : Cavity) (i : BandIndex) (s t : State) : Prop
  | stays (rest : Settles (s.setBandIndex c i) t)
      (waits : s.bandIndex.get c ≠ i → ¬ Begins ((s.setBandIndex c i).policy c) (s.lock c))
  | begins (v : State) (change : Begins ((s.setBandIndex c i).policy c) (s.lock c))
      (before : Settles (s.setBandIndex c i) v)
      (after : Settles (onLockChanged c .engaged .releasing (releaseBegins c v)) t)

theorem setBandIndex_self {c : Cavity} {i : BandIndex} {s : State} (h : s.bandIndex.get c = i) :
    s.setBandIndex c i = s := by
  subst h
  show { s with bandIndex := s.bandIndex.set c (s.bandIndex.get c) } = s
  rw [PerCavity.set_get]

theorem takeBand_taken (c : Cavity) (i : BandIndex) (s : State) : BandTaken c i s (takeBand c i s) := by
  unfold takeBand
  split
  · next h =>
    refine .stays ?_ fun hn => absurd h hn
    rw [setBandIndex_self h]
    exact .refl s
  · by_cases h : Begins ((s.setBandIndex c i).policy c) ((s.setBandIndex c i).lock c)
    · obtain ⟨v, hv, ht⟩ := bandKnown_begins h
      exact .begins v h hv ht
    · exact .stays (bandKnown_stays h) fun _ => h

/-- The index that a new F gives (R38, R39). -/
def bandOf (s : State) (c : Cavity) (old : ChannelState) (f : Int) : BandIndex :=
  if old = .valid then evaluate (s.bandTable c) (s.bandIndex.get c) f else lookup (s.bandTable c) f

theorem bandReads_valid {s : State} {c : Cavity} {old : ChannelState} {f : Int} (hv : s.isValid (.cav c) = true)
    (hf : s.f (.cav c) = some f) : bandReads c old s = takeBand c (s.bandOf c old f) s := by
  have hs : (s.channel (.cav c)).state = .valid := of_decide_eq_true hv
  have hf' : (s.channel (.cav c)).f = some f := hf
  unfold bandReads bandOf
  simp only [hs, hf', if_true]
  split <;> rfl

theorem bandOf_congr {s t : State} (ht : t.tables = s.tables) (hb : t.bandIndex = s.bandIndex) (c : Cavity)
    (old : ChannelState) (f : Int) : t.bandOf c old f = s.bandOf c old f := by
  unfold bandOf bandTable
  rw [ht, hb]

/-! ## What the engine and the lock come to -/

theorem releaseBegins_acts (c : Cavity) (s : State) : EngineActs c s (releaseBegins c s) := by
  refine EngineActs.trans ?_ (.ofSettles (.review _))
  exact .ofFrame (.applyLock _ _ _ rfl) (engine_applyLock ..) (tableLocks_applyLock ..)

namespace BandTaken

variable {c : Cavity} {i : BandIndex} {s t : State}

theorem acts (h : BandTaken c i s t) : EngineActs c (s.setBandIndex c i) t := by
  cases h with
  | stays k _ => exact .ofSettles k
  | begins v _ hv ht =>
    exact (((EngineActs.ofSettles hv).trans (releaseBegins_acts c v)).trans (.onLockChanged c _ _ _)).trans
      (.ofSettles ht)

theorem bandIndex (h : BandTaken c i s t) : t.bandIndex = s.bandIndex.set c i := h.acts.bandIndex

theorem channels (h : BandTaken c i s t) : t.channels = s.channels := h.acts.channels

/-- The policy in force once the index is taken. -/
theorem policy_taken (h : BandTaken c i s t) (ht : t.tables = s.tables) :
    t.policy c = (s.setBandIndex c i).policy c :=
  policy_congr (s := s.setBandIndex c i) ht h.bandIndex h.channels c

end BandTaken
end State
end Sys2Proof.Machine
end

section
/-!
PROOFS. A cycle that a change of its cavity channel does not end: the engine raises peak F at most, and the lock begins
the release that waits at most (R59, R91, R102).
-/

namespace Sys2Proof.Machine

open Sys2Proof State

namespace State

open LockCtl (Begins)

/-! ## A judgement without effect -/

/-- Nothing ends the cycle's segment: the engine is in no cycle, or its segment goes on and nothing forces its end. -/
def Steady (c : Cavity) (f : Int) (s : State) : Prop :=
  s.inCycle c = false ∨ s.unforced c f ∧ ((s.engine c).state = .running → ∀ r, s.currentRecord c = some r →
    s.GoesOn c f (s.engine c) (s.lock c).state r)

theorem judge_notInCycle {s : State} {c : Cavity} (k : Causes) (h : s.inCycle c = false) : judge c k s = s := by
  have hn := mt (inCycle_iff c s).mpr (by rw [h]; exact nofun)
  unfold judge
  split
  · next he => exact absurd (.inl he) hn
  · next he => exact absurd (.inr (.inl he)) hn
  · next he => exact absurd (.inr (.inr he)) hn
  · rfl

theorem Steady.judge {s : State} {c : Cavity} {f : Int} (h : Steady c f s) : judge c {} s = s := by
  rcases h with h | ⟨hu, hg⟩
  · exact judge_notInCycle {} h
  · exact judge_goesOn hu nofun rfl rfl rfl rfl fun hrun r hr => segmentDone_of_goesOn hu.2.1 (hg hrun r hr)

/-- A lock that has begun a release is no matter of an engine with nothing to end (R93, R104, R113). -/
theorem onLockChanged_steady {s : State} {c : Cavity} (a : LockState) (hl : (s.lock c).state = .releasing)
    (hj : judge c {} s = s) : onLockChanged c a .releasing s = s := by
  unfold onLockChanged
  split
  · exact if_neg fun ⟨_, h⟩ => by rw [hl] at h; exact h.elim nofun nofun
  · rfl
  · rw [if_neg (by simp), hj]

/-! ## What such a cycle comes to -/

/-- The engine keeps everything but peak F, and the lock begins the release that waits at most. -/
structure CycleGoesOn (c : Cavity) (s t : State) : Prop where
  tables : t.tables = s.tables
  channels : t.channels = s.channels
  engine : ∃ p, t.engine c = { s.engine c with peakF := p }
  lock : t.lock c = s.lock c
    ∨ (s.lock c).state = .engaged ∧ (s.lock c).releasePending ≠ none ∧ t.lock c = releaseBegun (s.lock c)

/-- So does the table lock, and no end is recorded. -/
structure CycleSilent (c : Cavity) (s t : State) : Prop extends CycleGoesOn c s t where
  tableLocks : t.tableLocks = s.tableLocks
  unended : Unended c s → Unended c t

theorem CycleGoesOn.ofKept {c : Cavity} {s t : State} (h : CycleKept c s t) : CycleGoesOn c s t :=
  ⟨h.tables, h.channels, ⟨_, h.engine⟩, .inl h.lock⟩

theorem CycleGoesOn.refl (c : Cavity) (s : State) : CycleGoesOn c s s := .ofKept (.refl c s)

theorem CycleGoesOn.trans {c : Cavity} {s t u : State} (h : CycleGoesOn c s t) (k : CycleGoesOn c t u) :
    CycleGoesOn c s u := by
  obtain ⟨p, hp⟩ := h.engine
  obtain ⟨q, hq⟩ := k.engine
  refine ⟨k.tables.trans h.tables, k.channels.trans h.channels, ⟨q, by rw [hq, hp]⟩, ?_⟩
  have hk := k.lock
  rcases h.lock with hl | ⟨hs, hn, hl⟩
  · rwa [hl] at hk
  · rw [hl] at hk
    rcases hk with hk | ⟨_, hn', _⟩
    · exact .inr ⟨hs, hn, hk⟩
    · exact absurd rfl hn'

theorem CycleSilent.ofUntouched {c : Cavity} {s t : State} (h : Untouched c s t) : CycleSilent c s t :=
  ⟨.ofKept h.toCycleKept, h.tableLocks, h.unended⟩

theorem CycleSilent.refl (c : Cavity) (s : State) : CycleSilent c s s := .ofUntouched (.refl c s)

theorem CycleSilent.trans {c : Cavity} {s t u : State} (h : CycleSilent c s t) (k : CycleSilent c t u) :
    CycleSilent c s u :=
  ⟨h.toCycleGoesOn.trans k.toCycleGoesOn, k.tableLocks.trans h.tableLocks, k.unended ∘ h.unended⟩

/-- The end condition of a segment does not read peak F (R93 to R100). -/
theorem goesOn_peak {s : State} {c : Cavity} {f : Int} {e : Engine} {p : Option Int} {x : LockState}
    {r : SegmentRecord} : s.GoesOn c f { e with peakF := p } x r ↔ s.GoesOn c f e x r := by
  cases r <;> exact Iff.rfl

/-- A lock that begins a release ends no segment (R93, R100). -/
theorem goesOn_releasing {s : State} {c : Cavity} {f : Int} {e : Engine} {x : LockState} {r : SegmentRecord}
    (h : s.GoesOn c f e x r) : s.GoesOn c f e .releasing r := by
  cases r with
  | engage => exact nofun
  | release => exact nofun
  | catalyst a b => exact h
  | ramp a => exact h
  | soak a => exact h
  | cool a b d => exact h

theorem Steady.goesOn {s t : State} {c : Cavity} {f : Int} (h : Steady c f s) (k : CycleGoesOn c s t) :
    Steady c f t := by
  obtain ⟨p, hp⟩ := k.engine
  have hstate : (t.engine c).state = (s.engine c).state := by rw [hp]
  rcases h with h | ⟨⟨hv, hf, hm, hl⟩, hg⟩
  · refine .inl ?_
    unfold inCycle at h ⊢
    rw [hstate]
    exact h
  · refine .inr ⟨⟨(isValid_congr k.channels _).trans hv, (f_congr k.channels _).trans hf, by rw [hp]; exact hm, ?_⟩,
      fun hrun r hr => ?_⟩
    · rcases k.lock with hk | ⟨_, _, hk⟩ <;> rw [hk]
      · exact hl
      · exact nofun
    · have hr' : s.currentRecord c = some r := by
        unfold currentRecord program at hr ⊢
        rw [hp, k.tables] at hr
        exact hr
      have hgo := hg (hstate ▸ hrun) r hr'
      rw [hp, goesOn_peak, goesOn_congr k.channels]
      rcases k.lock with hk | ⟨_, _, hk⟩ <;> rw [hk]
      · exact hgo
      · exact goesOn_releasing hgo

/-! ## The release that begins -/

theorem releaseBegins_lock (c : Cavity) (s : State) : (releaseBegins c s).lock c = releaseBegun (s.lock c) := by
  unfold releaseBegins
  rw [lock_review, applyLock_lock_same]

theorem releaseBegins_eq (c : Cavity) (s : State) : releaseBegins c s
    = review ((s.setLock c (releaseBegun (s.lock c))).post (.lock c) (.lockChanged c .releasing)) := rfl

theorem releaseBegins_silent {c : Cavity} {s : State} (hs : (s.lock c).state = .engaged)
    (hp : (s.lock c).releasePending ≠ none) : CycleSilent c s (releaseBegins c s) := by
  have hr := Settles.review ((s.setLock c (releaseBegun (s.lock c))).post (.lock c) (.lockChanged c .releasing))
  refine ⟨⟨hr.tables, hr.channels, ⟨_, (engine_review ..).trans rfl⟩, .inr ⟨hs, hp, releaseBegins_lock c s⟩⟩,
    hr.tableLocks, fun h => ?_⟩
  exact Unended.congr (Unended.post (h.congr rfl) (.lock c) rfl) hr.events

theorem Untouched.setBandIndex (c : Cavity) (i : BandIndex) (s : State) : Untouched c s (s.setBandIndex c i) :=
  ⟨⟨rfl, rfl, rfl, rfl⟩, rfl, id⟩

/-- The Band Table at a cycle that it does not end. -/
theorem BandTaken.silent {c : Cavity} {i : BandIndex} {s t : State} {f : Int} (h : BandTaken c i s t)
    (hs : Steady c f s) : CycleSilent c s t := by
  have hw := Untouched.setBandIndex c i s
  cases h with
  | stays k _ => exact .ofUntouched (hw.trans (.ofSettles k))
  | begins v hb hv ht =>
    have hsv := hw.trans (.ofSettles hv)
    obtain ⟨he, hp, -⟩ := hb
    have hrel := releaseBegins_silent (c := c) (s := v) (by rw [hsv.lock]; exact he) (by rw [hsv.lock]; exact hp)
    have hall := (CycleSilent.ofUntouched hsv).trans hrel
    have hj := (hs.goesOn hall.toCycleGoesOn).judge
    rw [onLockChanged_steady .engaged (by rw [releaseBegins_lock]; rfl) hj] at ht
    exact hall.trans (.ofUntouched (.ofSettles ht))

/-- The lock once the engine, which it does not concern, has heard of the release (R59, R66). -/
theorem releaseBegins_known {c : Cavity} {i : BandIndex} {s v t : State} {f : Int} (hs : Steady c f s)
    (hb : Begins ((s.setBandIndex c i).policy c) (s.lock c)) (hv : Settles (s.setBandIndex c i) v)
    (ht : Settles (onLockChanged c .engaged .releasing (releaseBegins c v)) t) :
    t.lock c = releaseBegun (s.lock c) := by
  have hsv := (Untouched.setBandIndex c i s).trans (.ofSettles hv)
  obtain ⟨he, hp, -⟩ := hb
  have hrel := releaseBegins_silent (c := c) (s := v) (by rw [hsv.lock]; exact he) (by rw [hsv.lock]; exact hp)
  have hj := (hs.goesOn ((CycleSilent.ofUntouched hsv).trans hrel).toCycleGoesOn).judge
  rw [onLockChanged_steady .engaged (by rw [releaseBegins_lock]; rfl) hj] at ht
  have hlock : t.lock c = (releaseBegins c v).lock c := (Untouched.ofSettles ht).lock
  rw [hlock, releaseBegins_lock, hsv.lock]

/-- A release that waits and becomes free to go has begun (R59). -/
theorem BandTaken.begun {c : Cavity} {i : BandIndex} {s t : State} {f : Int} (h : BandTaken c i s t)
    (hs : Steady c f s) (hi : s.bandIndex.get c ≠ i) (hb : Begins ((s.setBandIndex c i).policy c) (s.lock c)) :
    t.lock c = releaseBegun (s.lock c) := by
  cases h with
  | stays _ hn => exact absurd hb (hn hi)
  | begins v _ hv ht => exact releaseBegins_known hs hb hv ht

/-! ## Peak F -/

/-- Peak F once the engine has seen an F (R102). -/
def raisedPeak (f : Int) (e : Engine) : Option Int :=
  if e.state = .idle then e.peakF
  else some (match e.peakF with
    | some p => max p f
    | none => f)

theorem setEngine_self (c : Cavity) (s : State) : s.setEngine c (s.engine c) = s := by
  show { s with engines := s.engines.set c (s.engines.get c) } = s
  rw [PerCavity.set_get]

theorem raisedPeak_of_not_above {f : Int} {e : Engine} (h : ¬ (e.state ≠ .idle ∧ abovePeak e.peakF f)) :
    raisedPeak f e = e.peakF := by
  unfold raisedPeak
  split
  · rfl
  · next hi =>
    have ha := fun k => h ⟨hi, k⟩
    unfold abovePeak at ha
    split
    · next p hp =>
      rw [hp] at ha
      rw [max_eq_left (Int.not_lt.mp fun hlt => ha (decide_eq_true hlt)), hp]
    · next hp => exact absurd (by rw [hp]) ha

theorem raisedPeak_of_above {f : Int} {e : Engine} (hi : e.state ≠ .idle) (h : abovePeak e.peakF f = true) :
    raisedPeak f e = some f := by
  unfold raisedPeak
  rw [if_neg hi]
  unfold abovePeak at h
  split
  · next p hp =>
    rw [hp] at h
    rw [max_eq_right (Int.le_of_lt (of_decide_eq_true h))]
  · rfl

theorem raisePeak_eq {s : State} {c : Cavity} {f : Int} (hf : s.f (.cav c) = some f) :
    raisePeak c s = s.setEngine c { s.engine c with peakF := raisedPeak f (s.engine c) } := by
  unfold raisePeak
  rw [hf]
  dsimp only
  split
  · next h => rw [raisedPeak_of_above h.1 h.2, modEngine]
  · next h => rw [raisedPeak_of_not_above h, setEngine_self]

theorem raisePeak_silent {s : State} {c : Cavity} {f : Int} (hf : s.f (.cav c) = some f) :
    CycleSilent c s (raisePeak c s) := by
  rw [raisePeak_eq hf]
  exact ⟨⟨rfl, rfl, ⟨_, engine_setEngine_same ..⟩, .inl rfl⟩, rfl, id⟩

theorem onLockChanged_peakF (c : Cavity) (a : LockState) (s : State) :
    ((onLockChanged c a .releasing s).engine c).peakF = (s.engine c).peakF := by
  unfold onLockChanged
  split
  · unfold judgeSafeCool
    dsimp only
    split
    · rw [toIdle_engine]
      rfl
    · rfl
  · rfl
  · rw [if_neg (by simp)]
    exact judge_peakF ..

theorem BandTaken.peakF {c : Cavity} {i : BandIndex} {s t : State} (h : BandTaken c i s t) :
    (t.engine c).peakF = (s.engine c).peakF := by
  have settled : ∀ {u v : State}, Settles u v → (v.engine c).peakF = (u.engine c).peakF := fun h => by
    rw [(Untouched.ofSettles (c := c) h).engine]
  cases h with
  | stays k _ => exact settled (u := s.setBandIndex c i) k
  | begins v _ hv ht =>
    have hr : (releaseBegins c v).engine c = v.engine c := (engine_review ..).trans (engine_applyLock ..)
    rw [settled ht, onLockChanged_peakF, hr]
    exact settled (u := s.setBandIndex c i) hv

end State
end Sys2Proof.Machine
end

section
/-!
PROOFS. The Supervisor at a new F of a cavity channel: the measured flag, OVERHEAT and its timer; and what the Band
Table and the engine leave of it (R112, R161, R164, R166).
-/

namespace Sys2Proof.Machine

open Sys2Proof State

namespace State

/-! ## The other two readers leave the Supervisor alone -/

theorem raisePeak_frame (c : Cavity) (s : State) : EngineFrame c s (raisePeak c s) := by
  unfold raisePeak
  split
  · split
    · exact .modEngine ..
    · exact .ofSettles (.refl s)
  · exact .ofSettles (.refl s)

theorem engineReadsCavity_frame (c : Cavity) (newF : Bool) (s : State) :
    EngineFrame c s (engineReadsCavity c newF s) := by
  unfold engineReadsCavity onlyIf
  split
  · exact (raisePeak_frame c s).trans (EngineActs.judge c {} _).toEngineFrame
  · exact (EngineActs.judge c {} s).toEngineFrame

theorem BandTaken.supKept {c : Cavity} {i : BandIndex} {s t : State} (h : BandTaken c i s t) : SupKept s t := by
  refine (SupKept.setBandIndex s c i).trans ?_
  cases h with
  | stays k _ => exact .ofSettles k
  | begins v _ hv ht =>
    have hr := SupKept.ofEngine (releaseBegins_acts c v).toEngineFrame ((Quiet.applyLock c _ v).trans (.review _))
    have hl := SupKept.ofEngine (EngineActs.onLockChanged c .engaged .releasing (releaseBegins c v)).toEngineFrame
      (.onLockChanged ..)
    exact (((SupKept.ofSettles hv).trans hr).trans hl).trans (.ofSettles ht)

/-! ## OVERHEAT -/

theorem judgeOverheat_below {c : Cavity} {f : Int} {s : State} (h : f < 5800) :
    judgeOverheat c f s = setOverheat c (s.sup.overheat.get c) none s := if_neg (Int.not_le.mpr h)

theorem judgeOverheat_latched {c : Cavity} {f : Int} {s : State} (h : 5800 ≤ f) (ho : s.sup.overheat.get c = true) :
    judgeOverheat c f s = if s.sup.overheatTimer.get c = none then setOverheat c true (some 0) s else s := by
  rw [judgeOverheat, if_pos h, if_pos ho]

/-- OVERHEAT newly latched, before the fault takes effect. -/
def overheatRaised (c : Cavity) (s : State) : State :=
  setOverheat c true (some 0) (post .supervisor (.faultRaised (some c) .overheat none) s)

theorem judgeOverheat_new {c : Cavity} {f : Int} {s : State} (h : 5800 ≤ f) (ho : s.sup.overheat.get c = false) :
    judgeOverheat c f s = systemFault (overheatRaised c s) := by
  rw [judgeOverheat, if_pos h, if_neg (by rw [ho]; exact nofun)]
  rfl

theorem cavity_supervisor {c : Cavity} {old : ChannelState} {f : Int} {s : State} (hf : s.f (.cav c) = some f) :
    readerActs ⟨.cav c, old, true⟩ .supervisor s = judgeOverheat c f (markMeasured (.cav c) s) := by
  have hf' : (markMeasured (.cav c) s).f (.cav c) = some f :=
    (f_congr (Background.markMeasured (.cav c) s).channels _).trans hf
  show supReadsF c true (markMeasured (.cav c) s) = _
  unfold supReadsF
  rw [hf']
  rfl

/-- Below 580.0 °C the Supervisor stops its timer at most. -/
theorem coolCavity_supervisor {c : Cavity} {old : ChannelState} {f : Int} {s : State} (hf : s.f (.cav c) = some f)
    (h : f < 5800) : Untouched c s (readerActs ⟨.cav c, old, true⟩ .supervisor s) := by
  rw [cavity_supervisor hf, judgeOverheat_below h]
  exact (Untouched.markMeasured c (.cav c) s).trans ⟨⟨rfl, rfl, rfl, rfl⟩, rfl, id⟩

theorem systemAbort_bandIndex (s : State) : s.systemAbort.bandIndex = s.bandIndex :=
  (EngineActs.abortCycle .b .system _).bandIndex.trans (EngineActs.abortCycle .a .system s).bandIndex

theorem systemFault_bandIndex (s : State) : s.systemFault.bandIndex = s.bandIndex :=
  (systemAbort_bandIndex _).trans (Background.recompute s).bandIndex

theorem cavity_supervisor_bandIndex {c : Cavity} {old : ChannelState} {f : Int} {s : State}
    (hf : s.f (.cav c) = some f) :
    (readerActs ⟨.cav c, old, true⟩ .supervisor s).bandIndex = s.bandIndex := by
  rw [cavity_supervisor hf]
  refine Eq.trans ?_ (Background.markMeasured (.cav c) s).bandIndex
  unfold judgeOverheat
  split
  · split
    · split <;> rfl
    · exact systemFault_bandIndex _
  · rfl

/-- A system abort leaves alone what is in no cycle (R112). -/
theorem systemAbort_notInCycle {c : Cavity} {s : State} (h : s.inCycle c = false) : CycleKept c s s.systemAbort := by
  have q := Quiet.systemAbort s
  have ha := EngineActs.abortCycle .a .system s
  have hb := EngineActs.abortCycle .b .system (abortCycle .a .system s)
  refine ⟨q.tables, q.channels, (systemAbort_engine s c).trans (if_neg (by rw [h]; exact nofun)), ?_⟩
  cases c with
  | a => exact (hb.otherLock .a nofun).trans (by rw [abortCycle_none _ _ _ h])
  | b =>
    have hn : (abortCycle .a .system s).inCycle .b = false := (inCycle_congr (ha.otherEngine .b nofun)).trans h
    show (abortCycle .b .system (abortCycle .a .system s)).lock .b = s.lock .b
    rw [abortCycle_none _ _ _ hn]
    exact ha.otherLock .b nofun

theorem systemFault_notInCycle {c : Cavity} {s : State} (h : s.inCycle c = false) : CycleKept c s s.systemFault := by
  have hr : CycleKept c s s.recompute := .ofRereads (.ofBackground (.recompute s)) c
  exact hr.trans (systemAbort_notInCycle ((inCycle_congr hr.engine).trans h))

theorem systemFault_inCycle {s : State} (h : s.recompute.heatInhibit = true) (c : Cavity) :
    s.systemFault.inCycle c = false :=
  (inCycle_congr ((systemFault_stops h c).1.trans (abortCycle_engine c .system s).symm)).trans (abortCycle_inCycle ..)

/-- The Supervisor leaves alone what is in no cycle. -/
theorem notInCycle_supervisor {c : Cavity} {old : ChannelState} {f : Int} {s : State} (hf : s.f (.cav c) = some f)
    (h : s.inCycle c = false) : CycleKept c s (readerActs ⟨.cav c, old, true⟩ .supervisor s) := by
  have hm := (Untouched.markMeasured c (.cav c) s).toCycleKept
  rw [cavity_supervisor hf]
  refine hm.trans ?_
  generalize markMeasured (.cav c) s = m at hm
  have set : ∀ x t, CycleKept c m (setOverheat c x t m) := fun _ _ => ⟨rfl, rfl, rfl, rfl⟩
  by_cases hlow : f < 5800
  · rw [judgeOverheat_below hlow]
    exact set ..
  · cases ho : m.sup.overheat.get c with
    | true =>
      rw [judgeOverheat_latched (Int.not_lt.mp hlow) ho]
      split
      · exact set ..
      · exact .refl c m
    | false =>
      rw [judgeOverheat_new (Int.not_lt.mp hlow) ho]
      have hr : CycleKept c m (overheatRaised c m) := ⟨rfl, rfl, rfl, rfl⟩
      exact hr.trans (systemFault_notInCycle ((inCycle_congr hr.engine).trans ((inCycle_congr hm.engine).trans h)))

/-! ## What OVERHEAT brings about -/

/-- Both cycles aborted with SYSTEM by a new OVERHEAT of a cavity, drive enable off, and every element cold (R112,
R164). -/
structure OverheatStops (c : Cavity) (s t : State) : Prop where
  driveEnable : t.sup.driveEnable = false
  inCycle : ∀ d, t.inCycle d = false
  cold : ∀ d, coldNow t d
  other : t.engine c.other = s.afterAbort .system c.other
  raised : t.Posted (.faultRaised (some c) .overheat none)

/-- OVERHEAT and its timer as a new F leaves them (R164, R166). -/
structure OverheatJudged (c : Cavity) (f : Int) (s t : State) : Prop where
  below : f < 5800 → t.sup.overheat = s.sup.overheat ∧ t.sup.overheatTimer = s.sup.overheatTimer.set c none
  above : 5800 ≤ f → t.sup.overheat = s.sup.overheat.set c true ∧ t.sup.overheatTimer = s.sup.overheatTimer.set c
    (if s.sup.overheat.get c = true ∧ s.sup.overheatTimer.get c ≠ none then s.sup.overheatTimer.get c else some 0)
  stops : 5800 ≤ f → s.sup.overheat.get c = false → OverheatStops c s t

theorem systemFault_sup (s : State) : s.systemFault.sup = s.recompute.sup := (SupKept.systemAbort _).sup

theorem overheatRaised_stops {c : Cavity} {m : State} : OverheatStops c m (systemFault (overheatRaised c m)) := by
  have hflag : (overheatRaised c m).recompute.sup.overheat.get c = true := by
    rw [recompute_sup]
    exact PerCavity.get_set_same ..
  have hoff : (overheatRaised c m).recompute.sup.driveEnable = false := by
    refine Bool.eq_false_iff.mpr fun k => ?_
    obtain ⟨-, -, -, -, ho, -⟩ := (recompute_enableFollows (overheatRaised c m)).1.mp k
    exact absurd (hflag.symm.trans (ho c)) nofun
  have hheat : (overheatRaised c m).recompute.heatInhibit = true := by
    have hd := (recompute_enableFollows (overheatRaised c m)).2.1
    rw [hoff] at hd
    simp [heatInhibit, InhibitSources.any, hd]
  exact {
    driveEnable := by rw [systemFault_sup]; exact hoff
    inCycle := systemFault_inCycle hheat
    cold := fun d => (systemFault_stops hheat d).2
    other := ((systemFault_stops hheat c.other).1).trans (afterAbort_congr rfl rfl _)
    raised := (posted_post .supervisor (.faultRaised (some c) .overheat none) m).mono
      (Quiet.systemFault (overheatRaised c m)).outbox }

theorem judgeOverheat_judged (c : Cavity) (f : Int) (m : State) : OverheatJudged c f m (judgeOverheat c f m) := by
  by_cases hlow : f < 5800
  · rw [judgeOverheat_below hlow]
    exact ⟨fun _ => ⟨PerCavity.set_get .., rfl⟩, fun h => absurd hlow (Int.not_lt.mpr h),
      fun h => absurd hlow (Int.not_lt.mpr h)⟩
  · have hhigh := Int.not_lt.mp hlow
    cases ho : m.sup.overheat.get c with
    | true =>
      rw [judgeOverheat_latched hhigh ho]
      refine ⟨fun h => absurd h hlow, fun _ => ?_, fun _ h => absurd (ho.symm.trans h) nofun⟩
      split
      · next hn =>
        rw [if_neg (fun k => k.2 hn)]
        exact ⟨rfl, rfl⟩
      · next hn =>
        rw [if_pos ⟨ho, hn⟩, PerCavity.set_get, ← ho, PerCavity.set_get]
        exact ⟨rfl, rfl⟩
    | false =>
      rw [judgeOverheat_new hhigh ho]
      refine ⟨fun h => absurd h hlow, fun _ => ?_, fun _ _ => overheatRaised_stops⟩
      rw [systemFault_sup, recompute_sup, if_neg (fun ⟨k, _⟩ => by rw [ho] at k; exact absurd k nofun)]
      exact ⟨rfl, rfl⟩

/-! ## Through the other readers -/

theorem OverheatJudged.congr {c : Cavity} {f : Int} {s m t : State} (h : OverheatJudged c f m t)
    (ho : m.sup.overheat = s.sup.overheat) (ht : m.sup.overheatTimer = s.sup.overheatTimer)
    (he : m.engine c.other = s.engine c.other) (hl : m.lock c.other = s.lock c.other) : OverheatJudged c f s t where
  below := by
    rw [← ho, ← ht]
    exact h.below
  above := by
    rw [← ho, ← ht]
    exact h.above
  stops hf hn := by
    obtain ⟨hd, hc, hcold, hother, hr⟩ := h.stops hf (by rw [ho]; exact hn)
    exact ⟨hd, hc, hcold, hother.trans (afterAbort_congr he hl _), hr⟩

theorem other_of_ne {c d : Cavity} (h : d ≠ c) : d = c.other := by
  cases c with
  | a =>
    cases d with
    | a => exact absurd rfl h
    | b => rfl
  | b =>
    cases d with
    | a => rfl
    | b => exact absurd rfl h

theorem OverheatJudged.kept {c : Cavity} {f : Int} {s t v : State} (h : OverheatJudged c f s t) (k : SupKept t v)
    (hh : ∀ e, v.holdsGrant e = true → t.holdsGrant e = true) (hc : t.inCycle c = false → v.inCycle c = false)
    (he : v.engine c.other = t.engine c.other) : OverheatJudged c f s v where
  below := by
    rw [k.sup]
    exact h.below
  above := by
    rw [k.sup]
    exact h.above
  stops hf hn := by
    obtain ⟨hd, hin, hcold, hother, hr⟩ := h.stops hf hn
    refine ⟨by rw [k.sup]; exact hd, fun d => ?_, fun d => coldNow_of_holds hh (hcold d), he.trans hother,
      hr.mono k.outbox⟩
    by_cases hdc : d = c
    · subst hdc
      exact hc (hin d)
    · have hd' : d = c.other := other_of_ne hdc
      subst hd'
      exact (inCycle_congr he).trans (hin c.other)

theorem MeasuredBy.overheat {ch : Channel} {s m : State} (h : MeasuredBy ch s m) (c : Cavity) (f : Int) :
    MeasuredBy ch s (judgeOverheat c f m) := by
  have set : ∀ x t, x = m.sup.overheat.get c → MeasuredBy ch s (setOverheat c x t m) := fun x t hx =>
    { measured := h.measured
      startupDone := h.startupDone
      adopted := h.adopted
      readiness := h.readiness
      ready := fun h0 h1 => by
        obtain ⟨hp, hen⟩ := h.ready h0 h1
        refine ⟨hp, ?_⟩
        subst hx
        unfold EnableFollows setOverheat
        rw [PerCavity.set_get]
        exact hen }
  by_cases hlow : f < 5800
  · rw [judgeOverheat_below hlow]
    exact set _ _ rfl
  · have hhigh := Int.not_lt.mp hlow
    cases ho : m.sup.overheat.get c with
    | true =>
      rw [judgeOverheat_latched hhigh ho]
      split
      · exact set _ _ ho.symm
      · exact h
    | false =>
      rw [judgeOverheat_new hhigh ho]
      have hr : ReadinessKept m (overheatRaised c m) := ⟨rfl, rfl, rfl, rfl⟩
      exact h.recomputed (hr.trans (.systemFault _))
        ((List.prefix_append _ _).trans (Quiet.systemFault (overheatRaised c m)).outbox) (systemFault_enableFollows _)

end State
end Sys2Proof.Machine
end

section
/-!
PROOFS. The three readers of a cavity channel with a new F, in whatever order they act: the band in force, the release
that waits, a cycle that goes on, and the measured flag with OVERHEAT (R13, R38, R59, R102, R161, R164).
-/

namespace Sys2Proof.Machine

open Sys2Proof State

namespace State

open LockCtl (Begins)

/-! ## Each reader -/

/-- The Band Table has not acted yet, and what it reads is as it was. -/
structure BandUnread (s t : State) : Prop where
  tables : t.tables = s.tables
  channels : t.channels = s.channels
  bandIndex : t.bandIndex = s.bandIndex

theorem BandUnread.policy {s t : State} (h : BandUnread s t) (c : Cavity) : t.policy c = s.policy c :=
  policy_congr h.tables h.bandIndex h.channels c

theorem BandUnread.policy_set {s t : State} (h : BandUnread s t) (c : Cavity) (i : BandIndex) :
    (t.setBandIndex c i).policy c = (s.setBandIndex c i).policy c :=
  policy_congr (s := s.setBandIndex c i) (t := t.setBandIndex c i) h.tables
    (congrArg (fun b => PerCavity.set b c i) h.bandIndex) h.channels c

theorem cavity_band {c : Cavity} {f : Int} {t : State} (old : ChannelState) (hv : t.isValid (.cav c) = true)
    (hf : t.f (.cav c) = some f) :
    BandTaken c (t.bandOf c old f) t (readerActs ⟨.cav c, old, true⟩ .bandTable t) := by
  show BandTaken c (t.bandOf c old f) t (bandReads c old t)
  rw [bandReads_valid hv hf]
  exact takeBand_taken ..

/-- The Band Table where what it reads is as it was. -/
theorem BandUnread.taken {c : Cavity} {f : Int} {s t : State} (h : BandUnread s t) (old : ChannelState)
    (hv : s.isValid (.cav c) = true) (hf : s.f (.cav c) = some f) :
    BandTaken c (s.bandOf c old f) t (readerActs ⟨.cav c, old, true⟩ .bandTable t) := by
  rw [← bandOf_congr h.tables h.bandIndex c old f]
  exact cavity_band old ((isValid_congr h.channels _).trans hv) ((f_congr h.channels _).trans hf)

theorem cavity_engine (c : Cavity) (old : ChannelState) (t : State) :
    readerActs ⟨.cav c, old, true⟩ .engine t = judge c {} (raisePeak c t) := rfl

/-- The readers of a cavity channel but the Band Table leave the index alone. -/
theorem cavity_bandIndex {c : Cavity} {old : ChannelState} {f : Int} {t : State} (hf : t.f (.cav c) = some f)
    {r : Reader} (hr : r ≠ .bandTable) : (readerActs ⟨.cav c, old, true⟩ r t).bandIndex = t.bandIndex := by
  cases r with
  | engine => exact (engineReadsCavity_frame c true t).bandIndex
  | supervisor => exact cavity_supervisor_bandIndex hf
  | bandTable => exact absurd rfl hr
  | allocator => rfl
  | fan => rfl

theorem BandUnread.reader {c : Cavity} {old : ChannelState} {f : Int} {s t : State} (h : BandUnread s t)
    (hf : s.f (.cav c) = some f) {r : Reader} (hr : r ≠ .bandTable) :
    BandUnread s (readerActs ⟨.cav c, old, true⟩ r t) := by
  have q := Quiet.readerActs ⟨.cav c, old, true⟩ r t
  exact ⟨q.tables.trans h.tables, q.channels.trans h.channels,
    (cavity_bandIndex ((f_congr h.channels _).trans hf) hr).trans h.bandIndex⟩

theorem CycleGoesOn.inCycle {c : Cavity} {s t : State} (h : CycleGoesOn c s t) : t.inCycle c = s.inCycle c := by
  obtain ⟨p, hp⟩ := h.engine
  unfold State.inCycle
  rw [hp]

/-- The engine at a cycle that it does not end. -/
theorem steady_engine {c : Cavity} (old : ChannelState) {f : Int} {t : State} (hf : t.f (.cav c) = some f)
    (hs : Steady c f t) : CycleSilent c t (readerActs ⟨.cav c, old, true⟩ .engine t)
      ∧ (readerActs ⟨.cav c, old, true⟩ .engine t).lock c = t.lock c := by
  have h := raisePeak_silent hf
  rw [cavity_engine, (hs.goesOn h.toCycleGoesOn).judge]
  refine ⟨h, ?_⟩
  rw [raisePeak_eq hf]
  rfl

/-- The readers but the Band Table at a cycle that they do not end. -/
theorem steady_other {c : Cavity} (old : ChannelState) {f : Int} {t : State} (hf : t.f (.cav c) = some f)
    (hs : Steady c f t) (hq : f < 5800 ∨ t.inCycle c = false) {r : Reader} (hr : r ≠ .bandTable) :
    CycleGoesOn c t (readerActs ⟨.cav c, old, true⟩ r t) ∧ (readerActs ⟨.cav c, old, true⟩ r t).lock c = t.lock c := by
  cases r with
  | engine =>
    obtain ⟨h, hl⟩ := steady_engine old hf hs
    exact ⟨h.toCycleGoesOn, hl⟩
  | supervisor =>
    have h : CycleKept c t (readerActs ⟨.cav c, old, true⟩ .supervisor t) :=
      hq.elim (fun h => (coolCavity_supervisor hf h).toCycleKept) (notInCycle_supervisor hf)
    exact ⟨.ofKept h, h.lock⟩
  | bandTable => exact absurd rfl hr
  | allocator => exact ⟨.refl c t, rfl⟩
  | fan => exact ⟨.refl c t, rfl⟩

/-! ## The readers in their order -/

variable {c : Cavity} {old : ChannelState} {f : Int} {s : State}

theorem acceptedCavity_bandIndex (hv : s.isValid (.cav c) = true) (hf : s.f (.cav c) = some f) :
    (channelKnown ⟨.cav c, old, true⟩ s).bandIndex = s.bandIndex.set c (s.bandOf c old f) := by
  refine (forEach_once (Q := BandUnread s)
    (T := fun t => t.bandIndex = s.bandIndex.set c (s.bandOf c old f) ∧ t.channels = s.channels)
    (readerActs ⟨.cav c, old, true⟩) .bandTable (readers_nodup ..) (mem_readers.mpr (by simp [readersOf]))
    (fun t ht => ⟨(ht.taken old hv hf).bandIndex.trans (by rw [ht.bandIndex]), ?_⟩)
    (fun r _ hr t ht => ht.reader hf hr) (fun r _ hr t ⟨hi, hc⟩ => ⟨?_, ?_⟩) s ⟨rfl, rfl, rfl⟩).1
  · exact (Quiet.readerActs _ _ t).channels.trans ht.channels
  · exact (cavity_bandIndex ((f_congr hc _).trans hf) hr).trans hi
  · exact (Quiet.readerActs _ _ t).channels.trans hc

/-- A release that waits has begun once the policy is FREE, whichever reader acts first (R59). -/
theorem acceptedCavity_begun (hv : s.isValid (.cav c) = true) (hf : s.f (.cav c) = some f) (hs : Steady c f s)
    (hq : f < 5800 ∨ s.inCycle c = false) (hi : s.bandIndex.get c ≠ s.bandOf c old f)
    (hb : Begins ((s.setBandIndex c (s.bandOf c old f)).policy c) (s.lock c)) :
    (channelKnown ⟨.cav c, old, true⟩ s).lock c = releaseBegun (s.lock c) := by
  have other : ∀ t, CycleGoesOn c s t → ∀ r, r ≠ .bandTable →
      CycleGoesOn c s (readerActs ⟨.cav c, old, true⟩ r t)
        ∧ (readerActs ⟨.cav c, old, true⟩ r t).lock c = t.lock c := fun t ht r hr => by
    obtain ⟨h, hl⟩ := steady_other old ((f_congr ht.channels _).trans hf) (hs.goesOn ht)
      (hq.imp_right fun h => ht.inCycle.trans h) hr
    exact ⟨ht.trans h, hl⟩
  refine (forEach_once (Q := fun t => BandUnread s t ∧ CycleGoesOn c s t ∧ t.lock c = s.lock c)
    (T := fun t => CycleGoesOn c s t ∧ t.lock c = releaseBegun (s.lock c))
    (readerActs ⟨.cav c, old, true⟩) .bandTable (readers_nodup ..) (mem_readers.mpr (by simp [readersOf]))
    (fun t ⟨hu, hg, hl⟩ => ?_) (fun r _ hr t ⟨hu, hg, hl⟩ => ?_) (fun r _ hr t ⟨hg, hl⟩ => ?_) s
    ⟨⟨rfl, rfl, rfl⟩, .refl c s, rfl⟩).2
  · have k := hu.taken old hv hf
    refine ⟨hg.trans (k.silent (hs.goesOn hg)).toCycleGoesOn, ?_⟩
    rw [k.begun (hs.goesOn hg) (by rw [hu.bandIndex]; exact hi) (by rw [hu.policy_set, hl]; exact hb), hl]
  · obtain ⟨h, hl'⟩ := other t hg r hr
    exact ⟨hu.reader hf hr, h, hl'.trans hl⟩
  · obtain ⟨h, hl'⟩ := other t hg r hr
    exact ⟨h, hl'.trans hl⟩

/-- A cycle that goes on below 580.0 °C does so silently (R91, R102). -/
theorem acceptedCavity_silent (hv : s.isValid (.cav c) = true) (hf : s.f (.cav c) = some f) (hs : Steady c f s)
    (hlow : f < 5800) : CycleSilent c s (channelKnown ⟨.cav c, old, true⟩ s) := by
  refine (forEach_rel (P := fun t => CycleGoesOn c s t) (.refl c) .trans _ _ (fun r _ t ht => ?_) s (.refl c s)).1
  suffices h : CycleSilent c t (readerActs ⟨.cav c, old, true⟩ r t) from ⟨h, ht.trans h.toCycleGoesOn⟩
  have hf' : t.f (.cav c) = some f := (f_congr ht.channels _).trans hf
  cases r with
  | engine => exact (steady_engine old hf' (hs.goesOn ht)).1
  | supervisor => exact .ofUntouched (coolCavity_supervisor hf' hlow)
  | bandTable => exact (cavity_band old ((isValid_congr ht.channels _).trans hv) hf').silent (hs.goesOn ht)
  | allocator => exact .refl c t
  | fan => exact .refl c t

/-! ## The Supervisor among them -/

/-- What the Band Table and the engine leave of the Supervisor, its records and the other cavity. -/
structure SupLeft (c : Cavity) (s t : State) : Prop extends SupKept s t where
  holds : ∀ e, t.holdsGrant e = true → s.holdsGrant e = true
  inCycle : s.inCycle c = false → t.inCycle c = false
  engine : t.engine c.other = s.engine c.other
  lock : t.lock c.other = s.lock c.other

theorem SupLeft.refl (c : Cavity) (s : State) : SupLeft c s s := ⟨.refl s, fun _ => id, id, rfl, rfl⟩

theorem other_ne (c : Cavity) : c.other ≠ c := by cases c <;> exact nofun

theorem cavity_supLeft (old : ChannelState) {t : State} (hv : t.isValid (.cav c) = true) (hf : t.f (.cav c) = some f)
    {r : Reader} (hr : r ≠ .supervisor) : SupLeft c t (readerActs ⟨.cav c, old, true⟩ r t) := by
  cases r with
  | bandTable =>
    have k := cavity_band old hv hf
    have a := k.acts
    exact ⟨k.supKept, a.holds, fun h => (k.silent (f := f) (.inl h)).inCycle.trans h,
      a.otherEngine _ (other_ne c), a.otherLock _ (other_ne c)⟩
  | engine =>
    have a := engineReadsCavity_frame c true t
    exact ⟨.ofEngine a (.readerActs ⟨.cav c, old, true⟩ .engine t), a.holds,
      fun h => (steady_engine old hf (.inl h)).1.inCycle.trans h, a.otherEngine _ (other_ne c),
      a.otherLock _ (other_ne c)⟩
  | supervisor => exact absurd rfl hr
  | allocator => exact .refl c t
  | fan => exact .refl c t

theorem acceptedCavity_measured (hv : s.isValid (.cav c) = true) (hf : s.f (.cav c) = some f) :
    MeasuredBy (.cav c) s (channelKnown ⟨.cav c, old, true⟩ s) := by
  have hs : (s.channel (.cav c)).state = .valid := of_decide_eq_true hv
  refine measured_known (x := ⟨.cav c, old, true⟩) (by simp [readersOf]) (fun t ht => ?_) fun t ht r hr => ?_
  · show MeasuredBy (.cav c) t (readerActs ⟨.cav c, old, true⟩ .supervisor t)
    rw [cavity_supervisor ((f_congr ht _).trans hf)]
    exact (markMeasured_measuredBy (by rw [state_congr ht, hs]; exact nofun)).overheat c f
  · exact measured_kept (cavity_supLeft old ((isValid_congr ht _).trans hv) ((f_congr ht _).trans hf) hr).toSupKept

theorem acceptedCavity_overheat (hv : s.isValid (.cav c) = true) (hf : s.f (.cav c) = some f) :
    OverheatJudged c f s (channelKnown ⟨.cav c, old, true⟩ s) := by
  have hch : ∀ r t, t.channels = s.channels → (readerActs ⟨.cav c, old, true⟩ r t).channels = s.channels :=
    fun r t ht => (Quiet.readerActs _ r t).channels.trans ht
  have left : ∀ t, t.channels = s.channels → ∀ r, r ≠ .supervisor → SupLeft c t (readerActs ⟨.cav c, old, true⟩ r t) :=
    fun t ht r hr => cavity_supLeft old ((isValid_congr ht _).trans hv) ((f_congr ht _).trans hf) hr
  refine (forEach_once (Q := fun t => t.channels = s.channels ∧ t.sup = s.sup ∧ t.engine c.other = s.engine c.other
      ∧ t.lock c.other = s.lock c.other)
    (T := fun t => t.channels = s.channels ∧ OverheatJudged c f s t)
    (readerActs ⟨.cav c, old, true⟩) .supervisor (readers_nodup ..) (mem_readers.mpr (by simp [readersOf]))
    (fun t ⟨ht, hsup, he, hl⟩ => ⟨hch _ t ht, ?_⟩) (fun r _ hr t ⟨ht, hsup, he, hl⟩ => ?_)
    (fun r _ hr t ⟨ht, hj⟩ => ⟨hch r t ht, ?_⟩) s ⟨rfl, rfl, rfl, rfl⟩).2
  · rw [cavity_supervisor ((f_congr ht _).trans hf)]
    have hb := Background.markMeasured (.cav c) t
    exact (judgeOverheat_judged c f _).congr (by rw [hb.sup, hsup]) (by rw [hb.sup, hsup])
      ((hb.engine _).trans he) ((hb.lock _).trans hl)
  · have k := left t ht r hr
    exact ⟨hch r t ht, k.sup.trans hsup, k.engine.trans he, k.lock.trans hl⟩
  · have k := left t ht r hr
    exact hj.kept k.toSupKept k.holds k.inCycle k.engine

end State
end Sys2Proof.Machine
end

section
/-!
PROOFS. The readers of a cavity channel with a new F that is below 580.0 °C, at a lock with no release waiting: peak F,
a cycle above its ceiling, and a segment that ends DONE (R90, R102, R110, R113).
-/

namespace Sys2Proof.Machine

open Sys2Proof State

/-- Two members of a list each act once, in either order, among others that keep whatever has been reached. -/
theorem forEach_two {α : Type} {Q A B T : State → Prop} (op : α → State → State) {y z : α} (hyz : y ≠ z) {l : List α}
    (hn : l.Nodup) (hy : y ∈ l) (hz : z ∈ l) (hQA : ∀ s, Q s → A (op y s)) (hQB : ∀ s, Q s → B (op z s))
    (hAT : ∀ s, A s → T (op z s)) (hBT : ∀ s, B s → T (op y s))
    (ho : ∀ x ∈ l, x ≠ y → x ≠ z → ∀ s, (Q s → Q (op x s)) ∧ (A s → A (op x s)) ∧ (B s → B (op x s))
      ∧ (T s → T (op x s))) (s : State) (hs : Q s) : T (forEach l op s) := by
  induction l generalizing s with
  | nil => exact absurd hy List.not_mem_nil
  | cons x xs ih =>
    obtain ⟨hx, hn'⟩ := List.nodup_cons.mp hn
    have ne : ∀ w ∈ xs, w ≠ x := fun w hw e => hx (e ▸ hw)
    have rest := fun w hw => ho w (List.mem_cons_of_mem x hw)
    by_cases hxy : x = y
    · subst hxy
      have hz' : z ∈ xs := (List.mem_cons.mp hz).resolve_left fun e => hyz e.symm
      exact forEach_once op z hn' hz' hAT (fun w hw hwz t ht => (rest w hw (ne w hw) hwz t).2.1 ht)
        (fun w hw hwz t ht => (rest w hw (ne w hw) hwz t).2.2.2 ht) _ (hQA s hs)
    · by_cases hxz : x = z
      · subst hxz
        have hy' : y ∈ xs := (List.mem_cons.mp hy).resolve_left hyz
        exact forEach_once op y hn' hy' hBT (fun w hw hwy t ht => (rest w hw hwy (ne w hw) t).2.2.1 ht)
          (fun w hw hwy t ht => (rest w hw hwy (ne w hw) t).2.2.2 ht) _ (hQB s hs)
      · exact ih hn' ((List.mem_cons.mp hy).resolve_left fun e => hxy e.symm)
          ((List.mem_cons.mp hz).resolve_left fun e => hxz e.symm) rest _
          ((ho x List.mem_cons_self hxy hxz s).1 hs)

namespace State

open LockCtl (Begins)

/-- The index is taken without a release: the cycle stays as it is. -/
theorem BandTaken.untouched {c : Cavity} {i : BandIndex} {s t : State} (h : BandTaken c i s t)
    (hn : ¬ Begins ((s.setBandIndex c i).policy c) (s.lock c)) : Untouched c s t := by
  cases h with
  | stays k _ => exact (Untouched.setBandIndex c i s).trans (.ofSettles k)
  | begins _ hb _ _ => exact absurd hb hn

theorem BandTaken.stopsCold {c : Cavity} {i : BandIndex} {s t : State} (h : BandTaken c i s t) : StopsCold c s t :=
  have k := StopsCold.ofEngine h.acts
  ⟨k.holds, k.stopped, k.idle, k.tableLock⟩

theorem coolCavity_stopsCold {c : Cavity} (old : ChannelState) {f : Int} {s : State} (hf : s.f (.cav c) = some f)
    (h : f < 5800) : StopsCold c s (readerActs ⟨.cav c, old, true⟩ .supervisor s) := by
  have k := coolCavity_supervisor (old := old) hf h
  refine .ofKept ?_ (by rw [k.engine]) k.tableLocks
  rw [cavity_supervisor hf, judgeOverheat_below h]
  exact (Background.markMeasured (.cav c) s).holds

variable {c : Cavity} {old : ChannelState} {f : Int} {s : State}

/-- The reader of a cavity channel beside the Band Table and the engine. -/
theorem cavity_third {r : Reader} (hm : r ∈ arrange (readersOf (.cav c)) s.order.readers) (hb : r ≠ .bandTable)
    (he : r ≠ .engine) : r = .supervisor := by
  have hm' := mem_readers.mp hm
  simp only [readersOf, List.mem_cons, List.not_mem_nil, or_false] at hm'
  exact (hm'.resolve_left hb).resolve_left he

/-! ## Peak F -/

theorem acceptedCavity_peakF (hv : s.isValid (.cav c) = true) (hf : s.f (.cav c) = some f) (hlow : f < 5800)
    (hp : (s.lock c).releasePending = none) :
    ((channelKnown ⟨.cav c, old, true⟩ s).engine c).peakF = raisedPeak f (s.engine c) := by
  have hch : ∀ r t, t.channels = s.channels → (readerActs ⟨.cav c, old, true⟩ r t).channels = s.channels :=
    fun r t ht => (Quiet.readerActs _ r t).channels.trans ht
  refine (forEach_once (Q := Untouched c s)
    (T := fun t => t.channels = s.channels ∧ (t.engine c).peakF = raisedPeak f (s.engine c))
    (readerActs ⟨.cav c, old, true⟩) .engine (readers_nodup ..) (mem_readers.mpr (by simp [readersOf]))
    (fun t ht => ⟨hch _ t ht.channels, ?_⟩) (fun r hm hr t ht => ?_) (fun r hm hr t ⟨hc, ht⟩ => ⟨hch _ t hc, ?_⟩) s
    (.refl c s)).2
  · rw [cavity_engine, judge_peakF, raisePeak_eq ((f_congr ht.channels _).trans hf), engine_setEngine_same, ht.engine]
  · by_cases hb : r = .bandTable
    · subst hb
      exact ht.trans ((cavity_band old ((isValid_congr ht.channels _).trans hv)
        ((f_congr ht.channels _).trans hf)).untouched (LockCtl.not_begins_of_none (by rw [ht.lock]; exact hp)))
    · obtain rfl := cavity_third hm hb hr
      exact ht.trans (coolCavity_supervisor ((f_congr ht.channels _).trans hf) hlow)
  · by_cases hb : r = .bandTable
    · subst hb
      rw [(cavity_band old ((isValid_congr hc _).trans hv) ((f_congr hc _).trans hf)).peakF, ht]
    · obtain rfl := cavity_third hm hb hr
      rw [(coolCavity_supervisor ((f_congr hc _).trans hf) hlow).engine, ht]

/-! ## Above the ceiling -/

/-- An engine that keeps its peak F in a cycle that goes on stays as it is. -/
theorem CycleGoesOn.engine_eq {t : State} (h : CycleGoesOn c s t)
    (hp : (t.engine c).peakF = (s.engine c).peakF) : t.engine c = s.engine c := by
  obtain ⟨p, he⟩ := h.engine
  rw [he] at hp ⊢
  obtain rfl : p = _ := hp
  rfl

/-- An abort under a policy leaves no release that begins under it (R58). -/
theorem not_begins_askedByAbort (p : DoorPolicy) (l : LockCtl) : ¬ Begins p (askedByAbort p l) := by
  rintro ⟨hs, hp, rfl⟩
  unfold askedByAbort at hs hp
  split at hs
  · rw [if_pos rfl] at hs
    exact absurd hs nofun
  · next he => exact absurd (he.symm.trans hs) nofun
  · next he => exact absurd (he.symm.trans hs) nofun
  · next he _ _ => exact he hs

/-- The cycle has been aborted with OVERSHOOT, and its engine has seen the new F (R102, R110). -/
structure Overshot (c : Cavity) (s t : State) : Prop where
  tables : t.tables = s.tables
  channels : t.channels = s.channels
  engine : ∃ p, t.engine c = abortedUnder (s.lock c).state .overshoot { s.engine c with peakF := p }
  inCycle : t.inCycle c = false
  cold : coldNow t c

theorem Overshot.kept {t v : State} (h : Overshot c s t) (ht : v.tables = t.tables) (hc : v.channels = t.channels)
    (he : v.engine c = t.engine c) (hh : ∀ e, v.holdsGrant e = true → t.holdsGrant e = true) : Overshot c s v where
  tables := ht.trans h.tables
  channels := hc.trans h.channels
  engine := by
    rw [he]
    exact h.engine
  inCycle := (inCycle_congr he).trans h.inCycle
  cold := coldNow_of_holds hh h.cold

theorem forcedEnding_overshoot {m : Int} (hf : s.f (.cav c) = some f) (hm : (s.engine c).ceiling = some m) (h : m < f)
    (k : Causes) : forcedEnding c k s = some .overshoot := by
  have ho : s.overCeiling c = true := by
    unfold overCeiling
    rw [hf, hm]
    exact decide_eq_true h
  rw [forcedEnding, if_pos ho]

theorem overshoot_engine {m : Int} {t : State} (ht : CycleKept c s t) (hf : s.f (.cav c) = some f)
    (hc : s.inCycle c = true) (hr : s.currentRecord c ≠ none) (hm : (s.engine c).ceiling = some m) (h : m < f) :
    Overshot c s (readerActs ⟨.cav c, old, true⟩ .engine t)
      ∧ (readerActs ⟨.cav c, old, true⟩ .engine t).lock c = askedByAbort (t.policy c) (s.lock c) := by
  have q := Quiet.readerActs ⟨.cav c, old, true⟩ .engine t
  have hf' : t.f (.cav c) = some f := (f_congr ht.channels _).trans hf
  have hch := q.channels.trans ht.channels
  have htab := q.tables.trans ht.tables
  rw [cavity_engine, raisePeak_eq hf', ht.engine] at hch htab ⊢
  generalize hw : t.setEngine c { s.engine c with peakF := raisedPeak f (s.engine c) } = w at hch htab ⊢
  have he : w.engine c = { s.engine c with peakF := raisedPeak f (s.engine c) } := by rw [← hw, engine_setEngine_same]
  have hl : w.lock c = s.lock c := by rw [← hw]; exact ht.lock
  have hwf : w.f (.cav c) = some f := by rw [← hw]; exact hf'
  have hp : w.policy c = t.policy c := by rw [← hw]; rfl
  have hwc : w.inCycle c = true := by
    unfold inCycle at hc ⊢
    rw [he]
    exact hc
  have hrec : w.currentRecord c ≠ none := by
    have htables : w.tables = s.tables := by rw [← hw]; exact ht.tables
    unfold currentRecord program at hr ⊢
    rw [he, htables]
    exact hr
  have hj : judge c {} w = abortCycle c .overshoot w :=
    judge_forced hwc hrec nofun (forcedEnding_overshoot hwf (by rw [he]; exact hm) h {})
  rw [hj] at hch htab ⊢
  refine ⟨⟨htab, hch, ⟨raisedPeak f (s.engine c), ?_⟩, abortCycle_inCycle .., abortCycle_coldNow _ _ _ hwc⟩, ?_⟩
  · rw [abortCycle_engine, afterAbort, if_pos hwc, hl, he]
  · rw [abortCycle_lock _ _ _ hwc, hl, hp]

theorem acceptedCavity_overshoot {m : Int} (hv : s.isValid (.cav c) = true) (hf : s.f (.cav c) = some f)
    (hlow : f < 5800) (hp : (s.lock c).releasePending = none) (hc : s.inCycle c = true)
    (hr : s.currentRecord c ≠ none) (hm : (s.engine c).ceiling = some m) (h : m < f) :
    Overshot c s (channelKnown ⟨.cav c, old, true⟩ s)
      ∧ ((s.setBandIndex c (s.bandOf c old f)).policy c = s.policy c →
        (channelKnown ⟨.cav c, old, true⟩ s).lock c = askedByAbort (s.policy c) (s.lock c)) := by
  have hnone : ∀ t p, Untouched c s t → ¬ Begins p (t.lock c) := fun t p ht =>
    LockCtl.not_begins_of_none (by rw [ht.lock]; exact hp)
  refine forEach_two
    (Q := fun t => Untouched c s t ∧ BandUnread s t)
    (A := fun t => Untouched c s t ∧ t.policy c = (s.setBandIndex c (s.bandOf c old f)).policy c)
    (B := fun t => Overshot c s t ∧ BandUnread s t ∧ t.lock c = askedByAbort (s.policy c) (s.lock c))
    (T := fun t => Overshot c s t ∧ ((s.setBandIndex c (s.bandOf c old f)).policy c = s.policy c →
      t.lock c = askedByAbort (s.policy c) (s.lock c)))
    (readerActs ⟨.cav c, old, true⟩) (y := .bandTable) (z := .engine) nofun (readers_nodup ..)
    (mem_readers.mpr (by simp [readersOf])) (mem_readers.mpr (by simp [readersOf]))
    (fun t ⟨ht, hu⟩ => ?_) (fun t ⟨ht, hu⟩ => ?_) (fun t ⟨ht, hpol⟩ => ?_) (fun t ⟨ho, hu, hl⟩ => ?_)
    (fun r hmem hb he t => ?_) s ⟨.refl c s, rfl, rfl, rfl⟩
  · have k := hu.taken old hv hf
    have hk := k.untouched (hnone t _ ht)
    exact ⟨ht.trans hk, (k.policy_taken hk.tables).trans (hu.policy_set c _)⟩
  · obtain ⟨ho, hl⟩ := overshoot_engine (old := old) ht.toCycleKept hf hc hr hm h
    exact ⟨ho, hu.reader hf nofun, hl.trans (by rw [hu.policy])⟩
  · obtain ⟨ho, hl⟩ := overshoot_engine (old := old) ht.toCycleKept hf hc hr hm h
    exact ⟨ho, fun hsame => hl.trans (by rw [hpol, hsame])⟩
  · have k := hu.taken old hv hf
    have hg := (k.silent (f := f) (.inl ho.inCycle)).toCycleGoesOn
    refine ⟨ho.kept hg.tables hg.channels (hg.engine_eq k.peakF) k.acts.holds, fun hsame => ?_⟩
    have hn : ¬ Begins ((t.setBandIndex c (s.bandOf c old f)).policy c) (t.lock c) := by
      rw [hu.policy_set, hsame, hl]
      exact not_begins_askedByAbort _ _
    exact (k.untouched hn).lock.trans hl
  · obtain rfl := cavity_third hmem hb he
    have kept : ∀ {u}, u.channels = s.channels → Untouched c u (readerActs ⟨.cav c, old, true⟩ .supervisor u)
        ∧ ∀ e, (readerActs ⟨.cav c, old, true⟩ .supervisor u).holdsGrant e = true → u.holdsGrant e = true := fun hu =>
      ⟨coolCavity_supervisor ((f_congr hu _).trans hf) hlow,
        (coolCavity_stopsCold old ((f_congr hu _).trans hf) hlow).holds⟩
    refine ⟨fun ⟨ht, hu⟩ => ⟨ht.trans (kept hu.channels).1, hu.reader hf hb⟩, fun ⟨ht, hpol⟩ => ?_,
      fun ⟨ho, hu, hl⟩ => ?_, fun ⟨ho, hl⟩ => ?_⟩
    · obtain ⟨k, -⟩ := kept ht.channels
      exact ⟨ht.trans k, (policy_congr k.tables (cavity_bandIndex ((f_congr ht.channels _).trans hf) hb) k.channels
        c).trans hpol⟩
    · obtain ⟨k, hh⟩ := kept ho.channels
      exact ⟨ho.kept k.tables k.channels k.engine hh, hu.reader hf hb, k.lock.trans hl⟩
    · obtain ⟨k, hh⟩ := kept ho.channels
      exact ⟨ho.kept k.tables k.channels k.engine hh, fun hsame => k.lock.trans (hl hsame)⟩

end State
end Sys2Proof.Machine
end

section
/-!
PROOFS. A segment that a new F of the cavity channel ends DONE, with the Band Table before the engine or after it: the
next segment's lock request meets the policy of either band (R40, R59, R68, R90, R95, R99).
-/

namespace Sys2Proof.Machine

open Sys2Proof State

namespace State

open LockCtl (Begins)

variable {c : Cavity} {old : ChannelState} {f : Int} {s : State} {index : Nat}

theorem askedByEntry_engage (p p' : DoorPolicy) (l : LockCtl) :
    askedByEntry p .engage l = askedByEntry p' .engage l := by
  obtain ⟨x, motor, motion, slot, pending, faults, levels⟩ := l
  cases x <;> rfl

theorem askedByEntry_release (p : DoorPolicy) (l : LockCtl) : askedByEntry p .release l = askedByAbort p l := by
  obtain ⟨x, motor, motion, slot, pending, faults, levels⟩ := l
  cases x <;> rfl

/-- Whether an entered segment goes on does not depend on the policy that its lock request meets. -/
theorem goesOn_entry_policy {p p' : DoorPolicy} {l : LockCtl} {e : Engine} {r : SegmentRecord}
    (h : s.GoesOn c f e (askedByEntry p r l).state r) : s.GoesOn c f e (askedByEntry p' r l).state r := by
  cases r with
  | engage => exact askedByEntry_engage p p' l ▸ h
  | release =>
    rw [askedByEntry_release] at h ⊢
    have hr : ∀ q, (askedByAbort q l).state = .released ↔ l.state = .released := fun q => by
      unfold askedByAbort
      split
      · next hl => split <;> simp [hl]
      · next hl => simp [hl]
      · next hl => simp [hl]
      · rfl
    exact fun k => h ((hr p).mpr ((hr p').mp k))
  | catalyst a b => exact h
  | ramp a => exact h
  | soak a => exact h
  | cool a b d => exact h

/-- An engage leaves no release waiting where none waited (R58). -/
theorem engage_pending {p : DoorPolicy} {l : LockCtl} (h : l.releasePending = none) :
    (askedByEntry p .engage l).releasePending = none := by
  obtain ⟨x, motor, motion, slot, pending, faults, levels⟩ := l
  cases x with
  | released =>
    simp only [askedByEntry]
    split
    · exact h
    · split <;> exact h
  | engaged => rfl
  | engaging => exact h
  | releasing => exact h
  | returning => exact h
  | faulted => exact h
  | notAdopted => exact h

/-- A release that begins behind the entry of a segment is that segment's own, and it is what the entry would have
brought under the new policy (R58, R59). -/
theorem askedByEntry_begins {p p' : DoorPolicy} {l : LockCtl} {r : SegmentRecord} (hp : l.releasePending = none)
    (h : Begins p' (askedByEntry p r l)) : releaseBegun (askedByEntry p r l) = askedByEntry p' r l := by
  obtain ⟨hs, hn, rfl⟩ := h
  cases r with
  | engage => exact absurd (engage_pending hp) hn
  | release =>
    rw [askedByEntry_release] at hs hn ⊢
    rw [askedByEntry_release]
    unfold askedByAbort at hs hn ⊢
    split at hs
    · next hl =>
      simp only [hl] at hn ⊢
      split at hs
      · exact absurd hs nofun
      · next hfree =>
        rw [if_neg hfree, if_pos trivial]
        rfl
    · next hl => exact absurd (hl.symm.trans hs) nofun
    · next hl => exact absurd (hl.symm.trans hs) nofun
    · next hl _ _ => exact absurd hs hl
  | catalyst a b => exact absurd hp hn
  | ramp a => exact absurd hp hn
  | soak a => exact absurd hp hn
  | cool a b d => exact absurd hp hn

/-! ## The engine, before or after the Band Table -/

/-- The engine as it ends its segment: it has seen the new F. -/
def seenBy (c : Cavity) (s t : State) : Engine := { s.engine c with peakF := (t.engine c).peakF }

/-- The end DONE has been taken under a door policy. -/
structure EndedUnder (p : DoorPolicy) (c : Cavity) (index : Nat) (f : Int) (s t : State) : Prop where
  tables : t.tables = s.tables
  channels : t.channels = s.channels
  leads : DoneUnder p s c index f (s.lock c) (seenBy c s t) (t.lock c) (t.engine c)
  acts : DoneActs c index s t

theorem EndedUnder.untouched {p : DoorPolicy} {t v : State} (h : EndedUnder p c index f s t) (k : Untouched c t v)
    (hk : StopsCold c t v) (ho : t.events.outbox <+: v.events.outbox) : EndedUnder p c index f s v where
  tables := k.tables.trans h.tables
  channels := k.channels.trans h.channels
  leads := by
    unfold seenBy
    rw [k.lock, k.engine]
    exact h.leads
  acts := h.acts.kept hk ho

/-- The engine ends its segment DONE, under the policy that it finds. -/
theorem done_engine {t : State} {x : SegmentRecord} (ht : Untouched c s t) (hu : s.unforced c f)
    (hrun : (s.engine c).state = .running) (hi : (s.engine c).segmentIndex = some index)
    (hr : s.currentRecord c = some x) (hg : ¬ s.GoesOn c f (s.engine c) (s.lock c).state x) :
    EndedUnder (t.policy c) c index f s (readerActs ⟨.cav c, old, true⟩ .engine t) := by
  have q := Quiet.readerActs ⟨.cav c, old, true⟩ .engine t
  have hf' : t.f (.cav c) = some f := (f_congr ht.channels _).trans hu.2.1
  have hch := q.channels.trans ht.channels
  have htab := q.tables.trans ht.tables
  rw [cavity_engine, raisePeak_eq hf', ht.engine] at hch htab ⊢
  generalize hw : t.setEngine c { s.engine c with peakF := raisedPeak f (s.engine c) } = w at hch htab ⊢
  have he : w.engine c = { s.engine c with peakF := raisedPeak f (s.engine c) } := by rw [← hw, engine_setEngine_same]
  have hl : w.lock c = s.lock c := by rw [← hw]; exact ht.lock
  have hwc : w.channels = s.channels := by rw [← hw]; exact ht.channels
  have hwt : w.tables = s.tables := by rw [← hw]; exact ht.tables
  have hwl : w.tableLocks = s.tableLocks := by rw [← hw]; exact ht.tableLocks
  have hp : w.policy c = t.policy c := by rw [← hw]; rfl
  have hwrun : (w.engine c).state = .running := by rw [he]; exact hrun
  have hwu : w.unforced c f := by
    obtain ⟨hv, hf, hm, hk⟩ := hu
    exact ⟨(isValid_congr hwc _).trans hv, (f_congr hwc _).trans hf, by rw [he]; exact hm, by rw [hl]; exact hk⟩
  have hrec : w.currentRecord c = some x := by
    unfold currentRecord program at hr ⊢
    rw [he, hwt]
    exact hr
  have hgo : ¬ w.GoesOn c f (w.engine c) (w.lock c).state x := by
    rw [he, hl, goesOn_peak, goesOn_congr hwc]
    exact hg
  have hpeak := judge_peakF c {} w
  rw [judge_done (k := {}) hwu nofun rfl rfl rfl hwrun (by rw [he]; exact hi) hrec hgo] at hch htab hpeak ⊢
  refine ⟨htab, hch, ?_, (DoneActs.ofEndDone hwrun).congr hwt.symm hwl.symm⟩
  have hseen : seenBy c s (endDone c index w) = w.engine c := by rw [seenBy, hpeak, he]
  have h := endDone_leads (index := index) hwrun hwu
  rw [hseen, ← hp, ← hl]
  exact doneUnder_congr hwt.symm hwc.symm h

/-- A segment entered at the end DONE goes on. -/
theorem entered_steady {p : DoorPolicy} {t : State} {start : Int} {r : SegmentRecord} (h : EndedUnder p c index f s t)
    (hu : s.unforced c f) (he : t.engine c = entered (index + 1) start (s.lock c).state r (seenBy c s t))
    (hl : t.lock c = askedByEntry p r (s.lock c)) (hr : recordAt (s.program c) (index + 1) = some r)
    (hg : s.GoesOn c f (entered (index + 1) start (s.lock c).state r (seenBy c s t))
      (askedByEntry p r (s.lock c)).state r) : Steady c f t := by
  obtain ⟨hv, hf, hm, hk⟩ := hu
  refine .inr ⟨⟨(isValid_congr h.channels _).trans hv, (f_congr h.channels _).trans hf, ?_, ?_⟩, fun _ r' hr' => ?_⟩
  · rw [he]
    exact hm
  · rw [hl]
    exact askedByEntry_not_faulted r hk
  · have hrec : t.currentRecord c = recordAt (s.program c) (index + 1) := by
      unfold currentRecord program
      rw [he, h.tables]
      rfl
    obtain rfl : r = r' := Option.some.inj (hr.symm.trans (hrec.symm.trans hr'))
    rw [he, hl, goesOn_congr h.channels]
    exact hg

/-- The Band Table after the engine: it leaves the end DONE as it is, or begins the release that the next segment has
asked for, as that segment would have done under the new policy. -/
theorem EndedUnder.band {p : DoorPolicy} {i : BandIndex} {t v : State} (h : EndedUnder p c index f s t)
    (hu : s.unforced c f) (hp : (s.lock c).releasePending = none) (k : BandTaken c i t v) (q : Quiet t v) :
    EndedUnder p c index f s v ∨ EndedUnder ((t.setBandIndex c i).policy c) c index f s v := by
  by_cases hb : Begins ((t.setBandIndex c i).policy c) (t.lock c)
  · cases k with
    | stays rest hw => exact .inl (h.untouched ((Untouched.setBandIndex c i t).trans (.ofSettles rest))
        (BandTaken.stays rest hw).stopsCold q.outbox)
    | begins w change before after =>
    have k := BandTaken.begins w change before after
    refine .inr ⟨q.tables.trans h.tables, q.channels.trans h.channels, ?_, h.acts.kept k.stopsCold q.outbox⟩
    have hseen : seenBy c s v = seenBy c s t := by rw [seenBy, k.peakF]; rfl
    obtain ⟨h1, h2, h3⟩ := h.leads
    have hnb : t.lock c ≠ s.lock c := fun hl => by
      rw [hl] at hb
      exact LockCtl.not_begins_of_none hp hb
    rw [hseen]
    refine ⟨fun hl => absurd (h1 hl).2 hnb, fun hl hs => absurd (h2 hl hs).2 hnb, fun r start hs hr hst ha hg => ?_⟩
    have hg' := goesOn_entry_policy (p' := p) hg
    obtain ⟨he, hl⟩ := h3 r start hs hr hst ha hg'
    have hsteady := entered_steady h hu he hl hr hg'
    have hlock := releaseBegins_known hsteady change before after
    rw [(k.silent hsteady).engine_eq k.peakF, hlock, hl]
    rw [hl] at change
    exact ⟨he, askedByEntry_begins hp change⟩
  · exact .inl (h.untouched (k.untouched hb) k.stopsCold q.outbox)

/-- The readers of a cavity channel whose new F ends the segment DONE (R90). -/
theorem acceptedCavity_done {x : SegmentRecord} (hv : s.isValid (.cav c) = true) (hlow : f < 5800)
    (hp : (s.lock c).releasePending = none) (hu : s.unforced c f) (hrun : (s.engine c).state = .running)
    (hi : (s.engine c).segmentIndex = some index) (hr : s.currentRecord c = some x)
    (hg : ¬ s.GoesOn c f (s.engine c) (s.lock c).state x) :
    EndedUnder (s.policy c) c index f s (channelKnown ⟨.cav c, old, true⟩ s)
      ∨ EndedUnder ((s.setBandIndex c (s.bandOf c old f)).policy c) c index f s
        (channelKnown ⟨.cav c, old, true⟩ s) := by
  have hf := hu.2.1
  have hnone : ∀ t p, Untouched c s t → ¬ Begins p (t.lock c) := fun t p ht =>
    LockCtl.not_begins_of_none (by rw [ht.lock]; exact hp)
  refine forEach_two
    (Q := fun t => Untouched c s t ∧ BandUnread s t)
    (A := fun t => Untouched c s t ∧ t.policy c = (s.setBandIndex c (s.bandOf c old f)).policy c)
    (B := fun t => EndedUnder (s.policy c) c index f s t ∧ BandUnread s t)
    (T := fun t => EndedUnder (s.policy c) c index f s t
      ∨ EndedUnder ((s.setBandIndex c (s.bandOf c old f)).policy c) c index f s t)
    (readerActs ⟨.cav c, old, true⟩) (y := .bandTable) (z := .engine) nofun (readers_nodup ..)
    (mem_readers.mpr (by simp [readersOf])) (mem_readers.mpr (by simp [readersOf]))
    (fun t ⟨ht, hb⟩ => ?_) (fun t ⟨ht, hb⟩ => ?_) (fun t ⟨ht, hpol⟩ => ?_) (fun t ⟨hd, hb⟩ => ?_)
    (fun r hmem hb he t => ?_) s ⟨.refl c s, rfl, rfl, rfl⟩
  · have k := hb.taken old hv hf
    have hk := k.untouched (hnone t _ ht)
    exact ⟨ht.trans hk, (k.policy_taken hk.tables).trans (hb.policy_set c _)⟩
  · have hd := done_engine (old := old) ht hu hrun hi hr hg
    rw [hb.policy] at hd
    exact ⟨hd, hb.reader hf nofun⟩
  · have hd := done_engine (old := old) ht hu hrun hi hr hg
    rw [hpol] at hd
    exact .inr hd
  · have hd := hd.band hu hp (hb.taken old hv hf) (.readerActs _ _ t)
    rw [hb.policy_set] at hd
    exact hd
  · obtain rfl := cavity_third hmem hb he
    have q := Quiet.readerActs ⟨.cav c, old, true⟩ .supervisor t
    have untouched := fun hc : t.channels = s.channels =>
      coolCavity_supervisor (old := old) ((f_congr hc _).trans hf) hlow
    have ended : ∀ {p}, EndedUnder p c index f s t →
        EndedUnder p c index f s (readerActs ⟨.cav c, old, true⟩ .supervisor t) := fun hd =>
      hd.untouched (untouched hd.channels) (coolCavity_stopsCold old ((f_congr hd.channels _).trans hf) hlow) q.outbox
    refine ⟨fun ⟨ht, hu⟩ => ⟨ht.trans (untouched ht.channels), hu.reader hf hb⟩, fun ⟨ht, hpol⟩ => ?_,
      fun ⟨hd, hu⟩ => ⟨ended hd, hu.reader hf hb⟩, fun hd => hd.imp ended ended⟩
    have k := untouched ht.channels
    exact ⟨ht.trans k, (policy_congr k.tables (cavity_bandIndex ((f_congr ht.channels _).trans hf) hb) k.channels
      c).trans hpol⟩

end State
end Sys2Proof.Machine
end

section
/-!
PROOFS. The state after an accepted conversion, from the state before it: the clauses of O27 for FRONT and for a
catalyst channel.
-/

namespace Sys2Proof.Machine

open Sys2Proof State

namespace State

/-- The state in which the readers of an accepted conversion act: the channel is VALID with its new F, and what the
readers write is as it was. -/
structure Accepted (ch : Channel) (f : Int) (s u : State) : Prop where
  valid : u.isValid ch = true
  f : u.f ch = some f
  channel : ∀ d, d ≠ ch → u.channel d = s.channel d
  engines : u.engines = s.engines
  locks : u.locks = s.locks
  tables : u.tables = s.tables
  tableLocks : u.tableLocks = s.tableLocks
  bandIndex : u.bandIndex = s.bandIndex
  sup : u.sup = s.sup
  fan : u.fan = s.fan
  events : u.events = s.events

theorem accepted_written {s : State} {codes : BitVec 16 × BitVec 16} {ch : Channel} {new : ChannelEntry} {f : Int}
    (hs : new.state = .valid) (hf : new.f = some f) :
    Accepted ch f s (entryWritten ch new (s.nextStarted codes)) where
  valid := (entryWritten_isValid ..).trans (decide_eq_true hs)
  f := by rw [State.f, entryWritten_channel_same, hf]
  channel d hd := entryWritten_channel_ne _ _ _ hd
  engines := entryWritten_engines ..
  locks := entryWritten_locks ..
  tables := entryWritten_tables ..
  tableLocks := entryWritten_tableLocks ..
  bandIndex := entryWritten_bandIndex ..
  sup := entryWritten_sup ..
  fan := entryWritten_fan ..
  events := entryWritten_events ..

namespace Accepted

variable {ch : Channel} {f : Int} {s u : State}

theorem engine (h : Accepted ch f s u) (c : Cavity) : u.engine c = s.engine c := by rw [State.engine, h.engines]; rfl

theorem lock (h : Accepted ch f s u) (c : Cavity) : u.lock c = s.lock c := by rw [State.lock, h.locks]; rfl

theorem inCycle (h : Accepted ch f s u) (c : Cavity) : u.inCycle c = s.inCycle c := inCycle_congr (h.engine c)

theorem currentRecord (h : Accepted ch f s u) (c : Cavity) : u.currentRecord c = s.currentRecord c :=
  currentRecord_congr (h.engine c) h.tables

theorem program (h : Accepted ch f s u) (c : Cavity) : u.program c = s.program c := by
  unfold State.program
  rw [h.tables]

end Accepted

/-- The state after the conversion: the change is known and its records are in the queue. -/
def acceptedKnown (ch : Channel) (old : ChannelState) (u : State) : State := (channelKnown ⟨ch, old, true⟩ u).close

section

variable (ch : Channel) (old : ChannelState) (u : State)

theorem acceptedKnown_engine (c : Cavity) :
    (acceptedKnown ch old u).engine c = (channelKnown ⟨ch, old, true⟩ u).engine c := by
  unfold acceptedKnown State.engine
  rw [close_engines]

theorem acceptedKnown_lock (c : Cavity) :
    (acceptedKnown ch old u).lock c = (channelKnown ⟨ch, old, true⟩ u).lock c := by
  unfold acceptedKnown State.lock
  rw [close_locks]

theorem acceptedKnown_tables : (acceptedKnown ch old u).tables = u.tables :=
  (close_tables _).trans (Quiet.channelKnown ..).tables

theorem acceptedKnown_channels : (acceptedKnown ch old u).channels = u.channels :=
  (close_channels _).trans (Quiet.channelKnown ..).channels

theorem acceptedKnown_rates : (acceptedKnown ch old u).rates = u.rates :=
  (close_rates _).trans (Quiet.channelKnown ..).rates

theorem acceptedKnown_pending : (acceptedKnown ch old u).pending = u.pending :=
  (close_pending _).trans (Quiet.channelKnown ..).pending

theorem acceptedKnown_coldNow {c : Cavity} (h : coldNow (channelKnown ⟨ch, old, true⟩ u) c) :
    coldNow (acceptedKnown ch old u) c := by
  unfold acceptedKnown coldNow holdsGrant
  rw [close_alloc]
  exact h

theorem acceptedKnown_unrecorded {c : Cavity} {s : State} (h : Unended c (channelKnown ⟨ch, old, true⟩ u))
    (hu : u.events = s.events) : s.CycleUnrecorded c (acceptedKnown ch old u) :=
  h.close ((Quiet.channelKnown ..).queue.trans (by rw [hu]))

end

/-! ## FRONT -/

theorem Accepted.front {f : Int} {s u : State} (h : Accepted .front f s u) (old : ChannelState) :
    FrontJudged f s (acceptedKnown .front old u) ∧ (acceptedKnown .front old u).bandIndex = s.bandIndex
      ∧ s.ChannelMeasured .front (acceptedKnown .front old u) := by
  have hfail : u.isFailed .front = false := by
    have hs : (u.channel .front).state = .valid := of_decide_eq_true h.valid
    exact decide_eq_false (by rw [hs]; exact nofun)
  obtain ⟨hj, hb⟩ := acceptedFront_known (old := old) h.valid hfail h.f
  have hfan : (acceptedKnown .front old u).fan = _ := close_fan _
  have hsup : (acceptedKnown .front old u).sup = _ := close_sup _
  refine ⟨⟨?_, ?_, fun hi c => acceptedKnown_coldNow _ _ _ (hj.cold (hfan ▸ hi) c), ?_, ?_⟩,
    ((close_bandIndex _).trans hb).trans h.bandIndex,
    ((acceptedFront_measured (old := old) h.valid hfail).congr (.of_sup h.sup)).close⟩
  · rw [hfan, ← h.fan]
    exact hj.fan
  · rw [hfan, hsup]
    exact hj.inhibit
  · exact ((close_engines _).trans hj.engines).trans h.engines
  · exact ((close_locks _).trans hj.locks).trans h.locks

/-! ## A catalyst channel -/

/-- The policy in force reads the cavity channel alone of the channels (R36, R41). -/
theorem policy_of_cav {s t : State} {c : Cavity} (ht : t.tables = s.tables) (hb : t.bandIndex = s.bandIndex)
    (hc : t.channel (.cav c) = s.channel (.cav c)) : t.policy c = s.policy c := by
  unfold policy bandFields bandNow bandTable isValid
  rw [ht, hb, hc]

section

variable {c : Cavity} {f f' : Int} {s u : State} (h : Accepted (.cat c) f' s u) (old : ChannelState)

include h

theorem Accepted.catalyst_unforced (hu : s.unforced c f) : u.unforced c f := by
  have hc := h.channel (.cav c) nofun
  refine unforced_congr ?_ ?_ (h.engine c) (h.lock c) hu
  · unfold isValid
    rw [hc]
  · unfold State.f
    rw [hc]

theorem Accepted.catalyst_measured : s.ChannelMeasured (.cat c) (acceptedKnown (.cat c) old u) := by
  have hs : (u.channel (.cat c)).state = .valid := of_decide_eq_true h.valid
  exact ((State.catalyst_measured old true (by rw [hs]; exact nofun)).congr (.of_sup h.sup)).close

theorem Accepted.catalyst_bandIndex : (acceptedKnown (.cat c) old u).bandIndex = s.bandIndex :=
  ((close_bandIndex _).trans (catalystKnown_bandIndex ..)).trans h.bandIndex

theorem Accepted.catalyst_policy : (acceptedKnown (.cat c) old u).policy c = u.policy c :=
  policy_congr (acceptedKnown_tables ..) ((h.catalyst_bandIndex old).trans h.bandIndex.symm)
    (acceptedKnown_channels ..) c

theorem Accepted.catalyst_done {index : Nat} {x : SegmentRecord} (hu : s.unforced c f)
    (hrun : (s.engine c).state = .running) (hi : (s.engine c).segmentIndex = some index)
    (hr : s.currentRecord c = some x)
    (hg : ¬ (acceptedKnown (.cat c) old u).GoesOn c f (s.engine c) (s.lock c).state x) :
    (acceptedKnown (.cat c) old u).DoneLeadsTo c index f (s.lock c) (s.engine c)
        ((acceptedKnown (.cat c) old u).lock c) ((acceptedKnown (.cat c) old u).engine c)
      ∧ s.DoneRecorded c index (acceptedKnown (.cat c) old u) := by
  rw [← h.engine, ← h.lock, goesOn_congr (acceptedKnown_channels ..)] at hg
  obtain ⟨hd, ha⟩ := acceptedCatalyst_done old h.valid (h.catalyst_unforced hu) (by rw [h.engine, hrun])
    (by rw [h.engine, hi]) ((h.currentRecord c).trans hr) hg
  refine ⟨?_, (ha.congr h.tables.symm h.tableLocks.symm).close⟩
  rw [doneLeadsTo_iff, h.catalyst_policy, ← h.engine, ← h.lock, acceptedKnown_engine, acceptedKnown_lock]
  exact doneUnder_congr (acceptedKnown_tables ..) (acceptedKnown_channels ..) hd

theorem Accepted.catalyst_goesOn (hu : s.unforced c f)
    (hg : (s.engine c).state = .running → ∃ x, s.currentRecord c = some x
      ∧ (acceptedKnown (.cat c) old u).GoesOn c f (s.engine c) (s.lock c).state x) :
    (acceptedKnown (.cat c) old u).engine c = s.engine c ∧ (acceptedKnown (.cat c) old u).lock c = s.lock c
      ∧ (acceptedKnown (.cat c) old u).tableLocks = s.tableLocks
      ∧ (s.events.outbox = [] → s.CycleUnrecorded c (acceptedKnown (.cat c) old u)) := by
  have k := acceptedCatalyst_goesOn old h.valid (h.catalyst_unforced hu) fun hrun => by
    rw [h.engine] at hrun ⊢
    obtain ⟨x, hx, hgo⟩ := hg hrun
    exact ⟨x, (h.currentRecord c).trans hx, by rw [h.lock]; exact (goesOn_congr (acceptedKnown_channels ..)).mp hgo⟩
  refine ⟨?_, ?_, ((close_tableLocks _).trans k.tableLocks).trans h.tableLocks, fun ho =>
    acceptedKnown_unrecorded _ _ _ (k.unended (.of_empty (by rw [h.events]; exact ho))) h.events⟩
  · rw [acceptedKnown_engine, k.engine, h.engine]
  · rw [acceptedKnown_lock, k.lock, h.lock]

end

end State
end Sys2Proof.Machine
end

section
/-!
PROOFS. Obligation O27: the clauses for a cavity channel, and the whole.
-/

namespace Sys2Proof.Machine

open Sys2Proof State

namespace State

section

variable {c : Cavity} {f : Int} {s u : State} (h : Accepted (.cav c) f s u) (old : ChannelState)

include h

theorem Accepted.cavity_bandIndex :
    (acceptedKnown (.cav c) old u).bandIndex = s.bandIndex.set c (s.bandOf c old f) := by
  rw [← bandOf_congr h.tables h.bandIndex c old f, ← h.bandIndex]
  exact (close_bandIndex _).trans (acceptedCavity_bandIndex h.valid h.f)

/-- The policy once the Band Table has taken its index. -/
theorem Accepted.cavity_policy :
    (acceptedKnown (.cav c) old u).policy c = (u.setBandIndex c (u.bandOf c old f)).policy c := by
  have ht : (acceptedKnown (.cav c) old u).tables = (u.setBandIndex c (u.bandOf c old f)).tables := by
    rw [acceptedKnown_tables, setBandIndex_tables]
  have hb : (acceptedKnown (.cav c) old u).bandIndex = (u.setBandIndex c (u.bandOf c old f)).bandIndex := by
    rw [h.cavity_bandIndex, bandOf_congr h.tables h.bandIndex, setBandIndex_bandIndex, h.bandIndex]
  have hc : (acceptedKnown (.cav c) old u).channels = (u.setBandIndex c (u.bandOf c old f)).channels := by
    rw [acceptedKnown_channels, setBandIndex_channels]
  exact policy_congr ht hb hc c

/-- Until then the policy is that of before the conversion, where OVER stood for a channel that was not VALID (R36). -/
theorem Accepted.cavity_policy_before (ho : s.IndexOverUnlessValid) : u.policy c = s.policy c := by
  have hnow : u.bandNow c = s.bandNow c := by
    unfold bandNow
    rw [if_pos h.valid, h.bandIndex]
    cases hv : s.isValid (.cav c) with
    | true => rfl
    | false => exact ho c hv
  unfold policy bandFields bandTable
  rw [hnow, h.tables]

theorem Accepted.cavity_begun (hs : Steady c f u) (hq : f < 5800 ∨ s.inCycle c = false)
    (ho : s.IndexOverUnlessValid) (he : (s.lock c).state = .engaged) (hp : (s.lock c).releasePending ≠ none)
    (hn : s.policy c ≠ .free) (hf : (acceptedKnown (.cav c) old u).policy c = .free) :
    (acceptedKnown (.cav c) old u).lock c = releaseBegun (s.lock c) := by
  rw [h.cavity_policy old] at hf
  rw [← h.cavity_policy_before ho] at hn
  rw [← h.lock] at he hp ⊢
  rw [acceptedKnown_lock]
  refine acceptedCavity_begun h.valid h.f hs (by rw [h.inCycle]; exact hq) (fun hi => hn ?_) ⟨he, hp, hf⟩
  rw [setBandIndex_self hi] at hf
  exact hf

theorem Accepted.cavity_measured : s.ChannelMeasured (.cav c) (acceptedKnown (.cav c) old u) :=
  ((acceptedCavity_measured (old := old) h.valid h.f).congr (.of_sup h.sup)).close

theorem Accepted.cavity_overheat : OverheatJudged c f s (channelKnown ⟨.cav c, old, true⟩ u) :=
  (acceptedCavity_overheat (old := old) h.valid h.f).congr (by rw [h.sup]) (by rw [h.sup]) (h.engine _) (h.lock _)

theorem Accepted.cavity_below (hlow : f < 5800) :
    (acceptedKnown (.cav c) old u).sup.overheat = s.sup.overheat
      ∧ (acceptedKnown (.cav c) old u).sup.overheatTimer = s.sup.overheatTimer.set c none := by
  unfold acceptedKnown
  rw [close_sup]
  exact (h.cavity_overheat old).below hlow

theorem Accepted.cavity_above (hhigh : 5800 ≤ f) :
    (acceptedKnown (.cav c) old u).sup.overheat = s.sup.overheat.set c true
      ∧ (acceptedKnown (.cav c) old u).sup.overheatTimer = s.sup.overheatTimer.set c
        (if s.sup.overheat.get c = true ∧ s.sup.overheatTimer.get c ≠ none then s.sup.overheatTimer.get c else some 0)
      ∧ (s.sup.overheat.get c = false → (acceptedKnown (.cav c) old u).sup.driveEnable = false
        ∧ (∀ d, (acceptedKnown (.cav c) old u).inCycle d = false ∧ coldNow (acceptedKnown (.cav c) old u) d)
        ∧ (acceptedKnown (.cav c) old u).engine c.other = s.afterAbort .system c.other
        ∧ (acceptedKnown (.cav c) old u).reported (.faultRaised (some c) .overheat none)) := by
  have k := h.cavity_overheat old
  obtain ⟨ho, ht⟩ := k.above hhigh
  refine ⟨(congrArg Sup.overheat (close_sup _)).trans ho, (congrArg Sup.overheatTimer (close_sup _)).trans ht,
    fun hn => ?_⟩
  obtain ⟨hd, hin, hcold, hother, hr⟩ := k.stops hhigh hn
  exact ⟨(congrArg Sup.driveEnable (close_sup _)).trans hd,
    fun d => ⟨(inCycle_congr (acceptedKnown_engine ..)).trans (hin d), acceptedKnown_coldNow _ _ _ (hcold d)⟩,
    (acceptedKnown_engine ..).trans hother, hr.close⟩

theorem Accepted.cavity_peakF (hlow : f < 5800) (hp : (s.lock c).releasePending = none) :
    ((acceptedKnown (.cav c) old u).engine c).peakF = raisedPeak f (s.engine c) := by
  rw [acceptedKnown_engine, ← h.engine]
  exact acceptedCavity_peakF h.valid h.f hlow (by rw [h.lock]; exact hp)

theorem Accepted.cavity_overshoot {m : Int} (hlow : f < 5800) (hp : (s.lock c).releasePending = none)
    (hc : s.inCycle c = true) (hr : s.currentRecord c ≠ none) (hm : (s.engine c).ceiling = some m) (hmf : m < f) :
    (acceptedKnown (.cav c) old u).engine c = abortedUnder (s.lock c).state .overshoot
        { s.engine c with peakF := ((acceptedKnown (.cav c) old u).engine c).peakF }
      ∧ coldNow (acceptedKnown (.cav c) old u) c
      ∧ (s.IndexOverUnlessValid → (acceptedKnown (.cav c) old u).policy c = s.policy c →
        (acceptedKnown (.cav c) old u).lock c = askedByAbort (s.policy c) (s.lock c)) := by
  obtain ⟨ho, hl⟩ := acceptedCavity_overshoot (old := old) h.valid h.f hlow (by rw [h.lock]; exact hp)
    ((h.inCycle c).trans hc) ((h.currentRecord c).trans_ne hr) (by rw [h.engine]; exact hm) hmf
  refine ⟨?_, acceptedKnown_coldNow _ _ _ ho.cold, fun hio hsame => ?_⟩
  · obtain ⟨p, hp⟩ := ho.engine
    have hpeak : (abortedUnder (u.lock c).state .overshoot { u.engine c with peakF := p }).peakF = p := by
      unfold abortedUnder
      split <;> rfl
    rw [acceptedKnown_engine, hp, hpeak, h.lock, h.engine]
  · rw [h.cavity_policy old, ← h.cavity_policy_before hio] at hsame
    rw [acceptedKnown_lock, hl hsame, h.cavity_policy_before hio, h.lock]

theorem Accepted.cavity_unforced (hm : ∀ m, (s.engine c).ceiling = some m → f ≤ m) (hl : (s.lock c).state ≠ .faulted) :
    u.unforced c f :=
  ⟨h.valid, h.f, by rw [h.engine]; exact hm, by rw [h.lock]; exact hl⟩

theorem Accepted.cavity_goesOn_iff {e : Engine} {x : LockState} {r : SegmentRecord} :
    u.GoesOn c f e x r ↔ s.GoesOn c f e x r := goesOn_of_cat (h.channel (.cat c) nofun)

theorem Accepted.cavity_done {index : Nat} {x : SegmentRecord} (hlow : f < 5800)
    (hm : ∀ m, (s.engine c).ceiling = some m → f ≤ m) (hl : (s.lock c).state ≠ .faulted)
    (hrun : (s.engine c).state = .running) (hi : (s.engine c).segmentIndex = some index)
    (hr : s.currentRecord c = some x) (hg : ¬ s.GoesOn c f (s.engine c) (s.lock c).state x)
    (hp : (s.lock c).releasePending = none) (ho : s.IndexOverUnlessValid) :
    (s.DoneLeadsTo c index f (s.lock c) (seenBy c s (acceptedKnown (.cav c) old u))
          ((acceptedKnown (.cav c) old u).lock c) ((acceptedKnown (.cav c) old u).engine c)
        ∨ (acceptedKnown (.cav c) old u).DoneLeadsTo c index f (s.lock c) (seenBy c s (acceptedKnown (.cav c) old u))
          ((acceptedKnown (.cav c) old u).lock c) ((acceptedKnown (.cav c) old u).engine c))
      ∧ s.DoneRecorded c index (acceptedKnown (.cav c) old u) := by
  have hd := acceptedCavity_done (old := old) (index := index) (x := x) h.valid hlow (by rw [h.lock]; exact hp)
    (h.cavity_unforced hm hl) (by rw [h.engine]; exact hrun) (by rw [h.engine]; exact hi)
    ((h.currentRecord c).trans hr) (by rw [h.engine, h.lock, h.cavity_goesOn_iff]; exact hg)
  have hseen : seenBy c s (acceptedKnown (.cav c) old u) = seenBy c u (channelKnown ⟨.cav c, old, true⟩ u) := by
    unfold seenBy
    rw [acceptedKnown_engine, h.engine]
  have hacts : ∀ {p}, EndedUnder p c index f u (channelKnown ⟨.cav c, old, true⟩ u) →
      s.DoneRecorded c index (acceptedKnown (.cav c) old u) := fun k =>
    (k.acts.congr h.tables.symm h.tableLocks.symm).close
  refine ⟨?_, hd.elim hacts hacts⟩
  rw [hseen, acceptedKnown_engine, acceptedKnown_lock, ← h.lock]
  refine hd.imp (fun k => ?_) fun k => ?_
  · rw [doneLeadsTo_iff, ← h.cavity_policy_before ho]
    exact doneUnder_of_cat h.tables.symm (h.channel (.cat c) nofun).symm k.leads
  · rw [doneLeadsTo_iff, h.cavity_policy old]
    exact doneUnder_congr (acceptedKnown_tables ..) (acceptedKnown_channels ..) k.leads

theorem Accepted.cavity_steady (hm : ∀ m, (s.engine c).ceiling = some m → f ≤ m) (hl : (s.lock c).state ≠ .faulted)
    (hg : (s.engine c).state = .running →
      ∃ x, s.currentRecord c = some x ∧ s.GoesOn c f (s.engine c) (s.lock c).state x) : Steady c f u := by
  refine .inr ⟨h.cavity_unforced hm hl, fun hrun r hr => ?_⟩
  rw [h.engine] at hrun ⊢
  obtain ⟨x, hx, hgo⟩ := hg hrun
  obtain rfl : x = r := Option.some.inj (hx.symm.trans ((h.currentRecord c).symm.trans hr))
  rw [h.lock, h.cavity_goesOn_iff]
  exact hgo

theorem Accepted.cavity_goesOn (hs : Steady c f u) (hlow : f < 5800) :
    (acceptedKnown (.cav c) old u).engine c = seenBy c s (acceptedKnown (.cav c) old u)
      ∧ (acceptedKnown (.cav c) old u).tableLocks = s.tableLocks
      ∧ (s.events.outbox = [] → s.CycleUnrecorded c (acceptedKnown (.cav c) old u))
      ∧ ((s.lock c).releasePending = none → (acceptedKnown (.cav c) old u).lock c = s.lock c) := by
  have k := acceptedCavity_silent (old := old) h.valid h.f hs hlow
  refine ⟨?_, ((close_tableLocks _).trans k.tableLocks).trans h.tableLocks, fun ho =>
    acceptedKnown_unrecorded _ _ _ (k.unended (.of_empty (by rw [h.events]; exact ho))) h.events, fun hp => ?_⟩
  · obtain ⟨p, hp⟩ := k.engine
    rw [seenBy, acceptedKnown_engine, hp, h.engine]
  · rw [acceptedKnown_lock, ← h.lock]
    exact k.lock.resolve_right fun ⟨_, hn, _⟩ => hn (by rw [h.lock]; exact hp)

end

/-- The rate history of the channel of an accepted conversion (R28, R30). -/
theorem accepted_rates {c : Cavity} {s : State} {codes : BitVec 16 × BitVec 16} {new : ChannelEntry} {f : Int}
    (hs : new.state = .valid) (hf : new.f = some f) (old : ChannelState) :
    (acceptedKnown (.cav c) old (entryWritten (.cav c) new (s.nextStarted codes))).rates
      = if (s.channel (.cav c)).state = .valid then s.rates
        else s.rates.set c { mark := some f, timer := some 0, rate := none } := by
  rw [acceptedKnown_rates]
  show s.rates.set c (rateAfter (s.channel (.cav c)) new (s.rates.get c)) = _
  rw [rateAfter, if_pos hs, hf]
  split
  · exact PerCavity.set_get ..
  · rfl

end State

/-- Settles O27: the accepted entry, and what its readers make of it by the kind of channel. -/
theorem agreeingTemperatureIsAccepted : Obligations.AgreeingTemperatureIsAccepted := by
  intro s rtd ref x p r q
  dsimp only
  intro ho hel hs hconv hp hw
  have hwin : (x - p).natAbs ≤ (agreementWindow s.converter.channel).toNat := by
    revert hw
    cases s.converter.channel <;> exact id
  have hj : s.scanJudged rtd ref = ⟨acceptedEntry x (acceptedF x (s.channel s.converter.channel))
      (s.channel s.converter.channel), true⟩ := by
    rw [scanJudged, hconv]
    exact judgeScan_agrees hs hp hwin
  refine ⟨acceptedKnown s.converter.channel _ _, exec_scan_accepts ho hel hj rfl, ?_⟩
  clear hj hconv hwin hw
  generalize s.converter.channel = ch at hs hp ⊢
  generalize hF : acceptedF x (s.channel ch) = F
  have h : Accepted ch F s (entryWritten ch (acceptedEntry x F (s.channel ch)) (s.nextStarted (rtd, ref))) :=
    accepted_written rfl rfl
  have hrates : ∀ c, ch = .cav c → (acceptedKnown ch (s.channel ch).state
      (entryWritten ch (acceptedEntry x F (s.channel ch)) (s.nextStarted (rtd, ref)))).rates
        = if (s.channel ch).state = .valid then s.rates
          else s.rates.set c { mark := some F, timer := some 0, rate := none } := fun c hc => by
    subst hc
    exact accepted_rates rfl rfl _
  have hother : (∀ c, ch ≠ .cav c) →
      (entryWritten ch (acceptedEntry x F (s.channel ch)) (s.nextStarted (rtd, ref))).rates = s.rates :=
    fun hc => entryWritten_rates _ _ hc
  have hchannels : (entryWritten ch (acceptedEntry x F (s.channel ch)) (s.nextStarted (rtd, ref))).channels
      = s.channels.set ch (acceptedEntry x F (s.channel ch)) := entryWritten_channels ..
  have hpending : (entryWritten ch (acceptedEntry x F (s.channel ch)) (s.nextStarted (rtd, ref))).pending = s.pending :=
    entryWritten_pending ..
  generalize entryWritten ch (acceptedEntry x F (s.channel ch)) (s.nextStarted (rtd, ref)) = u at *
  have hnew : (acceptedKnown ch (s.channel ch).state u).channel ch = acceptedEntry x F (s.channel ch) := by
    rw [channel, acceptedKnown_channels, hchannels, PerChannel.get_set_same]
  have hf : ∀ {f}, ((acceptedKnown ch (s.channel ch).state u).channel ch).f = some f → f = F := fun k => by
    rw [hnew] at k
    exact (Option.some.inj k).symm
  refine ⟨?_, fun hv => ?_, fun f hv hold => ?_, fun c hc => ⟨?_, fun f k => ?_⟩, fun hc => ⟨?_, ?_⟩, ?_, ?_, ?_,
    fun c f hc k => ?_, fun c f hc hcy hr hu => ?_, fun f hc k => ?_⟩
  · rw [acceptedKnown_channels, hchannels, hnew]
    rfl
  · rw [hnew, ← acceptedF_of_not_valid (x := x) hv, ← hF]
    rfl
  · rw [hnew, ← acceptedF_of_valid (x := x) hv hold, hF]
    rfl
  · rw [hrates c hc]
    split
    · rfl
    · next hv => rw [← hF, acceptedF_of_not_valid hv]
  · obtain rfl := hf k
    subst hc
    rw [h.cavity_bandIndex]
    rfl
  · rw [acceptedKnown_rates, hother hc]
  · cases ch with
    | cav c => exact absurd rfl (hc c)
    | cat c => exact h.catalyst_bandIndex _
    | front => exact (h.front _).2.1
  · rw [acceptedKnown_tables, h.tables]
  · rw [acceptedKnown_pending, hpending]
  · cases ch with
    | cav c => exact h.cavity_measured _
    | cat c => exact h.catalyst_measured _
    | front => exact (h.front _).2.2
  · obtain rfl := hf k
    subst hc
    clear hrates hother hchannels hnew hf k
    refine ⟨fun hio hcy he hpend hn hfree => ?_, fun hlow hpend => ?_, fun m hlow hpend hcy hr hm hmf => ?_,
      fun hlow hcy hr hl hm => ⟨fun index y hrun hi hy hg hpend hio => ?_, fun hg => ?_⟩,
      fun hlow => ?_, fun hhigh => ?_⟩
    · exact h.cavity_begun _ (.inl ((h.inCycle c).trans hcy)) (.inr hcy) hio he hpend hn hfree
    · exact h.cavity_peakF _ hlow hpend
    · exact h.cavity_overshoot _ hlow hpend hcy hr hm hmf
    · exact h.cavity_done _ hlow hm hl hrun hi hy hg hpend hio
    · have hsteady := h.cavity_steady hm hl hg
      obtain ⟨he, ht, hu, hlock⟩ := h.cavity_goesOn (s.channel (.cav c)).state hsteady hlow
      exact ⟨he, ht, hu, hlock, fun hio he hpend hn hfree => h.cavity_begun _ hsteady (.inl hlow) hio he hpend hn hfree⟩
    · exact h.cavity_below _ hlow
    · exact h.cavity_above _ hhigh
  · subst hc
    exact ⟨fun index y hrun hi hy hg => h.catalyst_done _ hu hrun hi hy hg, h.catalyst_goesOn _ hu⟩
  · obtain rfl := hf k
    subst hc
    obtain ⟨hfan, hin, hcold, heng, hlocks⟩ := (h.front (s.channel .front).state).1
    exact ⟨hfan.demand, hfan.inhibit, hin, hcold, hfan.frontInvalid, hfan.level, hfan.rises, hfan.falls, hfan.turns,
      heng, hlocks⟩

end Sys2Proof.Machine
end

section
/-!
PROOFS. Obligation O25: the arithmetic of a conversion. The reference check and the resistance (R20, R21), the four
classes (R22, R25), and the linearization table as its list of segments (R23, R24).
-/

namespace Sys2Proof.Machine

open Sys2Proof

/-! ## The clamp -/

/-- The manual's clamp, in an interval that is not empty, as a maximum of a minimum. -/
theorem clampInt_eq_max_min {x lo hi : Int} (h : lo ≤ hi) : clampInt x lo hi = max lo (min x hi) := by
  unfold clampInt
  split
  · omega
  · split <;> omega

/-! ## Codes and resistance -/

theorem referenceGood_iff {ref : Nat} : referenceGood ref = true ↔ 20000 ≤ ref ∧ ref ≤ 60000 := by
  simp [referenceGood]

/-- With a reference code that passes the check, a resistance fits in 16 bits (R21). -/
theorem resistance_le {rtd ref : Nat} (hrtd : rtd < 65536) (href : 20000 ≤ ref) : resistance rtd ref ≤ 65535 := by
  have h : rtd * 20000 + ref / 2 < 65536 * ref := by omega
  exact Nat.le_of_lt_succ ((Nat.div_lt_iff_lt_mul (by omega)).mpr h)

/-! ## The linearization table -/

/-- The segments of a table of points: the temperature at the lower end, and the resistances at the two ends. -/
def segmentsOf : List (Int × Nat) → List (Int × Nat × Nat)
  | (t0, r0) :: (t1, r1) :: rest => (t0, r0, r1) :: segmentsOf ((t1, r1) :: rest)
  | _ => []

/-- The temperature of a resistance on the line of a segment (R23). -/
def onSegment (seg : Int × Nat × Nat) (r : Nat) : Int :=
  seg.1 + (((r - seg.2.1) * 500 + (seg.2.2 - seg.2.1) / 2) / (seg.2.2 - seg.2.1) : Nat)

/-- A segment begins at a point of its table. -/
theorem exists_point_of_mem_segments {points : List (Int × Nat)} {seg : Int × Nat × Nat}
    (h : seg ∈ segmentsOf points) : ∃ p ∈ points, p.2 = seg.2.1 := by
  fun_induction segmentsOf points with
  | case1 t0 r0 t1 r1 rest ih =>
    rcases List.mem_cons.mp h with rfl | h
    · exact ⟨(t0, r0), List.mem_cons_self, rfl⟩
    · obtain ⟨p, hp, hr⟩ := ih h
      exact ⟨p, List.mem_cons_of_mem _ hp, hr⟩
  | case2 => exact absurd h List.not_mem_nil

/-- In a table of ascending resistances a segment that holds the resistance is the one interpolated in. -/
theorem interpolate_of_mem_segments {points : List (Int × Nat)} {seg : Int × Nat × Nat} {r : Nat}
    (hasc : points.Pairwise fun p q => p.2 < q.2) (hseg : seg ∈ segmentsOf points) (hlo : seg.2.1 ≤ r)
    (hhi : r < seg.2.2) : interpolate points r = some (onSegment seg r) := by
  fun_induction segmentsOf points with
  | case1 t0 r0 t1 r1 rest ih =>
    rcases List.mem_cons.mp hseg with rfl | hseg
    · exact if_pos ⟨hlo, hhi⟩
    · have hasc' := (List.pairwise_cons.mp hasc).2
      obtain ⟨p, hp, hr⟩ := exists_point_of_mem_segments hseg
      have hbeyond : r1 ≤ p.2 := by
        rcases List.mem_cons.mp hp with rfl | hp
        · exact le_rfl
        · exact ((List.pairwise_cons.mp hasc').1 p hp).le
      exact (if_neg (by omega)).trans (ih hasc' hseg)
  | case2 => exact absurd hseg List.not_mem_nil

/-- From the last point on there is no segment. -/
theorem interpolate_beyond {points : List (Int × Nat)} {r : Nat} (h : ∀ p ∈ points, p.2 ≤ r) :
    interpolate points r = none := by
  fun_induction interpolate points r with
  | case1 t0 r0 t1 r1 rest r hin =>
    have hlast := h (t1, r1) (List.mem_cons_of_mem _ List.mem_cons_self)
    exact absurd hin.2 (Nat.not_lt.mpr hlast)
  | case2 t0 r0 t1 r1 rest r hout ih => exact ih fun p hp => h p (List.mem_cons_of_mem _ hp)
  | case3 => rfl

theorem linearizationPoints_ascend : linearizationPoints.Pairwise fun p q => p.2 < q.2 := by decide

theorem linearizationSegments_within : ∀ seg ∈ segmentsOf linearizationPoints, 8031 ≤ seg.2.1 ∧ seg.2.2 ≤ 31371 := by
  decide

theorem linearize_under {r : Nat} (h : r ≤ 8030) : linearize r = (-500, some .under) := if_pos (by omega)

theorem linearize_over {r : Nat} (h : 31372 ≤ r) : linearize r = (6000, some .over) :=
  (if_neg (by omega)).trans (if_pos h)

theorem linearize_within {r : Nat} (hlo : 8031 ≤ r) (hhi : r ≤ 31371) :
    linearize r = ((interpolate linearizationPoints r).getD 6000, none) :=
  (if_neg (by omega)).trans (if_neg (by omega))

theorem linearize_last : linearize 31371 = (6000, none) := by
  rw [linearize_within (by decide) (by decide), interpolate_beyond (by decide)]
  rfl

theorem linearize_segment {seg : Int × Nat × Nat} {r : Nat} (hseg : seg ∈ segmentsOf linearizationPoints)
    (hlo : seg.2.1 ≤ r) (hhi : r < seg.2.2) : linearize r = (onSegment seg r, none) := by
  obtain ⟨hfirst, hlast⟩ := linearizationSegments_within seg hseg
  rw [linearize_within (by omega) (by omega),
    interpolate_of_mem_segments linearizationPoints_ascend hseg hlo hhi]
  rfl

/-! ## A conversion, class by class -/

section
variable {rtd ref : BitVec 16} {r : Nat}

theorem convert_reference (h : referenceGood ref.toNat = false) : convert rtd ref = ⟨.reference, none, none, none⟩ :=
  if_neg (by rw [h]; exact nofun)

theorem convert_short (hg : referenceGood ref.toNat = true) (hr : resistance rtd.toNat ref.toNat = r)
    (h : r < 7000) : convert rtd ref = ⟨.shortCircuit, some r, none, none⟩ := by
  subst hr
  exact (if_pos hg).trans (if_pos h)

theorem convert_open (hg : referenceGood ref.toNat = true) (hr : resistance rtd.toNat ref.toNat = r)
    (h : 35000 < r) : convert rtd ref = ⟨.openCircuit, some r, none, none⟩ := by
  subst hr
  exact (if_pos hg).trans ((if_neg (by omega)).trans (if_pos h))

theorem convert_temperature {x : Int} {q : Option Qualifier} (hg : referenceGood ref.toNat = true)
    (hr : resistance rtd.toNat ref.toNat = r) (hlo : 7000 ≤ r) (hhi : r ≤ 35000) (hl : linearize r = (x, q)) :
    convert rtd ref = ⟨.temperature, some r, some x, q⟩ := by
  subst hr
  refine (if_pos hg).trans ((if_neg (by omega)).trans ((if_neg (by omega)).trans ?_))
  rw [hl]

end

/-- Settles O25: the classes by the resistance, and within TEMPERATURE the clamps, the last point and the segments of
the table. -/
theorem conversionArithmetic : Obligations.ConversionArithmetic := by
  intro codeRtd codeRef ref r
  have hr : resistance codeRtd.toNat codeRef.toNat = r := rfl
  clear_value r
  refine ⟨fun hbad => convert_reference (Bool.eq_false_iff.mpr fun hg => ?_), fun hlo hhi => ?_⟩
  · obtain ⟨hlo, hhi⟩ := referenceGood_iff.mp hg
    omega
  · have hg : referenceGood codeRef.toNat = true := referenceGood_iff.mpr ⟨hlo, hhi⟩
    refine ⟨hr ▸ resistance_le codeRtd.isLt hlo, convert_short hg hr, convert_open hg hr,
      fun h7000 hunder => convert_temperature hg hr h7000 (by omega) (linearize_under hunder),
      fun hlast => convert_temperature hg hr (by omega) (by omega) (hlast ▸ linearize_last),
      fun hover h35000 => convert_temperature hg hr (by omega) h35000 (linearize_over hover),
      fun seg hseg hfrom hto => ?_⟩
    have hmem : seg ∈ segmentsOf linearizationPoints := hseg
    obtain ⟨hfirst, hend⟩ := linearizationSegments_within seg hmem
    exact convert_temperature hg hr (by omega) (by omega) (linearize_segment hmem hfrom hto)

end Sys2Proof.Machine
end

section
/-!
PROOFS. Obligation O31: the expiry of a cavity's rate timer, and the RUNAWAY that it latches (R29, R31, R112, R165).
-/

namespace Sys2Proof.Machine

open Sys2Proof State

namespace State

/-! ## A fault that turns drive enable off -/

/-- A system fault with drive enable off: both cycles are aborted with SYSTEM and every element is cold (R112,
R163). -/
theorem systemFault_stops_of_disabled {s : State} (h : s.recompute.sup.driveEnable = false) (d : Cavity) :
    s.systemFault.engine d = s.afterAbort .system d ∧ coldNow s.systemFault d := by
  refine systemFault_stops ?_ d
  obtain ⟨-, hinhibit, -⟩ := recompute_enableFollows s
  rw [h] at hinhibit
  simp [heatInhibit, InhibitSources.any, hinhibit]

/-- RUNAWAY of any cavity turns drive enable off (R162). -/
theorem recompute_disabled_of_runaway {s : State} {c : Cavity} (h : s.sup.runaway.get c = true) :
    s.recompute.sup.driveEnable = false := by
  refine Bool.eq_false_iff.mpr fun hon => ?_
  obtain ⟨-, -, -, -, -, hnone⟩ := (recompute_enableFollows s).1.mp hon
  have hc := hnone c
  rw [recompute_sup] at hc
  exact absurd (h.symm.trans hc) nofun

/-! ## RUNAWAY -/

/-- A rise that no slot of the last window or this one explains (R165). -/
def Unexplained (u : SlotUse) (rate : Int) : Prop := 400 ≤ rate ∧ u.heldLast = false ∧ u.heldThis = false

/-- RUNAWAY newly latched, before the fault takes effect. -/
def runawayRaised (c : Cavity) (s : State) : State :=
  post .supervisor (.faultRaised (some c) .runaway none)
    (s.setSup { s.sup with runaway := s.sup.runaway.set c true })

theorem judgeRunawayOn_stays {u : SlotUse} {c : Cavity} {s : State} {rate : Int} (hr : (s.rateOf c).rate = some rate)
    (h : ¬ Unexplained u rate ∨ s.sup.runaway.get c = true) : judgeRunawayOn u c s = s := by
  rw [judgeRunawayOn, hr]
  refine if_neg fun ⟨hrate, hlast, hthis, hnew⟩ => ?_
  rcases h with h | h
  · exact h ⟨hrate, hlast, hthis⟩
  · exact absurd (h.symm.trans hnew) nofun

theorem judgeRunawayOn_latches {u : SlotUse} {c : Cavity} {s : State} {rate : Int} (hr : (s.rateOf c).rate = some rate)
    (h : Unexplained u rate) (hn : s.sup.runaway.get c = false) :
    judgeRunawayOn u c s = systemFault (runawayRaised c s) := by
  obtain ⟨hrate, hlast, hthis⟩ := h
  rw [judgeRunawayOn, hr]
  exact if_pos ⟨hrate, hlast, hthis, hn⟩

/-- What a RUNAWAY newly latched brings about (R112, R162, R165). -/
structure RunawayStops (c : Cavity) (s t : State) : Prop where
  quiet : Quiet s t
  bandIndex : t.bandIndex = s.bandIndex
  runaway : t.sup.runaway = s.sup.runaway.set c true
  driveEnable : t.sup.driveEnable = false
  engine : ∀ d, t.engine d = s.afterAbort .system d
  cold : ∀ d, coldNow t d
  raised : t.Posted (.faultRaised (some c) .runaway none)

theorem runawayRaised_stops (c : Cavity) (s : State) : RunawayStops c s (systemFault (runawayRaised c s)) := by
  have hoff : (runawayRaised c s).recompute.sup.driveEnable = false :=
    recompute_disabled_of_runaway (c := c) (PerCavity.get_set_same ..)
  have hstops := systemFault_stops_of_disabled hoff
  have hraised : Quiet s (runawayRaised c s) :=
    (Quiet.sup s { s.sup with runaway := s.sup.runaway.set c true } id id).trans (.post ..)
  exact {
    quiet := hraised.trans (.systemFault _)
    bandIndex := (systemFault_bandIndex (runawayRaised c s)).trans rfl
    runaway := by rw [systemFault_sup, recompute_sup]; rfl
    driveEnable := by rw [systemFault_sup]; exact hoff
    engine := fun d => (hstops d).1.trans (afterAbort_congr rfl rfl _)
    cold := fun d => (hstops d).2
    raised := (posted_post ..).quiet (.systemFault _) }

theorem RunawayStops.engine_close {c d : Cavity} {s t : State} (h : RunawayStops c s t) :
    t.close.engine d = s.afterAbort .system d ∧ coldNow t.close d := by
  unfold coldNow holdsGrant State.engine
  rw [close_engines, close_alloc]
  exact ⟨h.engine d, h.cold d⟩

/-! ## The expiry -/

/-- A timer that has not reached its 6 s does not expire (R29). -/
theorem exec_rateTimer_waits {s : State} {c : Cavity} (h : ¬ RanOut (s.rateOf c).timer 6000) :
    exec (.rateTimerExpiry c) s = .next s := by
  have hdue : s.rateDue c = false := Bool.eq_false_iff.mpr fun k => h (isDue_iff.mp k)
  have hnone : s.rateInputs c = none := by
    unfold rateInputs
    rw [hdue]
    split <;> rfl
  show execRateTimerExpiry c s = _
  rw [execRateTimerExpiry, hnone]

/-- An expiry restarts the history from F, and RUNAWAY is judged on the new rate (R29, R32). -/
theorem exec_rateTimer_expires {s : State} {c : Cavity} {f mark : Int} (hr : RanOut (s.rateOf c).timer 6000)
    (hv : s.isValid (.cav c) = true) (hf : s.f (.cav c) = some f) (hm : (s.rateOf c).mark = some mark) :
    exec (.rateTimerExpiry c) s
      = .next (judgeRunawayOn (s.alloc.slotUse.get c) c (s.setRate c (rateRestart f mark))).close := by
  have hdue : s.rateDue c = true := isDue_iff.mpr hr
  have hsome : s.rateInputs c = some (f, mark) := by
    unfold rateInputs
    rw [hf, hm, hdue, hv]
    rfl
  show execRateTimerExpiry c s = _
  rw [execRateTimerExpiry, hsome]
  rfl

theorem rateRestart_eq (f mark : Int) :
    rateRestart f mark = ⟨some f, some 0, some (max (-9990) (min ((f - mark) * 10) 9990))⟩ := by
  rw [rateRestart, rateFrom, clampInt_eq_max_min (by decide)]

end State

/-- Settles O31: an expiry judges the new rate, and a RUNAWAY newly latched is a system fault with drive enable off. -/
theorem rateTimerJudgesRunaway : Obligations.RateTimerJudgesRunaway := by
  intro s c hbox
  refine ⟨exec_rateTimer_waits, fun f mark hran hvalid hf hmark => ?_⟩
  intro rate unheld
  have hexec := exec_rateTimer_expires hran hvalid hf hmark
  rw [rateRestart_eq] at hexec
  generalize hu : s.setRate c ⟨some f, some 0, some rate⟩ = u at hexec
  have hrate : (u.rateOf c).rate = some rate := by
    subst hu
    simp [rateOf]
  have hsup : u.sup = s.sup := by rw [← hu, setRate_sup]
  refine ⟨fun hstays => ?_, fun hunheld hnew => ⟨_, hexec, ?_⟩⟩
  · rw [hexec, judgeRunawayOn_stays hrate (by rw [hsup]; exact hstays)]
    exact congrArg _ (close_empty u (by rw [← hu]; exact hbox))
  · rw [judgeRunawayOn_latches hrate hunheld (by rw [hsup]; exact hnew)]
    have hstop := runawayRaised_stops c u
    generalize systemFault (runawayRaised c u) = t at hstop
    have q := hstop.quiet
    subst hu
    refine ⟨by simp [q.rates], by simp [hstop.runaway], by simp [hstop.driveEnable], hstop.raised.close,
      fun d => ?_, by simp [q.tables], by simp [q.channels], by simp [hstop.bandIndex], by simp [q.pending]⟩
    obtain ⟨hengine, hcold⟩ := hstop.engine_close (d := d)
    exact ⟨hengine.trans (afterAbort_congr rfl rfl _), hcold⟩

end Sys2Proof.Machine
end

section
/-!
PROOFS. The band tables: the lookup as the first band that takes a temperature (R37), its monotony, evaluation with
hysteresis (R38), and the order check of a write as the standing condition of R34.
-/

namespace Sys2Proof.Machine

open Sys2Proof State

/-- A band takes a temperature where it is enabled and its limit is above it (R37). -/
def BandRecord.takes (x : Int) (r : BandRecord) : Bool := r.enabled && decide (x < r.limit)

theorem takes_iff {x : Int} {r : BandRecord} : r.takes x = true ↔ r.enabled = true ∧ x < r.limit := by
  simp [BandRecord.takes]

theorem lookupFrom_eq (x : Int) (rs : List BandRecord) (n : Nat) :
    lookupFrom x rs n
      = ((rs.findIdx? (BandRecord.takes x)).map fun i => BandIndex.band (Fin.ofNat 8 (n + i))).getD .over := by
  induction rs generalizing n with
  | nil => rfl
  | cons r rest ih =>
    rw [lookupFrom, ih, List.findIdx?_cons]
    by_cases h : r.enabled ∧ x < r.limit
    · rw [if_pos h, if_pos (takes_iff.mpr h)]
      rfl
    · rw [if_neg h, if_neg (mt takes_iff.mp h), Option.map_map]
      congr 2
      funext i
      simp only [Function.comp, Nat.add_assoc, Nat.add_comm 1 i]

theorem lookup_band_iff (tbl : Vector BandRecord 8) (x : Int) (n : Fin 8) :
    lookup tbl x = .band n ↔ tbl[n].takes x = true ∧ ∀ m : Fin 8, m < n → ¬ tbl[m].takes x = true := by
  have length : tbl.toList.length = 8 := Vector.length_toList
  rw [lookup, lookupFrom_eq]
  constructor
  · intro h
    cases hi : tbl.toList.findIdx? (BandRecord.takes x) with
    | none => rw [hi] at h; nomatch h
    | some i =>
      obtain ⟨hlt, taken, before⟩ := List.findIdx?_eq_some_iff_getElem.mp hi
      rw [hi] at h
      obtain rfl : Fin.ofNat 8 (0 + i) = n := BandIndex.band.inj h
      have hval : (Fin.ofNat 8 (0 + i)).val = i := by
        rw [Fin.val_ofNat]
        omega
      refine ⟨by simpa only [Fin.getElem_fin, hval, Vector.getElem_toList] using taken, fun m hm => ?_⟩
      have hm' : m.val < i := hval ▸ Fin.lt_def.mp hm
      simpa using before m.val hm'
  · rintro ⟨taken, before⟩
    have hi : tbl.toList.findIdx? (BandRecord.takes x) = some n.val :=
      List.findIdx?_eq_some_iff_getElem.mpr
        ⟨by omega, by simpa using taken, fun j hj => by simpa using before ⟨j, by omega⟩ hj⟩
    rw [hi]
    simp

theorem lookup_over_iff (tbl : Vector BandRecord 8) (x : Int) :
    lookup tbl x = .over ↔ ∀ n : Fin 8, ¬ tbl[n].takes x = true := by
  have length : tbl.toList.length = 8 := Vector.length_toList
  rw [lookup, lookupFrom_eq]
  constructor
  · intro h n
    cases hi : tbl.toList.findIdx? (BandRecord.takes x) with
    | none =>
      exact Bool.eq_false_iff.mp (List.findIdx?_eq_none_iff.mp hi tbl[n] (by simp))
    | some i => rw [hi] at h; nomatch h
  · intro h
    have hi : tbl.toList.findIdx? (BandRecord.takes x) = none := by
      refine List.findIdx?_eq_none_iff.mpr fun r hr => ?_
      obtain ⟨i, hi, rfl⟩ := List.getElem_of_mem hr
      simpa using h ⟨i, by omega⟩
    rw [hi]
    rfl

/-- A band that takes a temperature takes every lower one, so the first to take it comes no later. -/
theorem lookup_rank_mono (tbl : Vector BandRecord 8) {x y : Int} (h : x ≤ y) :
    (lookup tbl x).rank ≤ (lookup tbl y).rank := by
  match hy : lookup tbl y with
  | .over => match lookup tbl x with
    | .over => exact Nat.le_refl _
    | .band m => exact Nat.le_of_lt m.isLt
  | .band n =>
    obtain ⟨enabled, below⟩ := takes_iff.mp ((lookup_band_iff tbl y n).mp hy).1
    have taken : tbl[n].takes x = true := takes_iff.mpr ⟨enabled, Int.lt_of_le_of_lt h below⟩
    match hx : lookup tbl x with
    | .over => exact absurd taken ((lookup_over_iff tbl x).mp hx n)
    | .band m => exact Nat.le_of_not_lt fun later => ((lookup_band_iff tbl x m).mp hx).2 n later taken

/-- Settles O32: the lookup is the first band that takes the temperature, and evaluation is by the three orders of the
current band and the lookup. -/
theorem bandLookupAndHysteresis : Obligations.BandLookupAndHysteresis := by
  intro tbl x c
  refine ⟨fun n => ?_, ?_, fun y h => lookup_rank_mono tbl h, fun up => ?_, fun down => ?_, fun same => ?_⟩
  · simpa only [takes_iff, and_assoc] using lookup_band_iff tbl x n
  · simpa only [takes_iff] using lookup_over_iff tbl x
  · unfold evaluate
    exact if_pos up
  · unfold evaluate BandIndex.lower
    rw [if_neg (Nat.lt_asymm down), if_pos down]
  · unfold evaluate
    rw [same, if_neg (Nat.lt_irrefl _), if_neg (Nat.lt_irrefl _)]

/-- The list form of R34's condition: the first `k` bands are the enabled ones, with limits above `lo` that ascend. -/
def AscendTo (lo : Int) (rs : List BandRecord) (k : Nat) : Prop :=
  (∀ i (h : i < rs.length), rs[i].enabled = true ↔ i < k)
  ∧ (∀ i (h : i < rs.length), i < k → lo < rs[i].limit)
  ∧ ∀ i j (hi : i < j) (hj : j < rs.length), j < k → rs[i].limit < rs[j].limit

theorem AscendTo.cons {lo : Int} {r : BandRecord} {rest : List BandRecord} {k : Nat} :
    AscendTo lo (r :: rest) (k + 1) ↔ r.enabled = true ∧ lo < r.limit ∧ AscendTo r.limit rest k := by
  constructor
  · rintro ⟨enabled, above, ascending⟩
    refine ⟨(enabled 0 (by simp)).mpr (by omega), above 0 (by simp) (by omega), fun i h => ?_, fun i h hk => ?_,
      fun i j hi hj hk => ?_⟩
    · exact (enabled (i + 1) (Nat.succ_lt_succ h)).trans Nat.succ_lt_succ_iff
    · exact ascending 0 (i + 1) (Nat.succ_pos i) (Nat.succ_lt_succ h) (Nat.succ_lt_succ hk)
    · exact ascending (i + 1) (j + 1) (Nat.succ_lt_succ hi) (Nat.succ_lt_succ hj) (Nat.succ_lt_succ hk)
  · rintro ⟨he, hlo, enabled, above, ascending⟩
    refine ⟨fun i h => ?_, fun i h hk => ?_, fun i j hi hj hk => ?_⟩
    · cases i with
      | zero => simp [he]
      | succ i => simpa using enabled i (by simpa using h)
    · cases i with
      | zero => exact hlo
      | succ i => exact Int.lt_trans hlo (above i (by simpa using h) (by omega))
    · cases j with
      | zero => omega
      | succ j => cases i with
        | zero => exact above j (by simpa using hj) (by omega)
        | succ i => exact ascending i j (by omega) (by simpa using hj) (by omega)

theorem AscendTo.zero {lo : Int} {rs : List BandRecord} : AscendTo lo rs 0 ↔ ∀ r ∈ rs, r.enabled = false := by
  constructor
  · rintro ⟨enabled, -, -⟩ r hr
    obtain ⟨i, hi, rfl⟩ := List.getElem_of_mem hr
    have := enabled i hi
    simp_all
  · intro h
    exact ⟨fun i hi => by simp [h _ (List.getElem_mem hi)], fun i _ hk => absurd hk (Nat.not_lt_zero i),
      fun _ j _ _ hk => absurd hk (Nat.not_lt_zero j)⟩

theorem ascendFrom_iff (lo : Int) (rs : List BandRecord) :
    ascendFrom lo rs = true ↔ ∃ k, k ≤ rs.length ∧ AscendTo lo rs k := by
  induction rs generalizing lo with
  | nil => simp [ascendFrom, AscendTo]
  | cons r rest ih =>
    unfold ascendFrom
    split
    · next he =>
      rw [Bool.and_eq_true, decide_eq_true_iff, ih]
      constructor
      · rintro ⟨hlo, k, hk, h⟩
        exact ⟨k + 1, by simpa using hk, AscendTo.cons.mpr ⟨he, hlo, h⟩⟩
      · rintro ⟨_ | k, hk, h⟩
        · simp [AscendTo.zero.mp h r (by simp)] at he
        · obtain ⟨-, hlo, h⟩ := AscendTo.cons.mp h
          exact ⟨hlo, k, by simpa using hk, h⟩
    · next he =>
      constructor
      · intro h
        refine ⟨0, Nat.zero_le _, AscendTo.zero.mpr fun x hx => ?_⟩
        rcases List.mem_cons.mp hx with rfl | hx
        · simpa using he
        · simpa using List.all_eq_true.mp h x hx
      · rintro ⟨_ | k, -, h⟩
        · simpa using fun x hx => AscendTo.zero.mp h x (List.mem_cons_of_mem r hx)
        · exact absurd (AscendTo.cons.mp h).1 he

/-- The order check of a write is the standing condition of R34. -/
theorem bandsOrdered_iff (tbl : Vector BandRecord 8) : bandsOrdered tbl = true ↔ BandsAscend tbl := by
  have length : tbl.toList.length = 8 := Vector.length_toList
  unfold bandsOrdered
  cases e : tbl.toList with
  | nil => simp [e] at length
  | cons r rest =>
    have listed : (∃ k, k ≤ rest.length ∧ AscendTo (r.limit - 1) tbl.toList (k + 1)) ↔ BandsAscend tbl := by
      constructor
      · rintro ⟨k, hk, enabled, -, ascending⟩
        refine ⟨k + 1, by omega, by simp [e] at length; omega, fun n => ?_, fun m n hm hn => ?_⟩
        · simpa using enabled n (by omega)
        · simpa using ascending m n hm (by omega) hn
      · rintro ⟨k, h1, h8, enabled, ascending⟩
        obtain ⟨k, rfl⟩ : ∃ x, k = x + 1 := ⟨k - 1, by omega⟩
        refine ⟨k, by simp [e] at length; omega, fun i h => ?_, fun i h hk => ?_, fun i j hi hj hk => ?_⟩
        · simpa using enabled ⟨i, by omega⟩
        · have first : r = tbl[0] := by simp [← Vector.getElem_toList, e]
          rcases Nat.eq_zero_or_pos i with rfl | pos
          · simp [first]
          · have above : tbl[0].limit < tbl[i].limit := ascending 0 ⟨i, by omega⟩ pos hk
            rw [first, Vector.getElem_toList]
            omega
        · simpa using ascending ⟨i, by omega⟩ ⟨j, by omega⟩ hi hk
    rw [← listed, e, Bool.and_eq_true, ascendFrom_iff]
    simp only [AscendTo.cons]
    exact ⟨fun ⟨he, k, hk, h⟩ => ⟨k, hk, he, by omega, h⟩, fun ⟨k, hk, he, _, h⟩ => ⟨he, k, hk, h⟩⟩

end Sys2Proof.Machine
end

section
/-!
PROOFS. The standing conditions right after reset.
-/

namespace Sys2Proof.Machine

open Sys2Proof State

theorem defaultBands_ascend : BandsAscend defaultBands := (bandsOrdered_iff defaultBands).mp (by decide)

theorem defaultBands_legal : ∀ n : Fin 8, BandLegal defaultBands[n] := by
  unfold BandLegal
  decide

theorem defaultRatings_legal (h : Heater) : defaultRatings.get h ≤ 3500 ∧ defaultRatings.get h % 10 = 0 := by
  cases h <;> decide

theorem LockCtl.reset_legal : LockLegal .reset where
  motion := trivial
  pending := nofun
  stuck := by decide
  slot := nofun
  levels := nofun

namespace State.IsReset

variable {trip : Bool} {s t : State}

theorem bandsLegal (h : IsReset trip s t) : t.BandsLegal := fun c => by
  have table : t.bandTable c = defaultBands :=
    (congrArg (fun x => x.bands.get c) (congrArg State.tables h.blocks)).trans (PerCavity.get_all ..)
  rw [table]
  exact ⟨defaultBands_ascend, defaultBands_legal⟩

theorem programsLegal (h : IsReset trip s t) : t.ProgramsLegal := fun c => by
  have program : t.program c = [] :=
    (congrArg (fun x => x.programs.get c) (congrArg State.tables h.blocks)).trans (PerCavity.get_all ..)
  rw [program]
  exact ⟨Nat.zero_le _, nofun⟩

theorem powerLegal (h : IsReset trip s t) : t.PowerLegal := by
  have tables : t.tables = Tables.reset := congrArg State.tables h.blocks
  unfold PowerLegal rating
  rw [tables]
  refine ⟨by decide, by decide, fun ⟨c, heater⟩ => ?_⟩
  cases c <;> exact defaultRatings_legal heater

theorem channel (h : IsReset trip s t) (ch : Channel) : t.channel ch = .reset :=
  (congrArg (fun x => x.get ch) (congrArg State.channels h.blocks)).trans (PerChannel.get_all ..)

theorem not_valid (h : IsReset trip s t) (ch : Channel) : t.isValid ch = false := by
  unfold isValid
  rw [h.channel]
  rfl

theorem validHasF (h : IsReset trip s t) : t.ValidHasF := fun ch hv =>
  absurd hv (by rw [h.not_valid]; nofun)

theorem indexOver (h : IsReset trip s t) : t.IndexOverUnlessValid := fun c _ =>
  (congrArg (fun x => x.get c) (congrArg State.bandIndex h.blocks)).trans (PerCavity.get_all ..)

theorem engine (h : IsReset trip s t) (c : Cavity) : t.engine c = .reset :=
  (congrArg (fun x => x.get c) (congrArg State.engines h.blocks)).trans (PerCavity.get_all ..)

theorem locksLegal (h : IsReset trip s t) : t.LocksLegal := fun c => by
  have lock : t.lock c = .reset :=
    (congrArg (fun x => x.get c) (congrArg State.locks h.blocks)).trans (PerCavity.get_all ..)
  rw [lock]
  exact LockCtl.reset_legal

theorem tableLockFollows (h : IsReset trip s t) : t.TableLockFollows := fun c => by
  have unlocked : t.tableLocks.get c = false :=
    (congrArg (fun x => x.get c) (congrArg State.tableLocks h.blocks)).trans (PerCavity.get_all ..)
  rw [unlocked, h.engine]
  decide

/-- The OVER band demands level 3 of the fan while nothing is VALID (R36). -/
theorem bandFields (h : IsReset trip s t) (c : Cavity) : t.bandFields c = overFields := by
  unfold State.bandFields bandNow
  rw [h.not_valid]
  rfl

theorem fanFollows (h : IsReset trip s t) : t.FanFollows := by
  have fan : t.fan = .reset trip := congrArg State.fan h.blocks
  have sup : t.sup = .reset trip := congrArg State.sup h.blocks
  exact {
    level := by rw [fan]; cases trip <;> rfl
    cavity := fun c => by rw [fan, h.bandFields, h.engine]; cases c <;> rfl
    front := by rw [fan, h.not_valid]; rfl
    trip := by rw [fan, sup]; rfl }

theorem enableFollows (h : IsReset trip s t) : t.EnableFollows := by
  have fan : t.fan = .reset trip := congrArg State.fan h.blocks
  have sup : t.sup = .reset trip := congrArg State.sup h.blocks
  have failed : t.isFailed .front = false := by
    unfold isFailed
    rw [h.channel]
    rfl
  unfold EnableFollows
  rw [fan, sup, failed]
  exact ⟨⟨nofun, fun x => absurd x.1 nofun⟩, rfl, rfl, rfl, rfl⟩

theorem events (h : IsReset trip s t) : t.events = ⟨[], []⟩ := congrArg State.events h.blocks

theorem queueLegal (h : IsReset trip s t) : t.QueueLegal := by
  unfold QueueLegal
  rw [h.events]
  decide

end State.IsReset

/-- The state right after a power-on reset is what that reset makes of itself. -/
theorem reset_isReset : IsReset false .reset .reset where
  blocks := rfl
  relays r := by
    have entry : State.reset.relay r = .reset := PerRelay.get_all ..
    rw [entry]

theorem reset_grants (e : Element) : State.reset.alloc.grants.get e = .empty := PerElement.get_all ..

/-- Settles O59: the blocks hold their reset values, and no window has started. -/
theorem resetIsSound : Obligations.ResetIsSound where
  plan k := by
    have none_made (e : Element) :
        (if (State.reset.alloc.grants.get e).inForce k then State.reset.alloc.planRatings.get e else 0) = 0 := by
      rw [reset_grants]
      rfl
    simp only [slotSum, slotSumOf, none_made]
    decide
  grants e held := absurd held nofun
  valid := reset_isReset.validHasF
  bands := reset_isReset.bandsLegal
  index := reset_isReset.indexOver
  programs := reset_isReset.programsLegal
  power := reset_isReset.powerLegal
  locks := reset_isReset.locksLegal
  tableLocks := reset_isReset.tableLockFollows
  fan := reset_isReset.fanFollows
  enable := reset_isReset.enableFollows
  queue := reset_isReset.queueLegal

end Sys2Proof.Machine
end

section
/-!
PROOFS. The payloads of the requests read back (R183, R184), and the reply that follows an answer (R176, R178, R179).
-/

namespace Sys2Proof.Machine

open Sys2Proof State

/-! ## Numbers and codes read back -/

theorem leNat_byte {n : Nat} (h : n < 256) : leNat [BitVec.ofNat 8 n] = n := by
  simp only [leNat, BitVec.toNat_ofNat]
  omega

theorem leNat_u16 {n : Nat} (h : n < 65536) : leNat (u16 n) = n := by
  simp only [u16, leNat, BitVec.toNat_ofNat]
  omega

theorem leInt16_s16 {x : Int} (lo : -32768 ≤ x) (hi : x ≤ 32767) : leInt16 (s16 x) = x := by
  unfold leInt16 s16
  rw [leNat_u16 (BitVec.isLt _), BitVec.ofNat_toNat, BitVec.setWidth_eq, BitVec.toInt_ofInt]
  exact Int.bmod_eq_of_le (by omega) (by omega)

theorem cavityOf_cavityCode (c : Cavity) : cavityOf (cavityCode c) = some c := by cases c <;> rfl
theorem cavityCode_lt (c : Cavity) : cavityCode c < 256 := by cases c <;> decide

theorem cavityOf_byte (c : Cavity) : cavityOf (leNat [BitVec.ofNat 8 (cavityCode c)]) = some c := by
  rw [leNat_byte (cavityCode_lt c), cavityOf_cavityCode]

theorem bandNumberOf_byte (n : Fin 8) : bandNumberOf (leNat [BitVec.ofNat 8 (n.val + 1)]) = some n := by
  rw [leNat_byte (by omega)]
  exact dif_pos ⟨Nat.le_add_left .., n.isLt⟩

theorem boolOf_byte (b : Bool) : boolOf (leNat [if b then 1 else 0]) = some b := by cases b <;> rfl
theorem policyOf_byte (p : DoorPolicy) : policyOf (leNat [BitVec.ofNat 8 (policyCode p)]) = some p := by
  cases p <;> rfl
theorem elementSetOf_byte (x : ElementSet) :
    elementSetOf (leNat [BitVec.ofNat 8 (bitsNat (elementSetBits x))]) = some x := by
  obtain ⟨a, b, c⟩ := x
  cases a <;> cases b <;> cases c <;> rfl
theorem catRequirementOf_byte (x : CatRequirement) :
    catRequirementOf (leNat [BitVec.ofNat 8 (catRequirementCode x)]) = some x := by cases x <;> rfl

theorem elementOf_byte (e : Element) : elementOf (leNat [BitVec.ofNat 8 (elementCode e)]) = some e := by
  obtain ⟨c, h⟩ := e
  cases c <;> cases h <;> rfl

/-! ## Payloads read as the fields of their requests -/

/-- The fields of WRITE BAND as its payload carries them. -/
def bandFieldsOf (c : Cavity) (n : Fin 8) (limit : Int) (floor : Nat) (r : BandRecord) : Fields :=
  ⟨[some [BitVec.ofNat 8 (cavityCode c)], some [BitVec.ofNat 8 (n.val + 1)], some (s16 limit),
    some [if r.enabled then 1 else 0], some [BitVec.ofNat 8 (policyCode r.policy)], some [BitVec.ofNat 8 floor],
    some [BitVec.ofNat 8 (bitsNat (elementSetBits r.permitted))],
    some [BitVec.ofNat 8 (catRequirementCode r.catRequirement)]], false⟩

theorem readFields_bandPayload (c : Cavity) (n : Fin 8) (limit : Int) (floor : Nat) (r : BandRecord) :
    readFields writeBandFields (bandPayload c n limit floor r) = some (bandFieldsOf c n limit floor r) := rfl

theorem readFields_ratingPayload (e : Element) (n : Nat) : readFields setElementFields (ratingPayload e n)
    = some ⟨[some [BitVec.ofNat 8 (elementCode e)], some (u16 n)], false⟩ := rfl

theorem readFields_budgetPayload (n : Nat) :
    readFields setBudgetFields (budgetPayload n) = some ⟨[some (u16 n)], false⟩ := rfl

theorem readFields_numberPayload (c : Cavity) (n : Nat) : readFields readBandFields (numberPayload c n)
    = some ⟨[some [BitVec.ofNat 8 (cavityCode c)], some [BitVec.ofNat 8 n]], false⟩ := rfl

/-- A clamped value is marked clamped where it is not the value given. -/
theorem clampField_eq (x : Int) : clampField x 0 6000 = ⟨clampInt x 0 6000, decide (clampInt x 0 6000 ≠ x)⟩ := by
  have clamped : (decide (x < 0) || decide (6000 < x)) = decide (clampInt x 0 6000 ≠ x) := by
    rw [← Bool.decide_or, decide_eq_decide]
    unfold clampInt
    split
    · omega
    · split <;> omega
  rw [clampField, clamped]

theorem clampNat_three (n : Nat) : clampNat n 0 3 = ⟨min n 3, decide (3 < n)⟩ := by
  have value : (if 3 < n then 3 else n) = min n 3 := by split <;> omega
  simp [clampNat, value]

theorem readBandWrite_bandFieldsOf {c : Cavity} {n : Fin 8} {limit : Int} {floor : Nat} {r : BandRecord}
    (lo : -32768 ≤ limit) (hi : limit ≤ 32767) (hf : floor ≤ 255) (hl : r.limit = clampInt limit 0 6000)
    (hm : r.fanFloor = min floor 3) :
    readBandWrite (bandFieldsOf c n limit floor r)
      = some ⟨c, n, r, decide (r.limit ≠ limit) || decide (3 < floor)⟩ := by
  have cavity : (bandFieldsOf c n limit floor r).enum 0 cavityOf = some c := cavityOf_byte c
  have number : (bandFieldsOf c n limit floor r).enum 1 bandNumberOf = some n := bandNumberOf_byte n
  have limit_ : (bandFieldsOf c n limit floor r).int 2 = some limit := congrArg some (leInt16_s16 lo hi)
  have enabled : (bandFieldsOf c n limit floor r).enum 3 boolOf = some r.enabled := boolOf_byte _
  have policy : (bandFieldsOf c n limit floor r).enum 4 policyOf = some r.policy := policyOf_byte _
  have floor_ : (bandFieldsOf c n limit floor r).nat 5 = some floor := congrArg some (leNat_byte (by omega))
  have permitted : (bandFieldsOf c n limit floor r).enum 6 elementSetOf = some r.permitted := elementSetOf_byte _
  have cat : (bandFieldsOf c n limit floor r).enum 7 catRequirementOf = some r.catRequirement :=
    catRequirementOf_byte _
  unfold readBandWrite
  rw [cavity, number, limit_, enabled, policy, floor_, permitted, cat, if_neg nofun]
  dsimp only
  rw [clampField_eq, clampNat_three, ← hl, ← hm]

/-! ## Replies -/

namespace State

/-- The reply to a request that reads alone, or that is refused with a payload (R176, R178, R179). -/
theorem endOfFrame_answer (s : State) {a : Answer} (ha : a.clearsLost = false) :
    s.endOfFrame.sendReply a = s.withReply ⟨a.reason, a.clamped, s.flagsOf s, a.payload⟩ := by
  rw [endOfFrame_rest]
  simp only [sendReply, setLink, withReply, flagsOf, endOfFrame_link, ha, collided]
  simp only [Bool.not_false, Bool.and_true]
  rfl

/-- The reply after a request whose owner left the line alone, through the close (R176, R178, R179). -/
theorem replied_close {s t : State} {a : Answer} (h : t.link = s.endOfFrame.link) (ha : a.clearsLost = false) :
    s.replied a.reason a.clamped a.payload (t.close.sendReply a) := by
  have hl : t.close.link = { s.endOfFrame.link with eventsLost := t.close.link.eventsLost } := by
    rw [← h]
    conv_lhs => rw [close_rest]
  rw [endOfFrame_link] at hl
  generalize t.close = w at hl
  have hf : s.flagsOf (w.sendReply a) = w.attentionFlags := by
    have hcol : s.collided = w.link.collisionSeen := by rw [hl]; rfl
    simp only [flagsOf, attentionFlags, hcol, sendReply, setLink, ha, Bool.not_false, Bool.and_true]
    rfl
  unfold replied
  rw [hf]
  simp only [sendReply, setLink, ha, Bool.not_false, Bool.and_true]
  conv_lhs => rw [hl]

end State

section
variable {s : State} {widths : List Nat} {p : List Byte} {f : Fields}

/-- A request that only reads is answered from the state at the end of its frame. -/
theorem readRequest_answer {owner : Fields → State → Answer} (h : s.takesLine) (hf : readFields widths p = some f)
    (ha : (owner f s.endOfFrame).clearsLost = false) :
    s.readRequest widths p owner = s.withReply ⟨(owner f s.endOfFrame).reason, (owner f s.endOfFrame).clamped,
      s.flagsOf s, (owner f s.endOfFrame).payload⟩ :=
  (serve_fields (lineDead_of_takes h) hf).trans (endOfFrame_answer s ha)

/-- A request that may change the part, refused with nothing on its way. -/
theorem takeRequest_refused {owner : Fields → State → State × Answer} {k : Reason} (h : s.takesLine)
    (hb : s.events.outbox = []) (hf : readFields widths p = some f)
    (ho : owner f s.endOfFrame = (s.endOfFrame, refuse k)) :
    s.takeRequest widths p owner = (s.refusedWith k).drawOrder := by
  refine (serve_fields (lineDead_of_takes h) hf).trans ?_
  rw [ho]
  exact endOfFrame_close_refuse _ _ hb

end

/-- Settles O7: FROZEN and LOCKED are judged first. -/
theorem frozenOrLockedWritesAreRefused : Obligations.FrozenOrLockedWritesAreRefused := by
  intro s h hb
  refine ⟨fun frozen => ?_, fun c n limit floor r unfrozen locked => ?_⟩
  · have frozen' : s.endOfFrame.tables.frozen = true := by rw [endOfFrame_tables, frozen]
    exact ⟨fun p f hf => congrArg Host.Outcome.next (takeRequest_refused h hb hf (if_pos frozen')),
      fun p f hf => congrArg Host.Outcome.next (takeRequest_refused h hb hf (if_pos frozen')),
      fun p f hf => congrArg Host.Outcome.next (takeRequest_refused h hb hf (if_pos frozen'))⟩
  · have named : (bandFieldsOf c n limit floor r).enum 0 cavityOf = some c := cavityOf_byte c
    refine congrArg Host.Outcome.next (takeRequest_refused h hb (readFields_bandPayload c n limit floor r) ?_)
    unfold writeBandAnswer
    rw [endOfFrame_tables, unfrozen, if_neg nofun, named, endOfFrame_tableLocks, if_pos locked]

/-! ## The status requests -/

section
variable {s : State}

theorem endOfFrame_identifyItems : s.endOfFrame.identifyItems = s.identifyItems := by
  rw [endOfFrame_rest]
  simp only [identifyItems, endOfFrame_link]

theorem endOfFrame_cavityItems : s.endOfFrame.cavityItems = s.cavityItems := by
  rw [endOfFrame_rest]
  rfl

theorem endOfFrame_program : s.endOfFrame.program = s.program := by
  unfold program
  rw [endOfFrame_tables]

theorem endOfFrame_sectionItems : s.endOfFrame.sectionItems = s.sectionItems := by
  rw [endOfFrame_rest]
  rfl

/-- Six items that are all there have the presence mask 0x3F (R186). -/
theorem encodeItems_six (a b c d e f : List Byte) : encodeItems [here a, here b, here c, here d, here e, here f]
    = [0x3F] ++ a ++ b ++ c ++ d ++ e ++ f := by
  have mask : packBits [true, true, true, true, true, true] = [0x3F] := by decide
  simp [encodeItems, here, mask]

theorem identifyItems_bytes : encodeItems s.identifyItems
    = [0x3F] ++ u16 Config.vendorCode.toNat ++ u16 Config.partCode.toNat ++ [Config.siliconRevision]
        ++ u8 (s.link.nodeAddress.val + 1) ++ flag s.sup.readiness ++ flag s.tables.frozen := by
  have revision : u8 Config.siliconRevision.toNat = [Config.siliconRevision] :=
    congrArg (fun b => [b]) (BitVec.ofNat_toNat .. |>.trans (BitVec.setWidth_eq ..))
  rw [← revision]
  exact encodeItems_six ..

theorem bandItems_bytes (r : BandRecord) : encodeItems (bandItems r)
    = [0x3F] ++ s16 r.limit ++ flag r.enabled ++ u8 (policyCode r.policy) ++ u8 r.fanFloor
        ++ setBytes (elementSetBits r.permitted) ++ u8 (catRequirementCode r.catRequirement) := encodeItems_six ..

theorem onlyCavity_byte (c : Cavity) : onlyCavity ⟨[some [BitVec.ofNat 8 (cavityCode c)]], false⟩ = some c :=
  cavityOf_byte c

theorem onlySection_byte (x : Section) :
    onlyEnum sectionOf ⟨[some [BitVec.ofNat 8 (codeIn sections x)]], false⟩ = some x := by cases x <;> rfl

/-- A number outside the program names no record (R78). -/
theorem recordAt_none {program : List SegmentRecord} {index : Nat} (h : index = 0 ∨ program.length < index) :
    recordAt program index = none := by
  rcases h with rfl | h
  · rfl
  · exact (if_neg (by omega)).trans (List.getElem?_eq_none (by omega))

/-- A refusal of a program request shows the count alone, the last of twelve items (R83, R186). -/
theorem countOnlyItems_bytes (n : Nat) : encodeItems (countOnlyItems n) = [0, 8, BitVec.ofNat 8 n] := by
  have mask : packBits (List.replicate 11 false ++ [true]) = [0, 8] := by decide
  simp only [List.replicate, List.cons_append, List.nil_append] at mask
  simp [encodeItems, countOnlyItems, noRecordItems, here, u8, mask]

theorem readBandAnswer_number (c : Cavity) (n : Fin 8) :
    readBandAnswer ⟨[some [BitVec.ofNat 8 (cavityCode c)], some [BitVec.ofNat 8 (n.val + 1)]], false⟩ s
      = doneWith (bandItems (s.bandTable c)[n]) := by
  have cavity : Fields.enum ⟨[some [BitVec.ofNat 8 (cavityCode c)], some [BitVec.ofNat 8 (n.val + 1)]], false⟩ 0
      cavityOf = some c := cavityOf_byte c
  have number : Fields.enum ⟨[some [BitVec.ofNat 8 (cavityCode c)], some [BitVec.ofNat 8 (n.val + 1)]], false⟩ 1
      bandNumberOf = some n := bandNumberOf_byte n
  unfold readBandAnswer
  rw [cavity, number, if_neg nofun]

/-- READ SEGMENT reads its record, or refuses with the count (R78, R82, R83). -/
theorem readSegmentAnswer_number (c : Cavity) {index : Nat} (h : index < 256) {found : Option SegmentRecord}
    (hr : recordAt (s.program c) index = found) :
    readSegmentAnswer ⟨[some [BitVec.ofNat 8 (cavityCode c)], some [BitVec.ofNat 8 index]], false⟩ s
      = found.elim (refuseCounted .noSuch c s) fun r => doneWith (programItems index r (s.count c)) := by
  have cavity : Fields.enum ⟨[some [BitVec.ofNat 8 (cavityCode c)], some [BitVec.ofNat 8 index]], false⟩ 0
      cavityOf = some c := cavityOf_byte c
  have number : Fields.nat ⟨[some [BitVec.ofNat 8 (cavityCode c)], some [BitVec.ofNat 8 index]], false⟩ 1
      = some index := congrArg some (leNat_byte h)
  unfold readSegmentAnswer
  rw [cavity, number]
  dsimp only
  rw [if_neg nofun, hr]
  cases found <;> rfl

/-- A status request for one cavity is answered with its items. -/
theorem readRequest_cavity (h : s.takesLine) (c : Cavity) (items : State → Cavity → List Item)
    (same : items s.endOfFrame c = items s c) :
    s.readRequest oneByteField (cavityPayload c) (cavityAnswer items) = s.answered (encodeItems (items s c)) := by
  have answer : cavityAnswer items ⟨[some [BitVec.ofNat 8 (cavityCode c)]], false⟩ s.endOfFrame
      = doneWith (items s c) := by
    unfold cavityAnswer
    rw [onlyCavity_byte]
    exact congrArg doneWith same
  refine (readRequest_answer h (readFields_oneByte _) (by rw [answer]; rfl)).trans ?_
  rw [answer]
  rfl

end

/-- Settles O3: each status request reads its payload and replies with the items of the state as it stood. -/
theorem statusRequestsOnlyReply : Obligations.StatusRequestsOnlyReply := by
  intro s h
  have next {a b : State} : a = b → Host.Outcome.next a = (Host.Outcome.next b : Host.Outcome State Fault Refusal) :=
    congrArg _
  refine ⟨next ?_, fun c => next ?_, fun x => next ?_, fun c => next ?_, fun c n => next ?_,
    fun c index r hi hr => next ?_, fun c index hi hr => next ?_⟩
  · refine (readRequest_answer h (f := ⟨[], false⟩) rfl rfl).trans ?_
    rw [endOfFrame_identifyItems, ← identifyItems_bytes]
    rfl
  · exact readRequest_cavity h c cavityItems (congrFun endOfFrame_cavityItems c)
  · have answer : plantAnswer ⟨[some [BitVec.ofNat 8 (codeIn sections x)]], false⟩ s.endOfFrame
        = doneWith (s.sectionItems x) := by
      unfold plantAnswer
      rw [onlySection_byte, endOfFrame_sectionItems]
    refine (readRequest_answer h (readFields_oneByte _) (by rw [answer]; rfl)).trans ?_
    rw [answer]
    rfl
  · exact readRequest_cavity h c (fun s c => outcomeItems (s.engine c).outcome) (by rw [endOfFrame_rest]; rfl)
  · refine (readRequest_answer h (readFields_numberPayload c _) (by rw [readBandAnswer_number]; rfl)).trans ?_
    rw [readBandAnswer_number, ← bandItems_bytes, endOfFrame_rest]
    rfl
  · have answer : readSegmentAnswer ⟨[some [BitVec.ofNat 8 (cavityCode c)], some [BitVec.ofNat 8 index]], false⟩
        s.endOfFrame = doneWith (programItems index r (s.count c)) := by
      rw [readSegmentAnswer_number c hi (by rw [endOfFrame_program, hr]), endOfFrame_rest]
      rfl
    refine (readRequest_answer h (readFields_numberPayload c _) (by rw [answer]; rfl)).trans ?_
    rw [answer]
    rfl
  · have answer : readSegmentAnswer ⟨[some [BitVec.ofNat 8 (cavityCode c)], some [BitVec.ofNat 8 index]], false⟩
        s.endOfFrame = refuseCounted .noSuch c s := by
      rw [readSegmentAnswer_number c hi (by rw [endOfFrame_program, recordAt_none hr]), endOfFrame_rest]
      rfl
    refine (readRequest_answer h (readFields_numberPayload c _) (by rw [answer]; rfl)).trans ?_
    rw [answer, ← countOnlyItems_bytes]
    rfl

end Sys2Proof.Machine
end

section
/-!
PROOFS. The requests that write the plant's settings (R50, R119, R120, R150).
-/

namespace Sys2Proof.Machine

open Sys2Proof State

@[simp] theorem PerRelay.set_get {α : Type} (p : PerRelay α) (r : Relay) : p.set r (p.get r) = p := by
  rcases r with ⟨c, h⟩ | _
  · cases c <;> cases h <;> rfl
  · rfl

namespace State

variable {s : State}

/-- The rating of an element is stored, and nothing else is new (R120). -/
def withRating (e : Element) (n : Nat) (s : State) : State :=
  s.setTables { s.tables with ratings := s.tables.ratings.set e n }

theorem storeRating_cases (e : Element) (n : Nat) : s.storeRating e n =
    if s.fitted e = (s.withRating e n).fitted e then s.withRating e n
    else if (s.withRating e n).fitted e then restartSettle (.element e) (s.withRating e n)
    else stopTimers (.element e) (s.withRating e n) := rfl

theorem withRating_fitted (e : Element) (n : Nat) : (s.withRating e n).fitted e = decide (0 < n) :=
  congrArg (fun x => decide (0 < x)) (PerElement.get_set_same ..)

/-- The relay entry of an element whose rating becomes `n`: its timers stop where it is no longer fitted, and its settle
timer starts where it becomes fitted outside a relay test (R150). -/
def ratedEntry (s : State) (e : Element) (n : Nat) : RelayEntry :=
  if 0 < s.rating e ∧ n = 0 then { s.relay (.element e) with settle := none, mismatch := none }
  else if s.rating e = 0 ∧ 0 < n ∧ s.testing = false then
    { s.relay (.element e) with settle := some 0, mismatch := none }
  else s.relay (.element e)

theorem setRelay_self (r : Relay) : s.setRelay r (s.relay r) = s := by
  unfold setRelay relay
  rw [PerRelay.set_get]

/-- Its supervision follows whether the element is fitted (R150). -/
theorem storeRating_eq (e : Element) (n : Nat) :
    s.storeRating e n = (s.withRating e n).setRelay (.element e) (s.ratedEntry e n) := by
  have before : s.fitted e = decide (0 < s.rating e) := rfl
  have unchanged : (s.withRating e n).setRelay (.element e) (s.relay (.element e)) = s.withRating e n :=
    setRelay_self (s := s.withRating e n) _
  have supervised_ : (s.withRating e n).supervised (.element e) = (!s.testing && decide (0 < n)) :=
    congrArg (!s.testing && ·) (withRating_fitted e n)
  rw [storeRating_cases, withRating_fitted, before]
  unfold ratedEntry
  by_cases was : 0 < s.rating e <;> by_cases is : 0 < n
  · rw [if_pos (by simp [was, is]), if_neg (by omega), if_neg (by omega), unchanged]
  · rw [if_neg (by simp [was, is]), if_neg (by simp [is]), if_pos (by omega)]
    rfl
  · rw [if_neg (by simp [was, is]), if_pos (by simp [is]), if_neg (by omega), restartSettle, supervised_]
    cases ht : s.testing with
    | true => rw [if_neg nofun, if_neg (by simp), unchanged]
    | false =>
      rw [if_pos (by simp [is]), if_pos ⟨by omega, is, rfl⟩]
      rfl
  · rw [if_pos (by simp [was, is]), if_neg (by omega), if_neg (by omega), unchanged]

end State

theorem storedRating_eq (n : Nat) : storedRating n = min n 3500 / 10 * 10 := by
  have value : (clampNat n 0 3500).value = min n 3500 := by
    unfold clampNat
    dsimp only
    split <;> (try split) <;> omega
  rw [storedRating, value]

theorem clampNat_budget (n : Nat) :
    clampNat n 1000 7400 = ⟨max 1000 (min n 7400), decide (n < 1000) || decide (7400 < n)⟩ := by
  have value : (if n < 1000 then 1000 else if 7400 < n then 7400 else n) = max 1000 (min n 7400) := by
    split <;> (try split) <;> omega
  rw [clampNat, value]

/-- A request that has stored nothing but tables is answered with the flags of the state before it, which no table
enters (R178). -/
theorem answer_setTables {s : State} (x : Tables) {a : Answer} (hb : s.events.outbox = []) (ha : a.clearsLost = false) :
    (s.endOfFrame.setTables x).close.sendReply a
      = State.withReply ⟨a.reason, a.clamped, s.flagsOf s, a.payload⟩ { s.drawOrder with tables := x } := by
  have closed : (s.endOfFrame.setTables x).close = (s.endOfFrame.setTables x).drawOrder :=
    close_empty _ (by rw [endOfFrame_rest]; exact hb)
  have answered := endOfFrame_answer s ha
  rw [closed]
  calc (s.endOfFrame.setTables x).drawOrder.sendReply a
      = { (s.endOfFrame.sendReply a).drawOrder with tables := x } := rfl
    _ = _ := by rw [answered]; rfl

/-- Two items that are both there have the presence mask 3 (R186). -/
theorem encodeItems_two (a b : List Byte) : encodeItems [here a, here b] = [3] ++ a ++ b := by
  have mask : packBits [true, true] = [3] := by decide
  simp [encodeItems, here, mask]

section
variable {s : State}

theorem setElementAnswer_stores (e : Element) {n : Nat} (unfrozen : s.tables.frozen = false)
    (idle : s.bothIdle = true) (hn : n < 65536) :
    setElementAnswer ⟨[some [BitVec.ofNat 8 (elementCode e)], some (u16 n)], false⟩ s.endOfFrame
      = (s.endOfFrame.storeRating e (min n 3500 / 10 * 10), doneClamped (decide (min n 3500 / 10 * 10 ≠ n))
          [here (u8 (elementCode e)), here (u16 (min n 3500 / 10 * 10))]) := by
  have named : Fields.enum ⟨[some [BitVec.ofNat 8 (elementCode e)], some (u16 n)], false⟩ 0 elementOf = some e :=
    elementOf_byte e
  have given : Fields.nat ⟨[some [BitVec.ofNat 8 (elementCode e)], some (u16 n)], false⟩ 1 = some n :=
    congrArg some (leNat_u16 hn)
  unfold setElementAnswer
  rw [endOfFrame_tables, unfrozen, if_neg nofun, endOfFrame_bothIdle, idle, if_neg nofun, named, given]
  dsimp only
  rw [if_neg nofun, storedRating_eq]

theorem setBudgetAnswer_stores {n : Nat} (unfrozen : s.tables.frozen = false) (hn : n < 65536) :
    setBudgetAnswer ⟨[some (u16 n)], false⟩ s.endOfFrame
      = (s.endOfFrame.setTables { s.tables with budgetSet := max 1000 (min n 7400) },
          doneClamped (decide (n < 1000) || decide (7400 < n))
            [here (u16 (max 1000 (min n 7400))), here (u16 s.alloc.budgetInForce)]) := by
  have given : Fields.nat ⟨[some (u16 n)], false⟩ 0 = some n := congrArg some (leNat_u16 hn)
  unfold setBudgetAnswer
  rw [endOfFrame_tables, unfrozen, if_neg nofun, given]
  dsimp only
  rw [if_neg nofun, clampNat_budget, endOfFrame_rest]

theorem freezeAnswer_idle (idle : s.bothIdle = true) :
    freezeAnswer s.endOfFrame = (s.endOfFrame.setTables { s.tables with frozen := true }, doneEmpty) := by
  unfold freezeAnswer
  rw [endOfFrame_bothIdle, idle, if_pos rfl, endOfFrame_tables]

theorem freezeAnswer_busy (busy : s.bothIdle = false) :
    freezeAnswer s.endOfFrame = (s.endOfFrame, refuse .notIdle) := by
  unfold freezeAnswer
  rw [endOfFrame_bothIdle, busy, if_neg nofun]

/-- The rating is stored, no other relay is touched, and the reply shows it. -/
theorem setElement_stores (e : Element) {n : Nat} (h : s.takesLine) (hb : s.events.outbox = [])
    (unfrozen : s.tables.frozen = false) (idle : s.bothIdle = true) (hn : n < 65536) :
    ∃ t, exec (.setElement (ratingPayload e n)) s = .next t
      ∧ t = { s.drawOrder with
          tables := { s.tables with ratings := s.tables.ratings.set e (min n 3500 / 10 * 10) }
          drive := { s.drive with entries := s.drive.entries.set (.element e) (s.ratedEntry e (min n 3500 / 10 * 10)) }
          link := t.link }
      ∧ s.repliedDone (decide (min n 3500 / 10 * 10 ≠ n))
          ([3, BitVec.ofNat 8 (elementCode e)] ++ u16 (min n 3500 / 10 * 10)) t := by
  have run := serve_fields (finish := close) (owner := setElementAnswer) (lineDead_of_takes h)
    (readFields_ratingPayload e n)
  rw [setElementAnswer_stores e unfrozen idle hn] at run
  have stored := storeRating_eq (s := s.endOfFrame) e (min n 3500 / 10 * 10)
  refine ⟨_, congrArg Host.Outcome.next run, ?_, ?_⟩
  · rw [close_empty _ (by rw [stored, endOfFrame_rest]; exact hb), stored, endOfFrame_rest]
    rfl
  · have link : (s.endOfFrame.storeRating e (min n 3500 / 10 * 10)).link = s.endOfFrame.link := by
      rw [stored]
      rfl
    have reply := replied_close (a := doneClamped (decide (min n 3500 / 10 * 10 ≠ n))
      [here (u8 (elementCode e)), here (u16 (min n 3500 / 10 * 10))]) link rfl
    rw [show (doneClamped _ [here _, here _]).payload = _ from encodeItems_two ..] at reply
    exact reply

end

/-- The two thresholds of R150 are those of the rating as stored, which is 0 below 10 W. -/
theorem ratedEntry_stored (s : State) (e : Element) (n : Nat) : s.ratedEntry e (min n 3500 / 10 * 10)
    = if 0 < s.rating e ∧ n < 10 then { s.relay (.element e) with settle := none, mismatch := none }
      else if s.rating e = 0 ∧ 10 ≤ n ∧ s.testing = false then
        { s.relay (.element e) with settle := some 0, mismatch := none }
      else s.relay (.element e) := by
  have none_left : min n 3500 / 10 * 10 = 0 ↔ n < 10 := by omega
  have some_left : 0 < min n 3500 / 10 * 10 ↔ 10 ≤ n := by omega
  simp only [ratedEntry, none_left, some_left]

/-- Settles O6: each of the three requests stores its setting at the end of its frame, with nothing on its way. -/
theorem plantSettingsAreStored : Obligations.PlantSettingsAreStored := by
  intro s h hb
  refine ⟨fun e n unfrozen idle hn => ?_, fun n unfrozen hn => ?_, fun idle => ?_, fun busy => ?_⟩
  · obtain ⟨t, run, stored, reply⟩ := setElement_stores e h hb unfrozen idle hn
    have drive : t.drive = { s.drive with
        entries := s.drive.entries.set (.element e) (s.ratedEntry e (min n 3500 / 10 * 10)) } := by rw [stored]
    refine ⟨t, run, by rw [drive]; exact stored, fun r hr => ?_, by rw [drive], ?_, reply⟩
    · unfold relay
      rw [drive]
      exact PerRelay.get_set_ne _ _ hr
    · rw [← ratedEntry_stored]
      unfold relay
      rw [drive]
      exact PerRelay.get_set_same s.drive.entries (.element e) _
  · refine congrArg Host.Outcome.next ((serve_fields (lineDead_of_takes h) (readFields_budgetPayload n)).trans ?_)
    rw [setBudgetAnswer_stores unfrozen hn, answer_setTables _ hb rfl, doneClamped, encodeItems_two]
  · refine congrArg Host.Outcome.next ((serve_fields (f := ⟨[], false⟩) (lineDead_of_takes h) rfl).trans ?_)
    rw [freezeAnswer_idle idle]
    exact answer_setTables (a := doneEmpty) _ hb rfl
  · exact congrArg Host.Outcome.next (takeRequest_refused (f := ⟨[], false⟩) h hb rfl (freezeAnswer_busy busy))

end Sys2Proof.Machine
end

section
/-!
PROOFS. The tables through every step: the band tables stay ordered and in range (R33, R34), the programs hold at most
12 records in range (R72, R73), the budget set and the ratings stay in range (R119, R120).
-/

namespace Sys2Proof.Machine

open Sys2Proof State

/-! ## Values as stored -/

theorem clampInt_le {x lo hi : Int} (h : lo ≤ hi) : lo ≤ clampInt x lo hi ∧ clampInt x lo hi ≤ hi := by
  rw [clampInt_eq_max_min h]
  omega

theorem clampNat_le {x lo hi : Nat} (h : lo ≤ hi) :
    lo ≤ (clampNat x lo hi).value ∧ (clampNat x lo hi).value ≤ hi := by
  unfold clampNat
  dsimp only
  split
  · exact ⟨Nat.le_refl _, h⟩
  · split <;> omega

theorem clampOptional_le {o : Option Nat} {lo hi x : Nat} (h : lo ≤ hi) (hx : (clampOptional o lo hi).value = some x) :
    lo ≤ x ∧ x ≤ hi := by
  cases o with
  | none => nomatch hx
  | some n =>
    obtain rfl := Option.some.inj hx
    exact clampNat_le h

theorem clampDefault_le {o : Option Nat} {lo hi d : Nat} (hd : lo ≤ d ∧ d ≤ hi) :
    lo ≤ (clampDefault o lo hi d).value ∧ (clampDefault o lo hi d).value ≤ hi := by
  cases o with
  | none => exact hd
  | some n => exact clampNat_le (Nat.le_trans hd.1 hd.2)

theorem clampTarget_legal (t : Int) : TargetLegal (clampTarget t).value := clampInt_le (by decide)

theorem clampLimit_legal (x : Option Nat) : LimitLegal (clampLimit x).value :=
  fun _ hl => clampOptional_le (by decide) hl

theorem goodElements_ne {x : Option (Option ElementSet)} {e : ElementSet} (h : goodElements x = some e) :
    e ≠ .empty := by
  unfold goodElements at h
  split at h
  · split at h
    · nomatch h
    · next hne => exact Option.some.inj h ▸ hne
  · nomatch h

/-- The values of a kind are clamped into their ranges, and its elements name a member (R73, R75). -/
theorem completeKind_legal {r : RawRecord} {k : SegmentKind} {x : Clamped SegmentRecord}
    (h : completeKind r k = some x) : RecordLegal x.value := by
  cases k with
  | engage => exact Option.some.inj h ▸ trivial
  | release => exact Option.some.inj h ▸ trivial
  | catalyst =>
    unfold completeKind at h
    dsimp only at h
    split at h
    · exact Option.some.inj h ▸ ⟨clampTarget_legal _, clampLimit_legal _⟩
    · nomatch h
  | ramp =>
    unfold completeKind at h
    dsimp only at h
    split at h
    · next he =>
      exact Option.some.inj h ▸ ⟨clampTarget_legal _, fun _ hx => clampOptional_le (by decide) hx, clampLimit_legal _,
        goodElements_ne he, (clampDefault_le (by decide)).2, clampDefault_le (by decide)⟩
    · nomatch h
  | soak =>
    unfold completeKind at h
    dsimp only at h
    split at h
    · next he =>
      have duration := fun d => clampNat_le (x := d) (show 60 ≤ 14400 by decide)
      have tolerance := fun x => clampDefault_le (o := x) (show 20 ≤ 100 ∧ 100 ≤ 300 by decide)
      exact Option.some.inj h ▸ ⟨clampTarget_legal _, (duration _).1, (duration _).2, (tolerance _).1, (tolerance _).2,
        clampLimit_legal _, goodElements_ne he, (clampDefault_le (by decide)).2, clampDefault_le (by decide)⟩
    · nomatch h
  | cool =>
    unfold completeKind at h
    dsimp only at h
    split at h
    · exact Option.some.inj h ▸ ⟨clampTarget_legal _, clampLimit_legal _, (clampDefault_le (by decide)).2⟩
    · nomatch h

theorem completeRecord_legal {r : RawRecord} {x : Clamped SegmentRecord} (h : completeRecord r = some x) :
    RecordLegal x.value := by
  unfold completeRecord at h
  split at h
  · split at h
    · exact completeKind_legal h
    · nomatch h
  · nomatch h

theorem readBandWrite_legal {f : Fields} {w : BandWrite} (h : readBandWrite f = some w) : BandLegal w.record := by
  unfold readBandWrite at h
  split at h
  · nomatch h
  · split at h
    · obtain ⟨lo, hi⟩ := clampInt_le (show (0 : Int) ≤ 6000 by decide)
      exact Option.some.inj h ▸ ⟨lo, hi, (clampNat_le (lo := 0) (hi := 3) (by decide)).2⟩
    · nomatch h

theorem storedRating_legal (n : Nat) : storedRating n ≤ 3500 ∧ storedRating n % 10 = 0 := by
  rw [storedRating_eq]
  omega

/-! ## The requests that write a table -/

section
variable {P : Tables → Prop} {s : State}

/-- What the owner of a request keeps of the tables, the request keeps. -/
theorem takeRequest_tables {widths : List Nat} {p : List Byte} {owner : Fields → State → State × Answer}
    (h : P s.tables) (ho : ∀ f (u : State), P u.tables → P (owner f u).1.tables) :
    P (s.takeRequest widths p owner).tables := by
  unfold takeRequest serve
  have framed : P s.endOfFrame.tables := by rw [endOfFrame_tables]; exact h
  split
  · exact h
  · split
    · exact framed
    · next f _ =>
      show P (owner f s.endOfFrame).1.close.tables
      rw [close_tables]
      exact ho f _ framed

end

/-- The bands of every table are ordered and in range (R33, R34). -/
def BandsOf (x : Tables) : Prop :=
  ∀ c, BandsAscend (x.bands.get c) ∧ ∀ n : Fin 8, BandLegal (x.bands.get c)[n]

/-- Every program is within its bounds (R72, R73). -/
def ProgramsOf (x : Tables) : Prop := ∀ c, (x.programs.get c).length ≤ 12 ∧ ∀ r ∈ x.programs.get c, RecordLegal r

/-- The settings of power are within their ranges (R119, R120). -/
def PowerOf (x : Tables) : Prop :=
  1000 ≤ x.budgetSet ∧ x.budgetSet ≤ 7400 ∧ ∀ e, x.ratings.get e ≤ 3500 ∧ x.ratings.get e % 10 = 0

/-! ### WRITE BAND -/

namespace State

variable {s : State} {w : BandWrite}

/-- The band that a write finds by the plain lookup (R47). -/
def foundBand (s : State) (w : BandWrite) (f : Int) : BandIndex :=
  lookup ((s.bandTable w.cavity).set w.band w.record) f

theorem storeBand_bandTable : (s.storeBand w).bandTable w.cavity = (s.bandTable w.cavity).set w.band w.record :=
  PerCavity.get_set_same ..

theorem storeBand_bandTable_ne {c : Cavity} (h : c ≠ w.cavity) : (s.storeBand w).bandTable c = s.bandTable c :=
  PerCavity.get_set_ne _ _ h

/-- While the channel is VALID a write makes known the band it finds, where it is new or its own record changed
(R47). -/
theorem writeBand_valid {f : Int} (hv : s.isValid (.cav w.cavity) = true) (hf : s.f (.cav w.cavity) = some f) :
    s.writeBand w = if s.foundBand w f = s.bandIndex.get w.cavity then
        if s.foundBand w f = .band w.band ∧ (s.bandTable w.cavity)[w.band] ≠ w.record then
          bandKnown w.cavity (s.storeBand w) else s.storeBand w
      else takeBand w.cavity (s.foundBand w f) (s.storeBand w) := by
  unfold State.writeBand foundBand
  dsimp only
  rw [hv, hf]
  dsimp only
  rw [storeBand_bandTable]

theorem writeBand_not_valid (h : ¬ (s.isValid (.cav w.cavity) = true ∧ (s.f (.cav w.cavity)).isSome = true)) :
    s.writeBand w = s.storeBand w := by
  unfold State.writeBand
  dsimp only
  split
  · next hv hf => exact absurd ⟨hv, by rw [hf]; rfl⟩ h
  · rfl

theorem writeBand_tables : (s.writeBand w).tables = (s.storeBand w).tables := by
  by_cases h : s.isValid (.cav w.cavity) = true ∧ (s.f (.cav w.cavity)).isSome = true
  · obtain ⟨hv, hf⟩ := h
    obtain ⟨f, hf⟩ := Option.isSome_iff_exists.mp hf
    rw [writeBand_valid hv hf]
    split
    · split
      · exact (Quiet.bandKnown ..).tables
      · rfl
    · exact (Quiet.takeBand ..).tables
  · rw [writeBand_not_valid h]

end State

/-- WRITE BAND leaves the part alone, or carries out a write in range that keeps the order of R34. -/
theorem writeBandAnswer_cases (f : Fields) (s : State) : (writeBandAnswer f s).1 = s
    ∨ ∃ w, readBandWrite f = some w ∧ BandsAscend ((s.bandTable w.cavity).set w.band w.record)
      ∧ (writeBandAnswer f s).1 = s.writeBand w := by
  unfold writeBandAnswer
  split
  · exact .inl rfl
  · cases f.enum 0 cavityOf
    all_goals
      dsimp only
      split
      · exact .inl rfl
      · cases hw : readBandWrite f with
        | none => exact .inl rfl
        | some w =>
          dsimp only
          split
          · next ordered => exact .inr ⟨w, rfl, (bandsOrdered_iff _).mp ordered, rfl⟩
          · exact .inl rfl

theorem storeBand_bands {s : State} {w : BandWrite} (h : BandsOf s.tables) (hr : BandLegal w.record)
    (ascend : BandsAscend ((s.bandTable w.cavity).set w.band w.record)) : BandsOf (s.storeBand w).tables := by
  intro c
  by_cases hc : c = w.cavity
  · subst hc
    have written : (s.storeBand w).tables.bands.get w.cavity = (s.bandTable w.cavity).set w.band w.record :=
      storeBand_bandTable
    rw [written]
    refine ⟨ascend, fun n => ?_⟩
    by_cases hn : n = w.band
    · subst hn
      simpa using hr
    · have other : ((s.bandTable w.cavity).set w.band w.record)[n] = (s.bandTable w.cavity)[n] :=
        Vector.getElem_set_ne _ _ (by omega)
      rw [other]
      exact (h w.cavity).2 n
  · have same : (s.storeBand w).tables.bands.get c = s.tables.bands.get c := storeBand_bandTable_ne hc
    rw [same]
    exact h c

theorem writeBandAnswer_bands (f : Fields) (s : State) (h : BandsOf s.tables) :
    BandsOf (writeBandAnswer f s).1.tables := by
  rcases writeBandAnswer_cases f s with e | ⟨w, hw, ascend, e⟩
  · rw [e]
    exact h
  · rw [e, writeBand_tables]
    exact storeBand_bands h (readBandWrite_legal hw) ascend

/-! ### The programs -/

theorem ProgramsOf.set {x : Tables} (h : ProgramsOf x) (c : Cavity) {p : List SegmentRecord} (hlen : p.length ≤ 12)
    (hp : ∀ r ∈ p, RecordLegal r) : ProgramsOf { x with programs := x.programs.set c p } := by
  intro d
  by_cases hd : d = c
  · subst hd
    have written : (x.programs.set d p).get d = p := PerCavity.get_set_same ..
    exact written.symm ▸ ⟨hlen, hp⟩
  · have same : (x.programs.set c p).get d = x.programs.get d := PerCavity.get_set_ne _ _ hd
    exact same.symm ▸ h d

theorem appendAnswer_programs (f : Fields) (s : State) (h : ProgramsOf s.tables) :
    ProgramsOf (appendAnswer f s).1.tables := by
  unfold appendAnswer
  split
  · exact h
  · next c _ =>
    repeat' split
    · exact h
    · exact h
    · exact h
    · exact h
    · next short _ r hr =>
      refine h.set c ?_ fun x hx => ?_
      · rw [List.length_append]
        exact Nat.lt_of_not_le short
      · rcases List.mem_append.mp hx with hx | hx
        · exact (h c).2 x hx
        · rw [List.mem_singleton.mp hx]
          exact completeRecord_legal hr

theorem replaceAnswer_programs (f : Fields) (s : State) (h : ProgramsOf s.tables) :
    ProgramsOf (replaceAnswer f s).1.tables := by
  unfold replaceAnswer
  split
  · next c index _ _ =>
    repeat' split
    · exact h
    · exact h
    · exact h
    · exact h
    · next r hr =>
      refine h.set c ?_ fun x hx => ?_
      · rw [List.length_set]
        exact (h c).1
      · rcases List.mem_or_eq_of_mem_set hx with hx | hx
        · exact (h c).2 x hx
        · rw [hx]
          exact completeRecord_legal hr
  · exact h

theorem clearProgramAnswer_programs (c : Cavity) (s : State) (h : ProgramsOf s.tables) :
    ProgramsOf (clearProgramAnswer c s).1.tables := by
  unfold clearProgramAnswer
  split
  · exact h.set c (Nat.zero_le _) nofun
  · exact h

theorem forCavity_programs {op : Cavity → State → State × Answer}
    (ho : ∀ c s, ProgramsOf s.tables → ProgramsOf (op c s).1.tables) (f : Fields) (s : State)
    (h : ProgramsOf s.tables) : ProgramsOf (forCavity op f s).1.tables := by
  unfold forCavity
  split
  · exact ho _ s h
  · exact h

/-! ### The settings of power -/

theorem setElementAnswer_power (f : Fields) (s : State) (h : PowerOf s.tables) :
    PowerOf (setElementAnswer f s).1.tables := by
  unfold setElementAnswer
  repeat' split
  · exact h
  · exact h
  · exact h
  · next e n _ _ _ =>
    obtain ⟨lo, hi, ratings⟩ := h
    refine ⟨?_, ?_, fun d => ?_⟩ <;> dsimp only <;> rw [storeRating_eq]
    · exact lo
    · exact hi
    · by_cases hd : d = e
      · subst hd
        have written : (s.tables.ratings.set d (storedRating n)).get d = storedRating n := PerElement.get_set_same ..
        exact written.symm ▸ storedRating_legal n
      · have same : (s.tables.ratings.set e (storedRating n)).get d = s.tables.ratings.get d :=
          PerElement.get_set_ne _ _ hd
        exact same.symm ▸ ratings d
  · exact h

theorem setBudgetAnswer_power (f : Fields) (s : State) (h : PowerOf s.tables) :
    PowerOf (setBudgetAnswer f s).1.tables := by
  unfold setBudgetAnswer
  repeat' split
  · exact h
  · exact h
  · obtain ⟨lo, hi⟩ := clampNat_le (x := _) (show 1000 ≤ 7400 by decide)
    exact ⟨lo, hi, h.2.2⟩
  · exact h

end Sys2Proof.Machine
end

section
/-!
PROOFS. What a step is: a command on the queue's rest, or the passing of time; and the two resets, each a state whose
blocks hold their reset values. With them the tables through every step (O54).
-/

namespace Sys2Proof.Machine

open Sys2Proof State

/-! ## Steps -/

/-- A step is the front command on the queue's rest, or, with an empty queue, the passing of time. -/
theorem step_cases {s t : State} (h : step s = .next t) :
    (∃ i rest, exec i { s with pending := rest } = .next t) ∨ t = s.idle := by
  unfold step takePending at h
  cases hp : s.pending with
  | nil =>
    rw [hp] at h
    exact .inr (Host.Outcome.next.inj h).symm
  | cons i rest =>
    rw [hp] at h
    exact .inl ⟨i, rest, h⟩

/-- The passing of time counts every timer, or none where something is due at once; beside that it moves the pins'
samples, the queue of commands and the next draw (log entry 1). -/
theorem idle_cases (s : State) : ∃ u pins pending order draws, (u = s ∨ u = s.countAll)
    ∧ s.idle = { u with pins := pins, pending := pending, order := order, draws := draws } := by
  by_cases starts : s.alloc.slot = none ∨ 2 ≤ s.clock.sinceVisit
  · exact ⟨s, _, _, _, _, .inl rfl, idle_of_starts starts⟩
  · exact ⟨s.countAll, _, _, _, _, .inr rfl,
      (idle_of_no_starts (fun h => starts (.inl h)) (by omega)).trans (millisecond_eq s)⟩

/-- Either reset leaves blocks with their reset values, and at most one record in the Event Queue. -/
theorem isReset_of_exec {s t : State} (h : exec .powerOnReset s = .next t ∨ exec .externalReset s = .next t) :
    ∃ trip u, IsReset trip s u
      ∧ t = { u with events := t.events, order := t.order, draws := t.draws } ∧ t.QueueLegal := by
  rcases h with h | h
  · obtain rfl := Host.Outcome.next.inj h
    exact ⟨_, _, afterReset_isReset false s, rfl, (afterReset_isReset false s).queueLegal⟩
  · obtain rfl := Host.Outcome.next.inj h
    have hk := keepHolds_isReset s allRelays _ (afterReset_isReset s.sup.trip s)
    rw [externallyReset_eq]
    generalize forEach allRelays (keepHold s) (afterReset s.sup.trip s) = u at hk
    refine ⟨_, u, hk, ?_⟩
    split
    · have reported : (reportTrip u).events = ⟨[], [⟨.supervisor, ⟨.faultRaised none .trip none, u.clock.stamp⟩⟩]⟩ :=
        congrArg (fun x => (⟨x.queue, x.outbox ++ [⟨.supervisor, ⟨.faultRaised none .trip none, u.clock.stamp⟩⟩]⟩ : Events))
          hk.events
      rw [close_single _ _ reported]
      exact ⟨rfl, show 1 ≤ 16 by decide, rfl⟩
    · exact ⟨rfl, hk.queueLegal⟩

/-! ## The tables -/

theorem State.IsReset.tables {trip : Bool} {s t : State} (h : IsReset trip s t) : t.tables = .reset :=
  congrArg State.tables h.blocks

theorem exec_reset_tables {s t : State} (h : exec .powerOnReset s = .next t ∨ exec .externalReset s = .next t) :
    t.tables = .reset := by
  obtain ⟨trip, u, hu, ht, -⟩ := isReset_of_exec h
  rw [ht]
  exact hu.tables

theorem resetTables_bands : BandsOf Tables.reset := reset_isReset.bandsLegal
theorem resetTables_programs : ProgramsOf Tables.reset := reset_isReset.programsLegal
theorem resetTables_power : PowerOf Tables.reset := reset_isReset.powerLegal

/-- The standing conditions on the tables, each by itself, from one state to another. -/
structure TablesStay (s t : State) : Prop where
  bands : BandsOf s.tables → BandsOf t.tables
  programs : ProgramsOf s.tables → ProgramsOf t.tables
  power : PowerOf s.tables → PowerOf t.tables

theorem TablesStay.of_eq {s t : State} (h : t.tables = s.tables) : TablesStay s t := by
  constructor <;> rw [h] <;> exact id

/-- Each condition is kept by the requests that write its part of the tables, and by every other command because it
writes nothing of that part. -/
theorem exec_tablesStay (i : Instr) {s t : State} (h : exec i s = .next t) : TablesStay s t := by
  by_cases reset : i = .powerOnReset ∨ i = .externalReset
  · have ht : t.tables = .reset := exec_reset_tables (by rcases reset with rfl | rfl; exact .inl h; exact .inr h)
    exact ⟨fun _ => ht ▸ resetTables_bands, fun _ => ht ▸ resetTables_programs, fun _ => ht ▸ resetTables_power⟩
  · obtain ⟨-, writes⟩ := exec_status i s t h (fun e => reset (.inl e)) fun e => reset (.inr e)
    refine ⟨fun hb => ?_, fun hp => ?_, fun hw => ?_⟩
    · by_cases writer : ∃ p, i = .writeBand p
      · obtain ⟨p, rfl⟩ := writer
        obtain rfl := Host.Outcome.next.inj h
        exact takeRequest_tables hb writeBandAnswer_bands
      · unfold BandsOf
        rw [writes.bands (.inl fun p e => writer ⟨p, e⟩)]
        exact hb
    · by_cases append : ∃ p, i = .appendSegment p
      · obtain ⟨p, rfl⟩ := append
        obtain rfl := Host.Outcome.next.inj h
        exact takeRequest_tables hp appendAnswer_programs
      · by_cases replace : ∃ p, i = .replaceSegment p
        · obtain ⟨p, rfl⟩ := replace
          obtain rfl := Host.Outcome.next.inj h
          exact takeRequest_tables hp replaceAnswer_programs
        · by_cases clear : ∃ p, i = .clearProgram p
          · obtain ⟨p, rfl⟩ := clear
            obtain rfl := Host.Outcome.next.inj h
            exact takeRequest_tables hp (forCavity_programs clearProgramAnswer_programs)
          · unfold ProgramsOf
            rw [writes.programs fun p => ⟨fun e => append ⟨p, e⟩, fun e => replace ⟨p, e⟩, fun e => clear ⟨p, e⟩⟩]
            exact hp
    · by_cases element : ∃ p, i = .setElement p
      · obtain ⟨p, rfl⟩ := element
        obtain rfl := Host.Outcome.next.inj h
        exact takeRequest_tables hw setElementAnswer_power
      · by_cases budget : ∃ p, i = .setBudget p
        · obtain ⟨p, rfl⟩ := budget
          obtain rfl := Host.Outcome.next.inj h
          exact takeRequest_tables hw setBudgetAnswer_power
        · unfold PowerOf
          rw [writes.ratings (.inl fun p e => element ⟨p, e⟩), writes.budgetSet (.inl fun p e => budget ⟨p, e⟩)]
          exact hw

theorem step_tablesStay {s t : State} (h : step s = .next t) : TablesStay s t := by
  rcases step_cases h with ⟨i, rest, run⟩ | rfl
  · have stay := exec_tablesStay i run
    exact ⟨stay.bands, stay.programs, stay.power⟩
  · obtain ⟨u, pins, pending, order, draws, hu, idle⟩ := idle_cases s
    refine .of_eq ?_
    rw [idle]
    rcases hu with rfl | rfl <;> rfl

/-- WRITE BAND of a table that is neither frozen nor locked comes to the order check (R45, R46). -/
theorem writeBandAnswer_ordered {s : State} {c : Cavity} {n : Fin 8} {r : BandRecord} {limit : Int} {floor : Nat}
    (unfrozen : s.tables.frozen = false) (unlocked : s.tableLocks.get c = false) (lo : -32768 ≤ limit)
    (hi : limit ≤ 32767) (hf : floor ≤ 255) (hl : r.limit = clampInt limit 0 6000) (hm : r.fanFloor = min floor 3) :
    writeBandAnswer (bandFieldsOf c n limit floor r) s.endOfFrame =
      if bandsOrdered ((s.endOfFrame.bandTable c).set n r) then
        (s.endOfFrame.writeBand ⟨c, n, r, decide (r.limit ≠ limit) || decide (3 < floor)⟩,
          doneClamped (decide (r.limit ≠ limit) || decide (3 < floor)) (bandItems r))
      else (s.endOfFrame, refuse .order) := by
  have named : (bandFieldsOf c n limit floor r).enum 0 cavityOf = some c := cavityOf_byte c
  unfold writeBandAnswer
  rw [endOfFrame_tables, unfrozen, if_neg nofun, named, endOfFrame_tableLocks,
    readBandWrite_bandFieldsOf lo hi hf hl hm]
  exact if_neg (show ¬ s.tableLocks.get c = true by rw [unlocked]; exact nofun)

theorem endOfFrame_bandTable {s : State} : s.endOfFrame.bandTable = s.bandTable := by
  unfold bandTable
  rw [endOfFrame_tables]

/-- A write that would break the order is refused before it is carried out (R46). -/
theorem writeBand_refused {s : State} {c : Cavity} {n : Fin 8} {r : BandRecord} {limit : Int} {floor : Nat}
    (h : s.takesLine) (hb : s.events.outbox = []) (unfrozen : s.tables.frozen = false)
    (unlocked : s.tableLocks.get c = false) (lo : -32768 ≤ limit) (hi : limit ≤ 32767) (hf : floor ≤ 255)
    (hl : r.limit = clampInt limit 0 6000) (hm : r.fanFloor = min floor 3)
    (breaks : ¬ BandsAscend ((s.bandTable c).set n r)) :
    exec (.writeBand (bandPayload c n limit floor r)) s = .next (s.refusedWith .order).drawOrder := by
  refine congrArg Host.Outcome.next (takeRequest_refused h hb (readFields_bandPayload c n limit floor r) ?_)
  rw [writeBandAnswer_ordered unfrozen unlocked lo hi hf hl hm]
  exact if_neg (by rw [endOfFrame_bandTable, bandsOrdered_iff]; exact breaks)

/-- Settles O54: the tables through a step, after the resets, and at a write that the order check refuses. -/
theorem bandTablesStayOrdered : Obligations.BandTablesStayOrdered := by
  refine ⟨fun s t legal h => (step_tablesStay h).bands legal, reset_isReset.bandsLegal, fun s t h => ?_,
    fun s c n r limit floor line hb unfrozen unlocked lo hi hf hl hm breaks =>
      writeBand_refused line hb unfrozen unlocked lo hi hf hl hm breaks⟩
  have reset : t.tables = .reset := exec_reset_tables h
  have legal : BandsOf t.tables := reset ▸ resetTables_bands
  exact legal

end Sys2Proof.Machine
end

section
/-!
PROOFS. WRITE BAND carried out (R39, R45, R47, R59): the band that it finds, and the release that it lets begin.
-/

namespace Sys2Proof.Machine

open Sys2Proof State

namespace State

open LockCtl (Begins)

variable {s t : State} {w : BandWrite} {c : Cavity} {i : BandIndex}

/-- The tables and the band index of a write that finds the band `i`. -/
def wroteBand (w : BandWrite) (i : BandIndex) (s : State) : State := (s.storeBand w).setBandIndex w.cavity i

/-- What a write leaves: the record and the index are new; the grants, the drive and the fan follow them; and the lock
has begun a release where one waits and the policy in force has become FREE. -/
structure BandWritten (w : BandWrite) (i : BandIndex) (s t : State) : Prop where
  rest : t = { s.wroteBand w i with
    alloc := t.alloc, drive := t.drive, fan := t.fan, locks := t.locks, events := t.events }
  other : t.locks.get w.cavity.other = s.locks.get w.cavity.other
  begins : s.ValidHasF → Begins (t.policy w.cavity) (s.lock w.cavity) → s.policy w.cavity ≠ .free →
    t.lock w.cavity = releaseBegun (s.lock w.cavity)
  stays : ¬ Begins (t.policy w.cavity) (s.lock w.cavity) → t.lock w.cavity = s.lock w.cavity

/-- Where no release begins, grants and the fan alone follow. -/
theorem BandWritten.ofSettles (h : Settles (s.wroteBand w i) t)
    (waits : Begins ((s.wroteBand w i).policy w.cavity) (s.lock w.cavity) → s.policy w.cavity = .free) :
    BandWritten w i s t := by
  have policy : t.policy w.cavity = (s.wroteBand w i).policy w.cavity := policy_congr h.tables h.bandIndex h.channels _
  obtain ⟨a, d, f, rfl⟩ : ∃ a d f, t = { s.wroteBand w i with alloc := a, drive := d, fan := f } := ⟨_, _, _, h.rest⟩
  exact ⟨rfl, rfl, fun _ begins unfree => absurd (waits (policy ▸ begins)) unfree, fun _ => rfl⟩

theorem onLockChanged_idle {a b : LockState} (h : (s.engine c).state = .idle) : onLockChanged c a b s = s := by
  unfold onLockChanged
  rw [h]

/-- A release begins; the engine, in IDLE, takes no note of it. -/
theorem BandWritten.ofBegins {v : State} (idle : (s.engine w.cavity).state = .idle)
    (change : Begins ((s.wroteBand w i).policy w.cavity) (s.lock w.cavity)) (before : Settles (s.wroteBand w i) v)
    (after : Settles (onLockChanged w.cavity .engaged .releasing (releaseBegins w.cavity v)) t) :
    BandWritten w i s t := by
  obtain ⟨x, begun⟩ := releaseBegins_rest w.cavity v
  obtain ⟨a, d, f, rfl⟩ : ∃ a d f, v = { s.wroteBand w i with alloc := a, drive := d, fan := f } :=
    ⟨_, _, _, before.rest⟩
  have silent := onLockChanged_idle (c := w.cavity) (a := .engaged) (b := .releasing)
    (s := releaseBegins w.cavity { s.wroteBand w i with alloc := a, drive := d, fan := f })
    (by unfold engine; rw [begun.engines]; exact idle)
  rw [silent] at after
  have settled := begun.trans after
  have policy : t.policy w.cavity = (s.wroteBand w i).policy w.cavity :=
    policy_congr settled.tables settled.bandIndex settled.channels _
  obtain ⟨a', d', f', rfl⟩ := (⟨_, _, _, settled.rest⟩ : ∃ a' d' f', t = { State.setEvents x
    (State.setLock w.cavity (releaseBegun (s.lock w.cavity)) (s.wroteBand w i)) with alloc := a', drive := d', fan := f' })
  exact ⟨rfl, PerCavity.get_set_ne _ _ (other_ne _), fun _ _ _ => PerCavity.get_set_same ..,
    fun stays => absurd (policy ▸ change) stays⟩

/-- The fields in force are as they were where neither the index nor the record at it is new. -/
theorem wroteBand_bandFields (same : s.bandIndex.get w.cavity = i)
    (kept : i = .band w.band → (s.bandTable w.cavity)[w.band] = w.record) (c : Cavity) :
    (s.wroteBand w i).bandFields c = s.bandFields c := by
  have stored : s.wroteBand w i = s.storeBand w := setBandIndex_self (s := s.storeBand w) same
  have index : (s.storeBand w).bandNow c = s.bandNow c := rfl
  unfold bandFields
  rw [stored, index]
  by_cases hc : c = w.cavity
  · subst hc
    rw [storeBand_bandTable]
    match hb : s.bandNow w.cavity with
    | .over => rfl
    | .band n =>
      refine congrArg BandRecord.fields ?_
      by_cases hn : n = w.band
      · subst hn
        have now : i = .band w.band := by
          unfold bandNow at hb
          split at hb
          · exact same.symm.trans hb
          · nomatch hb
        exact (Vector.getElem_set_self ..).trans (kept now).symm
      · exact Vector.getElem_set_ne _ _ (by omega)
  · rw [storeBand_bandTable_ne hc]

theorem wroteBand_policy (same : s.bandIndex.get w.cavity = i)
    (kept : i = .band w.band → (s.bandTable w.cavity)[w.band] = w.record) :
    (s.wroteBand w i).policy w.cavity = s.policy w.cavity :=
  congrArg BandFields.policy (wroteBand_bandFields same kept w.cavity)

/-- A write while the channel is VALID finds the band by the plain lookup, and makes it known where it must. -/
theorem writeBand_written {f : Int} (idle : (s.engine w.cavity).state = .idle)
    (hv : s.isValid (.cav w.cavity) = true) (hf : s.f (.cav w.cavity) = some f) :
    BandWritten w (s.foundBand w f) s (s.writeBand w) := by
  rw [writeBand_valid hv hf]
  split
  · next same =>
    have stored : s.wroteBand w (s.foundBand w f) = s.storeBand w := setBandIndex_self (s := s.storeBand w) same.symm
    split
    · by_cases begins : Begins ((s.storeBand w).policy w.cavity) ((s.storeBand w).lock w.cavity)
      · obtain ⟨v, before, after⟩ := bandKnown_begins begins
        exact .ofBegins idle (stored.symm ▸ begins) (stored.symm ▸ before) after
      · exact .ofSettles (stored.symm ▸ bandKnown_stays begins) fun h => absurd (stored ▸ h) begins
    · next unknown =>
      refine .ofSettles (stored.symm ▸ .refl _) fun begins => ?_
      rw [← wroteBand_policy same.symm fun at_ => Classical.not_not.mp fun changed => unknown ⟨at_, changed⟩]
      exact begins.2.2
  · next moved =>
    cases takeBand_taken w.cavity (s.foundBand w f) (s.storeBand w) with
    | stays rest waits => exact .ofSettles rest fun begins => absurd begins (waits (Ne.symm moved))
    | begins v change before after => exact .ofBegins idle change before after

theorem policy_not_valid (h : s.isValid (.cav c) = false) : s.policy c = .interlock := by
  unfold policy bandFields bandNow
  rw [h]
  rfl

/-- A write while the channel is not VALID leaves the index, and OVER in force. -/
theorem writeBand_stored (h : ¬ (s.isValid (.cav w.cavity) = true ∧ (s.f (.cav w.cavity)).isSome = true)) :
    BandWritten w (s.bandIndex.get w.cavity) s (s.writeBand w) := by
  have stored : s.wroteBand w (s.bandIndex.get w.cavity) = s.storeBand w := setBandIndex_self (s := s.storeBand w) rfl
  rw [writeBand_not_valid h]
  refine ⟨by rw [stored], rfl, fun hasF begins _ => ?_, fun _ => rfl⟩
  have invalid : (s.storeBand w).isValid (.cav w.cavity) = false :=
    Bool.eq_false_iff.mpr fun hv => h ⟨hv, hasF _ hv⟩
  exact absurd ((policy_not_valid invalid).symm.trans begins.2.2) nofun

/-- The index that a write leaves: the plain lookup while the channel is VALID, and the one before otherwise (R47). -/
theorem writeBand_index (idle : (s.engine w.cavity).state = .idle) : ∃ i, BandWritten w i s (s.writeBand w)
    ∧ (∀ f, s.isValid (.cav w.cavity) = true → s.f (.cav w.cavity) = some f → i = s.foundBand w f)
    ∧ (s.isValid (.cav w.cavity) = false → i = s.bandIndex.get w.cavity) := by
  by_cases h : s.isValid (.cav w.cavity) = true ∧ (s.f (.cav w.cavity)).isSome = true
  · obtain ⟨hv, some_f⟩ := h
    obtain ⟨f, hf⟩ := Option.isSome_iff_exists.mp some_f
    exact ⟨_, writeBand_written idle hv hf, fun g _ hg => by rw [Option.some.inj (hf.symm.trans hg)],
      fun invalid => absurd (hv.symm.trans invalid) nofun⟩
  · exact ⟨_, writeBand_stored h, fun f hv hf => absurd ⟨hv, by rw [hf]; rfl⟩ h, fun _ => rfl⟩

/-- The reply to a write, through the close. -/
theorem BandWritten.replied {a : Answer} (h : BandWritten w i s.endOfFrame t) (ha : a.clearsLost = false) :
    s.replied a.reason a.clamped a.payload (t.close.sendReply a) := by
  refine replied_close ?_ ha
  conv_lhs => rw [h.rest]
  rfl

end State

/-- A write that keeps the order is carried out and answered with the record as stored (R45 to R47). -/
theorem exec_writeBand_stored {s : State} {c : Cavity} {n : Fin 8} {r : BandRecord} {limit : Int} {floor : Nat}
    (h : s.takesLine) (unfrozen : s.tables.frozen = false) (unlocked : s.tableLocks.get c = false)
    (lo : -32768 ≤ limit) (hi : limit ≤ 32767) (hf : floor ≤ 255) (hl : r.limit = clampInt limit 0 6000)
    (hm : r.fanFloor = min floor 3) (ascend : BandsAscend ((s.bandTable c).set n r)) :
    exec (.writeBand (bandPayload c n limit floor r)) s
      = .next ((s.endOfFrame.writeBand ⟨c, n, r, decide (r.limit ≠ limit) || decide (3 < floor)⟩).close.sendReply
          (doneClamped (decide (r.limit ≠ limit) || decide (3 < floor)) (bandItems r))) := by
  have run := serve_fields (finish := close) (owner := writeBandAnswer) (lineDead_of_takes h)
    (readFields_bandPayload c n limit floor r)
  rw [writeBandAnswer_ordered unfrozen unlocked lo hi hf hl hm,
    if_pos (by rw [endOfFrame_bandTable, bandsOrdered_iff]; exact ascend)] at run
  exact congrArg Host.Outcome.next run

/-- Settles O5: the write on the idle cavity's table, seen through the close and the reply. -/
theorem writeBandStoresRecord : Obligations.WriteBandStoresRecord := by
  intro s c n r limit floor h unfrozen unlocked idle lo hi hf hl hm ascend
  refine ⟨_, exec_writeBand_stored h unfrozen unlocked lo hi hf hl hm ascend, ?_⟩
  have framedIdle : (s.endOfFrame.engine c).state = .idle := by rw [endOfFrame_rest]; exact idle
  obtain ⟨i, written, found, kept⟩ := writeBand_index (s := s.endOfFrame)
    (w := ⟨c, n, r, decide (r.limit ≠ limit) || decide (3 < floor)⟩) framedIdle
  have reply : s.repliedDone (decide (r.limit ≠ limit) || decide (3 < floor)) (encodeItems (bandItems r)) _ :=
    written.replied (a := doneClamped (decide (r.limit ≠ limit) || decide (3 < floor)) (bandItems r)) rfl
  obtain ⟨rest, other, begins, stays⟩ := written
  generalize s.endOfFrame.writeBand ⟨c, n, r, decide (r.limit ≠ limit) || decide (3 < floor)⟩ = v at *
  generalize doneClamped (decide (r.limit ≠ limit) || decide (3 < floor)) (bandItems r) = a at *
  rw [endOfFrame_rest] at rest other begins stays found kept
  have policy : (v.close.sendReply a).policy c = v.policy c :=
    policy_congr (close_tables v) (close_bandIndex v) (close_channels v) c
  have lock : (v.close.sendReply a).lock c = v.lock c := congrArg (fun x => x.get c) (close_locks v)
  have index : (v.close.sendReply a).bandIndex = s.bandIndex.set c i := (close_bandIndex v).trans (by rw [rest]; rfl)
  rw [policy, lock, index]
  refine ⟨(close_tables v).trans (by rw [rest]; rfl), reply, fun f hv hf => by rw [found f hv hf]; rfl,
    fun hv => by rw [kept hv]; exact PerCavity.set_get ..,
    (close_channels v).trans (by rw [rest]; rfl), (close_rates v).trans (by rw [rest]; rfl),
    (close_converter v).trans (by rw [rest]; rfl), (close_pins v).trans (by rw [rest]; rfl),
    (close_clock v).trans (by rw [rest]; rfl), (close_tableLocks v).trans (by rw [rest]; rfl),
    (close_engines v).trans (by rw [rest]; rfl), (close_pending v).trans (by rw [rest]; rfl),
    (congrArg (fun x => x.get c.other) (close_locks v)).trans other, (close_sup v).trans (by rw [rest]; rfl),
    fun hasF engaged waiting unfree free => begins hasF ⟨engaged, waiting, free⟩ unfree,
    fun not => stays fun ⟨engaged, waiting, free⟩ => ?_⟩
  exact not.elim (absurd engaged) fun x => x.elim (absurd · waiting) (absurd free)

end Sys2Proof.Machine
end

section
/-!
PROOFS. A Door Lock Controller keeps what goes together in it (R52) through each of its operations: one lemma per
operation, from what each kind of write to the controller keeps.
-/

namespace Sys2Proof.Machine

open Sys2Proof State

/-! ## What a legal lock has in its states -/

namespace State.LockLegal

variable {l : LockCtl}

theorem notStuck (h : LockLegal l) (hs : l.state ≠ .faulted) : l.faults.stuck = false :=
  Bool.eq_false_iff.mpr (mt h.stuck.mp hs)

theorem noPending (h : LockLegal l) (hs : l.state ≠ .engaged) : l.releasePending = none :=
  not_not.mp (mt h.pending hs)

/-- In a state of motion there is a motion (R53). -/
theorem moves (h : LockLegal l) (hs : l.state = .engaging ∨ l.state = .releasing ∨ l.state = .returning) :
    l.motion ≠ none := by
  have hm := h.motion
  unfold MotionLegal at hm
  intro hn
  rcases hs with hs | hs | hs <;> rw [hs, hn] at hm <;> cases e : l.motor <;> rw [e] at hm <;> exact hm

/-- In a state of rest there is none, and so no request in the slot. -/
theorem noSlot (h : LockLegal l) (he : l.state ≠ .engaging) (hr : l.state ≠ .releasing) (ht : l.state ≠ .returning) :
    l.slot = none := by
  refine not_not.mp (mt h.slot (not_not.mpr ?_))
  have hm := h.motion
  unfold MotionLegal at hm
  split at hm
  case h_1 hs _ _ => exact absurd hs he
  case h_2 hs _ _ => exact absurd hs hr
  case h_3 hs _ _ => exact absurd hs ht
  case h_8 => exact hm.elim
  all_goals assumption

theorem withSlot (h : LockLegal l) (x : Option LockRequest) (hx : x ≠ none → l.motion ≠ none) :
    LockLegal { l with slot := x } := ⟨h.motion, h.pending, h.stuck, hx, h.levels⟩

theorem withPending (h : LockLegal l) (x : Option Requester) (hx : x ≠ none → l.state = .engaged) :
    LockLegal { l with releasePending := x } := ⟨h.motion, hx, h.stuck, h.slot, h.levels⟩

/-- A fault other than LOCK_STUCK is no matter of the state. -/
theorem withFaults (h : LockLegal l) (x : LockFaults) (hx : x.stuck = l.faults.stuck) :
    LockLegal { l with faults := x } := ⟨h.motion, h.pending, by rw [← h.stuck, ← hx], h.slot, h.levels⟩

end State.LockLegal

namespace LockCtl

variable {l : LockCtl}

/-- A level that is recorded leaves the others present (R51). -/
theorem allPresent_set (h : l.allPresent = true) (sw : Switch) (x : Bool) :
    ({ l with levels := l.levels.set sw (some x) } : LockCtl).allPresent = true := by
  simp only [allPresent, Bool.and_eq_true] at h ⊢
  obtain ⟨⟨hd, hh⟩, hs⟩ := h
  cases sw
  · exact ⟨⟨rfl, hh⟩, hs⟩
  · exact ⟨⟨hd, rfl⟩, hs⟩
  · exact ⟨⟨hd, hh⟩, rfl⟩

theorem withLevel_legal (h : LockLegal l) (sw : Switch) (x : Bool) :
    LockLegal { l with levels := l.levels.set sw (some x) } :=
  ⟨h.motion, h.pending, h.stuck, h.slot, fun hs => allPresent_set (h.levels hs) sw x⟩

/-! ## Coming to rest and starting a motion -/

theorem rest_legal {x : LockState} (hx : x = .released ∨ x = .engaged) (hp : l.releasePending ≠ none → x = .engaged)
    (hf : l.faults.stuck = false) (hq : l.slot = none) (hl : l.allPresent = true) : LockLegal (rest x l).lock where
  motion := by rcases hx with rfl | rfl <;> exact trivial
  pending := hp
  stuck := by rcases hx with rfl | rfl <;> simp [rest, hf]
  slot h := absurd hq h
  levels _ := hl

theorem run_legal {x : LockState} {m : Motor} {k : MotionCause} (hm : MotionLegal (run x m k l).lock)
    (hx : x ≠ .faulted) (hp : l.releasePending = none) (hf : l.faults.stuck = false) (hl : l.allPresent = true) :
    LockLegal (run x m k l).lock where
  motion := hm
  pending h := absurd hp h
  stuck := by simp [run, hf, hx]
  slot _ := nofun
  levels _ := hl

theorem latch_legal (h : LockLegal l) {f : LockFault} (hf : f ≠ .stuck) : LockLegal (latch f l).lock := by
  unfold latch
  split
  · exact h
  · refine h.withFaults _ ?_
    cases f with
    | jam => rfl
    | stuck => exact absurd rfl hf
    | breach => rfl
    | slip => rfl

theorem unlatch_legal (h : LockLegal l) {f : LockFault} (hf : f ≠ .stuck) : LockLegal (unlatch f l).lock := by
  unfold unlatch
  split
  · refine h.withFaults _ ?_
    cases f with
    | jam => rfl
    | stuck => exact absurd rfl hf
    | breach => rfl
    | slip => rfl
  · exact h

/-- Entry into FAULTED, from wherever (R63). -/
theorem jamFast_legal (hl : l.allPresent = true) : LockLegal (jamFast l).lock := by
  have hs : (latch .stuck { l with slot := none, releasePending := none }).lock
      = { l with slot := none, releasePending := none, faults := { l.faults with stuck := true } } := by
    unfold latch
    split
    · next h =>
      have h : l.faults.stuck = true := h
      show ({ l with slot := none, releasePending := none } : LockCtl) = _
      rw [← h]
    · rfl
  unfold jamFast LockStep.andThen
  rw [hs]
  exact ⟨trivial, fun h => absurd rfl h, iff_of_true rfl rfl, fun h => absurd rfl h, fun _ => hl⟩

/-! ## Requests -/

theorem dropFromSlot_legal (h : LockLegal l) (k : LockRequestKind) : LockLegal (dropFromSlot k l) := by
  unfold dropFromSlot
  split
  · split
    · exact h.withSlot none fun hn => absurd rfl hn
    · exact h
  · exact h

theorem beginRelease_legal (h : LockLegal l) (hs : l.state = .engaged) : LockLegal (beginRelease l).lock :=
  run_legal (l := { l with releasePending := none }) rfl nofun rfl (h.notStuck (by rw [hs]; nofun))
    (h.levels (by rw [hs]; nofun))

theorem engage_legal (h : LockLegal l) (q : Requester) : LockLegal (engage q l).1.lock := by
  unfold engage
  split
  · next hs =>
    have hp := h.noPending (by rw [hs]; nofun)
    have hf := h.notStuck (by rw [hs]; nofun)
    have hl := h.levels (by rw [hs]; nofun)
    unfold engageReleased
    split
    · split
      · exact rest_legal (.inr rfl) (fun _ => rfl) hf
          (h.noSlot (by rw [hs]; nofun) (by rw [hs]; nofun) (by rw [hs]; nofun)) hl
      · exact run_legal (.inl rfl) nofun hp hf hl
    · exact h
  · exact dropFromSlot_legal h .release
  · exact h.withPending none fun hn => absurd rfl hn
  · next hs => exact h.withSlot _ fun _ => h.moves (.inr (.inl hs))
  all_goals exact h

theorem release_legal (h : LockLegal l) (p : DoorPolicy) (w : Bool) (q : Requester) :
    LockLegal (release p w q l).1.lock := by
  unfold release
  split
  · exact h
  · next hs => exact h.withSlot _ fun _ => h.moves (.inl hs)
  · next hs =>
    unfold releaseEngaged
    split
    · exact beginRelease_legal h hs
    · split
      · exact h.withPending _ fun _ => hs
      · exact h
  · exact dropFromSlot_legal h .engage
  all_goals exact h

theorem request_legal (h : LockLegal l) (p : DoorPolicy) (w : Bool) (q : LockRequest) :
    LockLegal (request p w q l).1.lock := by
  unfold request
  split
  · exact engage_legal h _
  · exact release_legal h ..

/-- A lock at the end of its motion is legal once the request in its slot is taken (R62). -/
theorem takeSlot_legal (h : LockLegal { l with slot := none }) (p : DoorPolicy) : LockLegal (takeSlot p l).lock := by
  unfold takeSlot
  split
  · next hs =>
    have e : { l with slot := none } = l := by rw [← hs]
    exact e ▸ h
  · exact request_legal h ..

theorem dropHostRequests_legal (h : LockLegal l) : LockLegal (dropHostRequests l) := by
  refine (h.withSlot (match l.slot with | some ⟨_, .host⟩ => none | x => x) fun hx => h.slot fun hn => ?_).withPending
    (if l.releasePending = some .host then none else l.releasePending) fun hx => h.pending fun hn => ?_
  · rw [hn] at hx
    exact hx rfl
  · rw [hn] at hx
    exact hx rfl

theorem bandChange_legal (h : LockLegal l) (p : DoorPolicy) : LockLegal (bandChange p l).lock := by
  unfold bandChange
  split
  · next hs => exact beginRelease_legal h hs.1
  · exact h

/-! ## Switches and the motion timer -/

theorem endEngaged_legal (h : LockLegal l) (hs : l.state = .engaging) (p : DoorPolicy) :
    LockLegal (endEngaged p l).lock :=
  takeSlot_legal (l := (rest .engaged l).lock)
    (rest_legal (l := { l with slot := none }) (.inr rfl) (fun _ => rfl) (h.notStuck (by rw [hs]; nofun)) rfl
      (h.levels (by rw [hs]; nofun))) p

theorem endReleased_legal (h : LockLegal l) (hs : l.state = .releasing ∨ l.state = .returning) (p : DoorPolicy) :
    LockLegal (endReleased p l).lock := by
  have hn : ∀ x, x ≠ .releasing → x ≠ .returning → l.state ≠ x := by
    rintro x h1 h2 rfl
    exact hs.elim h1 h2
  exact takeSlot_legal (l := (rest .released l).lock)
    (rest_legal (l := { l with slot := none }) (.inl rfl)
      (fun hp => absurd (h.noPending (hn _ nofun nofun)) hp) (h.notStuck (hn _ nofun nofun)) rfl
      (h.levels (hn _ nofun nofun))) p

theorem endReturning_legal (h : LockLegal l) (hs : l.state = .returning) (p : DoorPolicy) :
    LockLegal (endReturning p l).lock := by
  unfold endReturning
  split
  · refine endReleased_legal (l := (latch .jam l).lock) (latch_legal (f := .jam) h nofun) (.inr ?_) p
    unfold latch
    split <;> exact hs
  · exact endReleased_legal h (.inr hs) p

theorem beginJamReturn_legal (h : LockLegal l) (hs : l.state = .engaging) : LockLegal (beginJamReturn l).lock :=
  run_legal (.inl rfl) nofun (h.noPending (by rw [hs]; nofun)) (h.notStuck (by rw [hs]; nofun))
    (h.levels (by rw [hs]; nofun))

/-- A slip moves the release that waits into the slot of the motion that it begins (R65). -/
theorem slip_legal (h : LockLegal l) (hs : l.state = .engaged) : LockLegal (slip l).lock := by
  have hf := h.notStuck (by rw [hs]; nofun)
  have hl := h.levels (by rw [hs]; nofun)
  have pending : (pendingToSlot l).releasePending = none ∧ (pendingToSlot l).faults = l.faults
      ∧ (pendingToSlot l).levels = l.levels := by
    unfold pendingToSlot
    split
    · exact ⟨rfl, rfl, rfl⟩
    · next hp => exact ⟨hp, rfl, rfl⟩
  generalize hm : (latch .slip (pendingToSlot l)).lock = m
  have latched : m.releasePending = none ∧ m.faults.stuck = false ∧ m.levels = l.levels := by
    obtain ⟨h1, h2, h3⟩ := pending
    rw [← hm]
    unfold latch
    split
    · exact ⟨h1, by rw [← h2] at hf; exact hf, h3⟩
    · exact ⟨h1, by rw [← h2] at hf; exact hf, h3⟩
  obtain ⟨h1, h2, h3⟩ := latched
  have hl' : m.allPresent = true := by unfold allPresent; rw [h3]; exact hl
  unfold slip LockStep.andThen
  dsimp only
  rw [hm]
  split
  · exact run_legal (.inr (.inr rfl)) nofun h1 h2 hl'
  · exact run_legal (.inr (.inl rfl)) nofun h1 h2 hl'

/-- The state that the levels give a lock which holds no request and is not stuck (R69, R70). -/
theorem derive_legal (hp : l.releasePending = none) (hq : l.slot = none) (hf : l.faults.stuck = false)
    (hl : l.allPresent = true) : LockLegal (derive l).lock := by
  unfold derive
  dsimp only
  split
  · exact jamFast_legal hl
  · split
    · exact rest_legal (.inr rfl) (fun _ => rfl) hf hq hl
    · split
      · exact rest_legal (.inl rfl) (fun h => absurd hp h) hf hq hl
      · split
        · exact run_legal (.inr (.inl rfl)) nofun hp hf hl
        · exact run_legal (.inr (.inr rfl)) nofun hp hf hl

theorem adopt_legal (h : LockLegal l) (hs : l.state = .notAdopted) : LockLegal (adopt l).lock := by
  unfold adopt
  split
  · next hl =>
    exact derive_legal (h.noPending (by rw [hs]; nofun))
      (h.noSlot (by rw [hs]; nofun) (by rw [hs]; nofun) (by rw [hs]; nofun)) (h.notStuck (by rw [hs]; nofun)) hl
  · exact h

theorem react_legal (h : LockLegal l) (p : DoorPolicy) (sw : Switch) (x : Bool) :
    LockLegal (react p sw x l).lock := by
  unfold react
  split
  · next hs => exact endEngaged_legal h hs p
  · next hs => exact beginJamReturn_legal h hs
  · exact latch_legal h nofun
  · next hs => exact slip_legal h hs
  · next hs => exact endReleased_legal h (.inl hs) p
  · next hs => exact endReturning_legal h hs p
  · exact h

theorem switchChange_legal (h : LockLegal l) (p : DoorPolicy) (sw : Switch) (x : Bool) :
    LockLegal (switchChange p sw x l).lock := by
  have h' := withLevel_legal h sw x
  unfold switchChange
  dsimp only
  split
  · next hs => exact adopt_legal h' hs
  · exact h'
  · next hn _ =>
    split
    · exact jamFast_legal (allPresent_set (h.levels hn) sw x)
    · exact react_legal h' p sw x

theorem motionExpiry_legal (h : LockLegal l) : LockLegal (motionExpiry l).lock := by
  unfold motionExpiry
  split
  · exact h
  · split
    · next hs =>
      split
      · exact jamFast_legal (h.levels (by rw [hs]; nofun))
      · exact beginJamReturn_legal h hs
    · next hs => exact jamFast_legal (h.levels (by rw [hs]; nofun))
    · next hs => exact jamFast_legal (h.levels (by rw [hs]; nofun))
    · exact h

/-! ## CLEAR and time -/

theorem clearStuck_legal (h : LockLegal l) : LockLegal (clearStuck l).lock := by
  unfold clearStuck
  split
  · next hf =>
    have hl := h.levels (by rw [h.stuck.mp hf]; nofun)
    have hu : (unlatch .stuck { l with slot := none, releasePending := none }).lock
        = { l with slot := none, releasePending := none, faults := l.faults.put false .stuck } := by
      unfold unlatch
      rw [if_pos (show ({ l with slot := none, releasePending := none } : LockCtl).faults.has .stuck = true from hf)]
    unfold LockStep.andThen
    rw [hu]
    exact derive_legal rfl rfl rfl hl
  · exact h

theorem clear_legal (h : LockLegal l) : LockLegal (clear l).lock := by
  refine clearStuck_legal ?_
  unfold LockStep.andThen
  dsimp only
  have h2 := unlatch_legal (unlatch_legal (f := .jam) h nofun) (f := .slip) nofun
  unfold clearBreach
  split
  · exact unlatch_legal h2 nofun
  · exact h2

theorem count_legal (h : LockLegal l) : LockLegal l.count where
  motion := by
    have hm := h.motion
    unfold MotionLegal at hm ⊢
    unfold count
    obtain ⟨x, m, k, p, q, ls, b, fs⟩ := l
    cases k <;> cases x <;> cases m <;> exact hm
  pending := h.pending
  stuck := h.stuck
  slot hs := by
    have := h.slot hs
    unfold count
    cases hm : l.motion with
    | none => exact absurd hm this
    | some m => exact nofun
  levels := h.levels

end LockCtl

end Sys2Proof.Machine
end

section
/-!
PROOFS. The fan's demands and the locks through the work of a Cycle Engine (R52, R151, R152): whatever changes a fan
request is announced, and the engine asks its lock for nothing but legal motions.
-/

namespace Sys2Proof.Machine

open Sys2Proof State

/-- The fan follows its demands, and the locks are as R52 says, in the second state where they do in the first. -/
structure FanLocksKept (s t : State) : Prop where
  fan : s.FanFollows → t.FanFollows
  locks : s.LocksLegal → t.LocksLegal

namespace State

variable {s t : State}

/-- The fields in force are judged on the tables, the bands and the channels alone (R40). -/
theorem bandFields_congr (ht : t.tables.bands = s.tables.bands) (hb : t.bandIndex = s.bandIndex)
    (hc : t.channels = s.channels) (c : Cavity) : t.bandFields c = s.bandFields c := by
  unfold bandFields bandTable bandNow isValid channel
  rw [ht, hb, hc]

/-- The fan follows the bands, the fan requests, the FRONT channel and TRIP, and nothing else. -/
theorem FanFollows.congr (h : s.FanFollows) (fan : t.fan = s.fan) (bands : ∀ c, t.bandFields c = s.bandFields c)
    (requests : ∀ c, (t.engine c).fanRequest = (s.engine c).fanRequest)
    (front : t.isValid .front = s.isValid .front) (trip : t.sup.trip = s.sup.trip) : t.FanFollows where
  level := fan ▸ h.level
  cavity c := by rw [fan, bands, requests, h.cavity]
  front := by rw [fan, front, h.front]
  trip := by rw [fan, trip, h.trip]

/-- The Fan Controller forms its demands and its level from the state as it stands (R151 to R153, R155). -/
theorem fanSync_follows (s : State) : s.fanSync.FanFollows := by
  have level : s.fanSync.fan.level = s.gatherDemands.greatest := by
    show s.gatherDemands.relevel.level = _
    rw [Fan.relevel_rest]
  have demands : s.fanSync.fan = { s.gatherDemands with
      level := s.fanSync.fan.level, watch := s.fanSync.fan.watch, grace := s.fanSync.fan.grace,
      pulse := s.fanSync.fan.pulse } := by
    show s.gatherDemands.relevel = _
    conv_lhs => rw [Fan.relevel_rest]
    rw [level]
    rfl
  refine ⟨?_, fun c => ?_, ?_, ?_⟩ <;> rw [demands]
  · exact level
  · cases c <;> rfl
  · rfl
  · rfl

theorem announce_follows (s : State) : s.announce.FanFollows := fanSync_follows _

theorem LocksLegal.congr (h : s.LocksLegal) (locks : t.locks = s.locks) : t.LocksLegal := fun c => by
  unfold lock
  rw [locks]
  exact h c

theorem LocksLegal.applyLock {c : Cavity} {x : LockStep} (h : s.LocksLegal) (hx : LockLegal x.lock) :
    (s.applyLock c x).LocksLegal := fun d => by
  by_cases hd : d = c
  · subst hd
    rw [applyLock_lock_same]
    exact hx
  · rw [applyLock_lock_ne hd]
    exact h d

theorem LocksLegal.askLock {c : Cavity} {w : Bool} {q : LockRequest} (h : s.LocksLegal) :
    (s.askLock c w q).1.LocksLegal := h.applyLock (LockCtl.request_legal (h c) ..)

theorem LocksLegal.announce (h : s.LocksLegal) : s.announce.LocksLegal := h.congr (Settles.announce s).locks

end State

namespace FanLocksKept

variable {s t u : State} {c : Cavity}

theorem refl (s : State) : FanLocksKept s s := ⟨id, id⟩

theorem trans (h : FanLocksKept s t) (k : FanLocksKept t u) : FanLocksKept s u := ⟨k.fan ∘ h.fan, k.locks ∘ h.locks⟩

/-- Grants that are withdrawn and drive states that follow them touch neither. -/
theorem ofSettles (h : Settles s t) (fan : t.fan = s.fan) : FanLocksKept s t where
  fan k := k.congr fan (bandFields_congr (by rw [h.tables]) h.bandIndex h.channels)
    (fun c => by unfold engine; rw [h.engines]) (isValid_congr h.channels _) (by rw [h.sup])
  locks k := k.congr h.locks

/-- What is announced follows the fan's demands anew. -/
theorem announced (h : s.LocksLegal → t.LocksLegal) : FanLocksKept s t.announce :=
  ⟨fun _ => announce_follows t, fun k => (h k).announce⟩

/-- A change of an engine that leaves its fan request. -/
theorem modEngine {fn : Engine → Engine} (h : (fn (s.engine c)).fanRequest = (s.engine c).fanRequest) :
    FanLocksKept s (s.modEngine c fn) where
  fan k := k.congr rfl (fun _ => rfl) (fun d => by
    by_cases hd : d = c
    · subst hd
      rw [engine_modEngine_same, h]
    · rw [engine_modEngine_ne _ hd]) rfl rfl
  locks := id

theorem post (s : State) (b : Block) (x : EventBody) : FanLocksKept s (s.post b x) :=
  ⟨fun k => k.congr rfl (fun _ => rfl) (fun _ => rfl) rfl rfl, id⟩

theorem applyLock {x : LockStep} (h : LockLegal (s.lock c) → LockLegal x.lock) :
    FanLocksKept s (s.applyLock c x) where
  fan k := by
    obtain ⟨y, hy⟩ := applyLock_rest c x s
    rw [hy]
    exact k.congr rfl (fun _ => rfl) (fun _ => rfl) rfl rfl
  locks k := k.applyLock (h (k c))

theorem toIdle (c : Cavity) (r : CycleResult) (k : Condition) (s : State) : FanLocksKept s (s.toIdle c r k) :=
  announced id

theorem judgeSafeCool (c : Cavity) (s : State) : FanLocksKept s (s.judgeSafeCool c) := by
  unfold State.judgeSafeCool
  dsimp only
  split
  · exact toIdle ..
  · exact refl s

theorem abortAsk_locks (h : s.LocksLegal) : (s.abortAsk c).LocksLegal := by
  unfold State.abortAsk
  split
  · exact h.askLock
  · exact h.askLock
  · exact h.askLock
  · exact h

theorem abortRecord_locks {k : Condition} (h : s.LocksLegal) : (s.abortRecord c k).LocksLegal := by
  unfold State.abortRecord
  dsimp only
  split
  · exact h
  · exact h

/-- An abort announces the fan request of SAFE_COOL, and asks its lock for a release alone (R110). -/
theorem abortCycle (c : Cavity) (k : Condition) (s : State) : FanLocksKept s (s.abortCycle c k) := by
  unfold State.abortCycle
  split
  · exact (announced fun h => abortAsk_locks (s := State.announce _)
      (LocksLegal.announce (s := State.modEngine c _ _) (abortRecord_locks h))).trans (judgeSafeCool ..)
  · exact refl s

theorem complete (c : Cavity) (s : State) : FanLocksKept s (s.complete c) := toIdle ..

theorem hold (c : Cavity) (s : State) : FanLocksKept s (s.hold c) := announced id

theorem askEngage_locks (h : s.LocksLegal) : (s.askEngage c).1.LocksLegal :=
  LocksLegal.askLock (w := false) (q := ⟨.engage, .engine⟩) h

theorem entryAsk_locks {r : SegmentRecord} (h : s.LocksLegal) : (s.entryAsk c r).1.LocksLegal := by
  unfold State.entryAsk
  split
  · exact askEngage_locks h
  · exact h.askLock
  · exact h

theorem enterSegment (c : Cavity) (i : Nat) (r : SegmentRecord) (s : State) :
    FanLocksKept s (s.enterSegment c i r).1 :=
  announced fun h => entryAsk_locks (s := State.modEngine c _ s) h

theorem postDone (c : Cavity) (i : Nat) (s : State) : FanLocksKept s (s.postDone c i) := post ..

/-- Each segment entered is announced, and so is the end of the cycle. -/
theorem runFrom (c : Cavity) (l : List SegmentRecord) (i : Nat) (s : State) : FanLocksKept s (s.runFrom c l i) := by
  induction l generalizing i s with
  | nil => exact refl s
  | cons r rest ih =>
    have entered := enterSegment c i r s
    unfold State.runFrom
    dsimp only
    split
    · exact entered
    · have done := entered.trans (postDone c i _)
      split
      · exact done.trans (complete ..)
      · split
        · exact done.trans (hold ..)
        · exact done.trans (ih ..)
    · exact entered.trans (abortCycle ..)

theorem endDone (c : Cavity) (i : Nat) (s : State) : FanLocksKept s (s.endDone c i) := by
  have done := postDone c i s
  unfold State.endDone
  dsimp only
  split
  · exact done.trans (complete ..)
  · split
    · exact done.trans (hold ..)
    · exact done.trans (runFrom ..)

theorem judge (c : Cavity) (k : Causes) (s : State) : FanLocksKept s (s.judge c k) := by
  unfold State.judge
  split
  · split
    · split
      · exact refl s
      · exact endDone ..
      · exact abortCycle ..
    · exact refl s
  · split
    · exact abortCycle ..
    · exact refl s
  · split
    · exact abortCycle ..
    · exact refl s
  · exact refl s

theorem onLockChanged (c : Cavity) (a b : LockState) (s : State) : FanLocksKept s (s.onLockChanged c a b) := by
  unfold State.onLockChanged
  split
  · exact judgeSafeCool ..
  · exact refl s
  · split
    · split
      · exact (announced askEngage_locks).trans (judge ..)
      · exact judge ..
    · exact judge ..

theorem onLockNotice (c : Cavity) (n : LockNotice) (s : State) : FanLocksKept s (s.onLockNotice c n) := by
  unfold State.onLockNotice
  split
  · exact onLockChanged ..
  · exact judge ..
  · exact judge ..
  · split
    · exact judge ..
    · exact refl s
  · exact refl s

end FanLocksKept

end Sys2Proof.Machine
end

section
/-!
PROOFS. What stands through the acts of the blocks within a command: the locks, the table locks and the Event Queue
(R49, R52, R169), the fan and its demands (R151 to R155), and drive enable with heat inhibit (R162, R163). An act that
moves a condition of the outputs ends with the recomputation that makes them follow it.
-/

namespace Sys2Proof.Machine

open Sys2Proof State

/-- What stays of a part whose channels, bands and Event Queue an act leaves alone: the locks and the table locks are
as they should be where they were. -/
structure PartKept (s t : State) : Prop where
  tables : t.tables = s.tables
  channels : t.channels = s.channels
  bandIndex : t.bandIndex = s.bandIndex
  queue : t.events.queue = s.events.queue
  locks : s.LocksLegal → t.LocksLegal
  tableLocks : s.TableLockFollows → t.TableLockFollows

/-- With these, the fan follows its demands where it did. -/
structure FanKept (s t : State) : Prop extends PartKept s t where
  fan : s.FanFollows → t.FanFollows

/-- With these, drive enable and heat inhibit follow their conditions where they did. -/
structure OutputsKept (s t : State) : Prop extends FanKept s t where
  enable : s.EnableFollows → t.EnableFollows

variable {s t u : State}

theorem PartKept.trans (h : PartKept s t) (k : PartKept t u) : PartKept s u :=
  ⟨k.tables.trans h.tables, k.channels.trans h.channels, k.bandIndex.trans h.bandIndex, k.queue.trans h.queue,
    k.locks ∘ h.locks, k.tableLocks ∘ h.tableLocks⟩

theorem FanKept.trans (h : FanKept s t) (k : FanKept t u) : FanKept s u :=
  ⟨h.toPartKept.trans k.toPartKept, k.fan ∘ h.fan⟩

/-- A cavity's engine and table lock decide whether its table lock follows (R49). -/
theorem State.TableLockFollows.congr (h : s.TableLockFollows) (locked : t.tableLocks = s.tableLocks)
    (engines : ∀ c, (t.engine c).state = .idle ↔ (s.engine c).state = .idle) : t.TableLockFollows := fun c => by
  rw [locked, Ne, engines c]
  exact h c

/-- An act that leaves the locks, the engines and the table locks, the fan's own items and TRIP. -/
theorem FanKept.of_eq (tables : t.tables = s.tables) (channels : t.channels = s.channels)
    (bandIndex : t.bandIndex = s.bandIndex) (queue : t.events.queue = s.events.queue) (locks : t.locks = s.locks)
    (tableLocks : t.tableLocks = s.tableLocks) (engines : t.engines = s.engines) (fan : t.fan = s.fan)
    (trip : t.sup.trip = s.sup.trip) : FanKept s t where
  tables := tables
  channels := channels
  bandIndex := bandIndex
  queue := queue
  locks h := h.congr locks
  tableLocks h := h.congr tableLocks fun c => by unfold engine; rw [engines]
  fan h := h.congr fan (bandFields_congr (by rw [tables]) bandIndex channels) (fun c => by unfold engine; rw [engines])
    (isValid_congr channels _) trip

/-- The conditions of drive enable and heat inhibit, and these outputs. -/
structure ConditionsKept (s t : State) : Prop where
  readiness : t.sup.readiness = s.sup.readiness
  trip : t.sup.trip = s.sup.trip
  overheat : t.sup.overheat = s.sup.overheat
  runaway : t.sup.runaway = s.sup.runaway
  driveEnable : t.sup.driveEnable = s.sup.driveEnable
  inhibit : t.sup.inhibit = s.sup.inhibit
  elementWelded : t.drive.elementWelded = s.drive.elementWelded
  masterWelded : t.drive.masterWelded = s.drive.masterWelded
  stall : t.fan.stall = s.fan.stall
  frontHotInhibit : t.fan.frontHotInhibit = s.fan.frontHotInhibit
  front : t.isFailed .front = s.isFailed .front

theorem ConditionsKept.enable (k : ConditionsKept s t) (h : s.EnableFollows) : t.EnableFollows := by
  unfold EnableFollows
  rw [k.readiness, k.trip, k.overheat, k.runaway, k.driveEnable, k.inhibit, k.elementWelded, k.masterWelded, k.stall,
    k.frontHotInhibit, k.front]
  exact h

namespace OutputsKept

variable {c : Cavity}

theorem trans (h : OutputsKept s t) (k : OutputsKept t u) : OutputsKept s u :=
  ⟨h.toFanKept.trans k.toFanKept, k.enable ∘ h.enable⟩

theorem refl (s : State) : OutputsKept s s := ⟨.of_eq rfl rfl rfl rfl rfl rfl rfl rfl rfl, id⟩

theorem ofConditions (h : FanKept s t) (k : ConditionsKept s t) : OutputsKept s t := ⟨h, k.enable⟩

theorem forEach {α : Type} (l : List α) (op : α → State → State) (h : ∀ x s, OutputsKept s (op x s)) (s : State) :
    OutputsKept s (Machine.forEach l op s) := by
  induction l generalizing s with
  | nil => exact refl s
  | cons x xs ih => exact (h x s).trans (ih (op x s))

theorem onlyIf (p : Bool) (op : State → State) (h : ∀ s, OutputsKept s (op s)) (s : State) :
    OutputsKept s (Machine.onlyIf p op s) := by
  unfold Machine.onlyIf
  split
  · exact h s
  · exact refl s

/-! ### Grants, drive states and the fan -/

theorem ofSettles_part (h : Settles s t) : PartKept s t where
  tables := h.tables
  channels := h.channels
  bandIndex := h.bandIndex
  queue := by rw [h.events]
  locks k := k.congr h.locks
  tableLocks k := k.congr h.tableLocks fun c => by unfold engine; rw [h.engines]

theorem ofSettles (h : Settles s t) (fan : t.fan = s.fan) : OutputsKept s t :=
  ⟨⟨ofSettles_part h, (FanLocksKept.ofSettles h fan).fan⟩, (SupKept.ofSettles h).enableFollows⟩

theorem review (s : State) : OutputsKept s s.review := ofSettles (.review s) (review_fan s)

theorem withdrawCavity (c : Cavity) (s : State) : OutputsKept s (s.withdrawCavity c) :=
  forEach _ _ (fun e s => ofSettles (.withdraw e s) (withdraw_fan e s)) s

theorem fanSync (s : State) : OutputsKept s s.fanSync :=
  ⟨⟨ofSettles_part (.fanSync s), fun _ => fanSync_follows s⟩, (SupKept.ofSettles (.fanSync s)).enableFollows⟩

theorem announce (s : State) : OutputsKept s s.announce := (review s).trans (fanSync _)

theorem post (s : State) (b : Block) (x : EventBody) : OutputsKept s (s.post b x) :=
  ofConditions (.of_eq rfl rfl rfl rfl rfl rfl rfl rfl rfl) ⟨rfl, rfl, rfl, rfl, rfl, rfl, rfl, rfl, rfl, rfl, rfl⟩

/-! ### The engines -/

/-- An engine that acts keeps its table lock in step with its state (R49). -/
theorem tableLock_of_engine (h : EngineActs c s t) (k : s.TableLockFollows) : t.TableLockFollows := fun d => by
  by_cases hd : d = c
  · subst hd
    have before := k d
    by_cases idle : (s.engine d).state = .idle
    · obtain ⟨still, unchanged⟩ := h.idle idle
      rw [unchanged, still, before, idle]
    · rw [h.tableLock idle, before.mpr idle]
      simp
  · rw [h.otherTableLock d hd, h.otherEngine d hd]
    exact k d

theorem ofEngine (h : EngineActs c s t) (q : Quiet s t) (k : FanLocksKept s t) : OutputsKept s t where
  tables := q.tables
  channels := h.channels
  bandIndex := h.bandIndex
  queue := q.queue
  locks := k.locks
  tableLocks := tableLock_of_engine h
  fan := k.fan
  enable := (SupKept.ofEngine h.toEngineFrame q).enableFollows

theorem judge (c : Cavity) (k : Causes) (s : State) : OutputsKept s (s.judge c k) :=
  ofEngine (.judge ..) (.judge ..) (.judge ..)

theorem abortCycle (c : Cavity) (k : Condition) (s : State) : OutputsKept s (s.abortCycle c k) :=
  ofEngine (.abortCycle ..) (.abortCycle ..) (.abortCycle ..)

theorem onLockNotice (c : Cavity) (n : LockNotice) (s : State) : OutputsKept s (s.onLockNotice c n) :=
  ofEngine (.onLockNotice ..) (.onLockNotice ..) (.onLockNotice ..)

theorem runFrom (l : List SegmentRecord) (i : Nat) (h : (s.engine c).state = .running) :
    OutputsKept s (s.runFrom c l i) := ofEngine (.runFrom _ _ _ _ h) (.runFrom ..) (.runFrom ..)

/-- A change of an engine that neither brings it to IDLE nor out of it, and leaves its fan request. -/
theorem modEngine {fn : Engine → Engine} (request : (fn (s.engine c)).fanRequest = (s.engine c).fanRequest)
    (idle : (fn (s.engine c)).state = .idle ↔ (s.engine c).state = .idle) : OutputsKept s (s.modEngine c fn) := by
  refine ofConditions ⟨⟨rfl, rfl, rfl, rfl, id, fun k => k.congr rfl fun d => ?_⟩, (FanLocksKept.modEngine request).fan⟩
    ⟨rfl, rfl, rfl, rfl, rfl, rfl, rfl, rfl, rfl, rfl, rfl⟩
  by_cases hd : d = c
  · subst hd
    rw [engine_modEngine_same, idle]
  · rw [engine_modEngine_ne _ hd]

theorem kindWork_frame (s : State) (c : Cavity) (r : SegmentRecord) (e : Engine) :
    (s.kindWork c r e).fanRequest = e.fanRequest ∧ (s.kindWork c r e).state = e.state := by
  unfold kindWork
  split
  · unfold advanceSetpoint
    split <;> exact ⟨rfl, rfl⟩
  · unfold soakWork
    split
    · split <;> exact ⟨rfl, rfl⟩
    · exact ⟨rfl, rfl⟩
  · exact ⟨rfl, rfl⟩

theorem runningWork (c : Cavity) (s : State) : OutputsKept s (s.runningWork c) := by
  unfold State.runningWork
  split
  · next r _ =>
    obtain ⟨request, state⟩ := kindWork_frame s c r
      { s.engine c with segmentElapsed := bump32 (s.engine c).segmentElapsed }
    exact modEngine request (by rw [state])
  · exact refl s

theorem holdWork (c : Cavity) (s : State) : OutputsKept s (s.holdWork c) := by
  have counted : OutputsKept s (s.modEngine c fun e => { e with holdCount := some ((s.engine c).holdCount.getD 0 - 1) }) :=
    modEngine rfl .rfl
  unfold State.holdWork
  dsimp only
  split
  · exact counted.trans (abortCycle ..)
  · exact counted

theorem tickEngine (c : Cavity) (s : State) : OutputsKept s (s.tickEngine c) := by
  have counted : OutputsKept s (s.modEngine c countTick) := modEngine rfl .rfl
  unfold State.tickEngine
  dsimp only
  split
  · exact (counted.trans (runningWork ..)).trans (judge ..)
  · exact counted.trans (holdWork ..)
  · exact counted.trans (holdWork ..)
  · exact counted

theorem engineReadsCavity (c : Cavity) (newF : Bool) (s : State) : OutputsKept s (s.engineReadsCavity c newF) := by
  refine (onlyIf _ _ (fun u => ?_) s).trans (judge ..)
  unfold raisePeak
  split
  · split
    · exact modEngine rfl .rfl
    · exact refl u
  · exact refl u

/-! ### The cycle requests -/

theorem allStop (s : State) : OutputsKept s (allStop s) := forEach _ _ (fun c s => abortCycle c .hostAbort s) s

theorem systemAbort (s : State) : OutputsKept s s.systemAbort := forEach _ _ (fun c s => abortCycle c .system s) s

theorem pauseCycle (h : (s.engine c).state = .running) : OutputsKept s (pauseCycle c s) :=
  (modEngine rfl (by rw [h]; exact ⟨nofun, nofun⟩)).trans (announce _)

theorem resumeItems (h : (s.engine c).state = .paused) : OutputsKept s (resumeItems c s) :=
  (modEngine rfl (by rw [h]; exact ⟨nofun, nofun⟩)).trans (announce _)

theorem stepCycle (i : Nat) (h : (s.engine c).state = .held) : OutputsKept s (stepCycle c i s) :=
  (modEngine rfl (by rw [h]; exact ⟨nofun, nofun⟩)).trans (runFrom _ _ (by rw [engine_modEngine_same]))

/-- START sets the engine RUNNING and the table lock together, and takes the host's requests from the lock (R89). -/
theorem startItems (c : Cavity) (x : Bool) (s : State) : OutputsKept s (s.startItems c x) := by
  have engines : ∀ d, d ≠ c → (s.startItems c x).engine d = s.engine d := fun d hd =>
    PerCavity.get_set_ne _ _ hd
  have running : ((s.startItems c x).engine c).state = .running := by
    simp [State.startItems, engine, setLock, setTableLock, State.modEngine, setEngine]
  have requests : ∀ d, ((s.startItems c x).engine d).fanRequest = (s.engine d).fanRequest := fun d => by
    by_cases hd : d = c
    · subst hd
      simp [State.startItems, engine, setLock, setTableLock, State.modEngine, setEngine]
    · rw [engines d hd]
  refine ofConditions ⟨⟨rfl, rfl, rfl, rfl, fun k d => ?_, fun k d => ?_⟩,
    fun k => k.congr rfl (fun _ => rfl) requests rfl rfl⟩ ⟨rfl, rfl, rfl, rfl, rfl, rfl, rfl, rfl, rfl, rfl, rfl⟩
  · by_cases hd : d = c
    · subst hd
      have dropped : (s.startItems d x).lock d = LockCtl.dropHostRequests (s.lock d) := PerCavity.get_set_same ..
      rw [dropped]
      exact LockCtl.dropHostRequests_legal (k d)
    · have same : (s.startItems c x).lock d = s.lock d := PerCavity.get_set_ne _ _ hd
      rw [same]
      exact k d
  · by_cases hd : d = c
    · subst hd
      have locked : (s.startItems d x).tableLocks.get d = true := PerCavity.get_set_same ..
      rw [locked, running]
      decide
    · have same : (s.startItems c x).tableLocks.get d = s.tableLocks.get d := PerCavity.get_set_ne _ _ hd
      rw [same, engines d hd]
      exact k d

theorem startCycle (c : Cavity) (x : Bool) (s : State) : OutputsKept s (s.startCycle c x) := by
  have items := startItems c x s
  have running : ((s.startItems c x).engine c).state = .running := by
    simp [State.startItems, engine, setLock, setTableLock, State.modEngine, setEngine]
  have failed (k : Condition) : OutputsKept (s.startItems c x) (failFirst c k (s.startItems c x)) :=
    (modEngine rfl .rfl).trans (abortCycle ..)
  unfold State.startCycle
  dsimp only
  split
  · exact items.trans (failed _)
  · split
    · exact items.trans (failed _)
    · exact items.trans (runFrom _ _ running)

end OutputsKept

end Sys2Proof.Machine
end

section
/-!
PROOFS. The outputs through the Supervisor, the relays and the locks (R145, R162 to R166): each act that moves a
condition of drive enable or of heat inhibit ends with their recomputation.
-/

namespace Sys2Proof.Machine

open Sys2Proof State

variable {s t u : State} {c : Cavity}

/-! ### The Supervisor's own items -/

theorem FanKept.setSup (s : State) (x : Sup) (trip : x.trip = s.sup.trip) : FanKept s (s.setSup x) :=
  .of_eq rfl rfl rfl rfl rfl rfl rfl rfl trip

theorem FanKept.setOverheat (c : Cavity) (x : Bool) (t : Timer) (s : State) :
    FanKept s (s.setOverheat c x t) := .setSup s _ rfl

theorem PartKept.setSup (s : State) (x : Sup) : PartKept s (s.setSup x) :=
  ⟨rfl, rfl, rfl, rfl, id, fun k => k.congr rfl fun _ => .rfl⟩

theorem PartKept.setFan (s : State) (x : Fan) : PartKept s (s.setFan x) :=
  ⟨rfl, rfl, rfl, rfl, id, fun k => k.congr rfl fun _ => .rfl⟩

/-- A change of the fan that leaves its level and its demands. -/
theorem FanKept.setFan (s : State) (x : Fan)
    (h : x = { x with
      level := s.fan.level, cavityDemand := s.fan.cavityDemand, frontInvalid := s.fan.frontInvalid,
      frontHotDemand := s.fan.frontHotDemand, tripDemand := s.fan.tripDemand }) : FanKept s (s.setFan x) := by
  refine ⟨.setFan s x, fun k => ⟨?_, fun d => ?_, ?_, ?_⟩⟩ <;> rw [show (s.setFan x).fan = _ from h]
  · exact k.level
  · exact k.cavity d
  · exact k.front
  · exact k.trip

theorem FanKept.setDrive (s : State) (x : Drive) : FanKept s (s.setDrive x) :=
  .of_eq rfl rfl rfl rfl rfl rfl rfl rfl rfl

/-- Drive enable and heat inhibit recomputed, whatever moved them before (R162, R163). -/
theorem FanKept.recomputed (h : FanKept s t) : OutputsKept s t.recompute := by
  have b := Background.recompute t
  have kept : FanKept t t.recompute := .of_eq (by rw [b.rest]) b.channels b.bandIndex (Quiet.recompute t).queue b.locks
    b.tableLocks b.engines (recompute_fan t) (by rw [b.sup])
  exact ⟨h.trans kept, fun _ => recompute_enableFollows t⟩

/-- A system fault recomputes them and aborts both cycles (R167). -/
theorem FanKept.faulted (h : FanKept s t) : OutputsKept s t.systemFault := h.recomputed.trans (.systemAbort _)

namespace OutputsKept

theorem recompute (s : State) : OutputsKept s s.recompute := (refl s).recomputed

theorem systemFault (s : State) : OutputsKept s s.systemFault := (refl s).faulted

theorem setSup (s : State) (x : Sup) (h : x = { s.sup with
      measured := x.measured, startupDone := x.startupDone, adopted := x.adopted,
      overheatTimer := x.overheatTimer }) : OutputsKept s (s.setSup x) := by
  refine ofConditions (.setSup s x (by rw [h])) ⟨?_, ?_, ?_, ?_, ?_, ?_, rfl, rfl, rfl, rfl, rfl⟩ <;>
    rw [show (s.setSup x).sup = _ from h]

theorem judgeReady (s : State) : OutputsKept s s.judgeReady := by
  unfold State.judgeReady
  split
  · exact refl s
  · split
    · exact ((FanKept.setSup s { s.sup with readiness := true } rfl).trans
        (post _ .supervisor .ready).toFanKept).recomputed
    · exact refl s

theorem markMeasured (ch : Channel) (s : State) : OutputsKept s (State.markMeasured ch s) := by
  unfold State.markMeasured
  split
  · exact refl s
  · exact (setSup s { s.sup with measured := s.sup.measured.set ch true } rfl).trans (judgeReady _)

theorem markAdopted (c : Cavity) (s : State) : OutputsKept s (State.markAdopted c s) :=
  (setSup s { s.sup with adopted := s.sup.adopted.set c true } rfl).trans (judgeReady _)

theorem startupDone (s : State) : OutputsKept s s.startupDone :=
  (setSup s { s.sup with startupDone := true } rfl).trans (judgeReady _)

theorem setOverheatTimer (c : Cavity) (x : Timer) (s : State) :
    OutputsKept s (setOverheat c (s.sup.overheat.get c) x s) := by
  have same : setOverheat c (s.sup.overheat.get c) x s
      = s.setSup { s.sup with overheatTimer := s.sup.overheatTimer.set c x } := by
    unfold setOverheat
    rw [PerCavity.set_get]
  rw [same]
  exact setSup _ _ rfl

/-! ### The relays -/

theorem relay (s : State) (r : Relay) (x : RelayEntry) : OutputsKept s (s.setRelay r x) :=
  ofConditions (.of_eq rfl rfl rfl rfl rfl rfl rfl rfl rfl) ⟨rfl, rfl, rfl, rfl, rfl, rfl, rfl, rfl, rfl, rfl, rfl⟩

/-- A change of the drive that leaves the welded faults. -/
theorem setDrive (s : State) (x : Drive) (element : x.elementWelded = s.drive.elementWelded)
    (master : x.masterWelded = s.drive.masterWelded) : OutputsKept s (s.setDrive x) :=
  ofConditions (.setDrive s x) ⟨rfl, rfl, rfl, rfl, rfl, rfl, element, master, rfl, rfl, rfl⟩

theorem setTest (x : RelayTest) (s : State) : OutputsKept s (s.setTest x) := setDrive s _ rfl rfl

theorem setAlloc (s : State) (x : Alloc) : OutputsKept s (s.setAlloc x) :=
  ofConditions (.of_eq rfl rfl rfl rfl rfl rfl rfl rfl rfl) ⟨rfl, rfl, rfl, rfl, rfl, rfl, rfl, rfl, rfl, rfl, rfl⟩

theorem restartSettle (r : Relay) (s : State) : OutputsKept s (State.restartSettle r s) := by
  unfold State.restartSettle
  split
  · exact relay ..
  · exact refl s

theorem restartAllSettle (s : State) : OutputsKept s s.restartAllSettle := forEach _ _ restartSettle s

theorem followMismatch (r : Relay) (s : State) : OutputsKept s (State.followMismatch r s) := by
  unfold State.followMismatch
  dsimp only
  split
  · split
    · exact refl s
    · split
      · exact relay ..
      · split
        · exact relay ..
        · exact refl s
  · exact refl s

theorem testDrivesOff (s : State) : OutputsKept s s.testDrivesOff := forEach _ _ (fun _ _ => relay ..) s

theorem startStep (s : State) : OutputsKept s s.startStep := by
  unfold State.startStep
  dsimp only
  split
  · exact refl s
  · exact (setTest ..).trans (relay ..)

theorem beginTest (o : TestOrigin) (s : State) : OutputsKept s (s.beginTest o) :=
  (((setTest ..).trans (forEach _ _ (fun r s => relay s r _) _)).trans (review _)).trans (startStep _)

theorem abandonTest (s : State) : OutputsKept s s.abandonTest := by
  unfold State.abandonTest
  split
  · exact ((setTest ..).trans (testDrivesOff _)).trans (restartAllSettle _)
  · exact refl s

/-! ### TRIP and the thermal checks -/

/-- Whatever moved the conditions of the outputs and the fan's demands before, a system fault and the demands formed
anew make all follow. -/
theorem ofTripped (h : PartKept s t) : OutputsKept s t.systemFault.fanSync :=
  ⟨⟨(h.trans (systemFault t).toPartKept).trans (fanSync _).toPartKept, fun _ => fanSync_follows _⟩,
    fun _ => (fanSync _).enable (systemFault_enableFollows t)⟩

theorem assertTrip (s : State) : OutputsKept s s.assertTrip := by
  unfold State.assertTrip
  split
  · exact refl s
  · exact ofTripped ((PartKept.setSup s { s.sup with trip := true }).trans
      ((post _ .supervisor (.faultRaised none .trip none)).trans (abandonTest _)).toPartKept)

theorem judgeOverheat (c : Cavity) (f : Int) (s : State) : OutputsKept s (State.judgeOverheat c f s) := by
  unfold State.judgeOverheat
  split
  · split
    · next hot =>
      split
      · have timed := setOverheatTimer c (some 0) s
        rw [hot] at timed
        exact timed
      · exact refl s
    · exact ((post s .supervisor (.faultRaised (some c) .overheat none)).toFanKept.trans (.setOverheat ..)).faulted
  · exact setOverheatTimer ..

theorem judgeRunawayOn (u : SlotUse) (c : Cavity) (s : State) : OutputsKept s (State.judgeRunawayOn u c s) := by
  unfold State.judgeRunawayOn
  split
  · split
    · exact ((FanKept.setSup s { s.sup with runaway := s.sup.runaway.set c true } rfl).trans
        (post _ .supervisor (.faultRaised (some c) .runaway none)).toFanKept).faulted
    · exact refl s
  · exact refl s

theorem overheatRunsOut (c : Cavity) (s : State) : OutputsKept s (State.overheatRunsOut c s) :=
  (setOverheatTimer ..).trans (assertTrip _)

theorem supReadsF (c : Cavity) (newF : Bool) (s : State) : OutputsKept s (State.supReadsF c newF s) := by
  unfold State.supReadsF
  split
  · split
    · exact judgeOverheat ..
    · exact refl s
  · exact refl s

/-- The Supervisor on FRONT recomputes in any case (R163, R167). -/
theorem supReadsFront (old : ChannelState) (s : State) : OutputsKept s (State.supReadsFront old s) := by
  unfold State.supReadsFront
  split
  · exact systemFault s
  · exact recompute s

theorem supReadsFront_enable (old : ChannelState) (s : State) : (State.supReadsFront old s).EnableFollows := by
  unfold State.supReadsFront
  split
  · exact systemFault_enableFollows s
  · exact recompute_enableFollows s

/-- The Fan Controller on FRONT forms its demands in any case (R153). -/
theorem fanReadsFront (newF : Bool) (s : State) : OutputsKept s (State.fanReadsFront newF s) := by
  unfold State.fanReadsFront
  split
  · next f _ =>
    split
    · have judged : FanKept s (State.fanSync (s.setFan (s.fan.judgeFront f))) :=
        ⟨(PartKept.setFan s (s.fan.judgeFront f)).trans (fanSync _).toPartKept, fun _ => fanSync_follows _⟩
      exact judged.recomputed
    · exact fanSync s
  · exact fanSync s

theorem fanReadsFront_follows (newF : Bool) (s : State) : (State.fanReadsFront newF s).FanFollows := by
  unfold State.fanReadsFront
  split
  · split
    · exact (recompute _).fan (fanSync_follows _)
    · exact fanSync_follows s
  · exact fanSync_follows s

/-! ### The locks -/

theorem applyLock {x : LockStep} (h : LockLegal (s.lock c) → LockLegal x.lock) : OutputsKept s (s.applyLock c x) := by
  have kept : FanLocksKept s (s.applyLock c x) := .applyLock h
  obtain ⟨y, hy⟩ := applyLock_rest c x s
  have queue : (s.applyLock c x).events.queue = s.events.queue := (Quiet.applyLock ..).queue
  refine ofConditions ⟨⟨?_, ?_, ?_, queue, kept.locks, fun k => k.congr ?_ fun d => ?_⟩, kept.fan⟩
    ⟨?_, ?_, ?_, ?_, ?_, ?_, ?_, ?_, ?_, ?_, ?_⟩ <;> rw [hy] <;> rfl

theorem carryNotice (c : Cavity) (n : LockNotice) (s : State) : OutputsKept s (State.carryNotice c n s) := by
  unfold State.carryNotice
  refine trans ?_ (onLockNotice ..)
  split
  · exact withdrawCavity ..
  · exact markAdopted ..
  · exact refl s

/-- A legal result of a lock event, carried to its readers. -/
theorem lockEvent {x : LockStep} (h : LockLegal (s.lock c) → LockLegal x.lock) : OutputsKept s (s.lockEvent c x) :=
  ((applyLock h).trans (review _)).trans (forEach _ _ (carryNotice c) _)

theorem bandReaderActs (c : Cavity) (r : BandReader) (s : State) : OutputsKept s (State.bandReaderActs c r s) := by
  cases r with
  | allocator => exact review s
  | fan => exact fanSync s
  | lock => exact lockEvent fun h => LockCtl.bandChange_legal h _

theorem bandKnown (c : Cavity) (s : State) : OutputsKept s (State.bandKnown c s) := forEach _ _ (bandReaderActs c) s

theorem switchMoves (c : Cavity) (sw : Switch) (x : Bool) (s : State) : OutputsKept s (State.switchMoves c sw x s) :=
  (ofConditions (.of_eq rfl rfl rfl rfl rfl rfl rfl rfl rfl) ⟨rfl, rfl, rfl, rfl, rfl, rfl, rfl, rfl, rfl, rfl, rfl⟩ :
    OutputsKept s (s.setSwitchPin c sw x)).trans (lockEvent fun h => LockCtl.switchChange_legal h _ sw x)

theorem motionExpires (c : Cavity) (s : State) : OutputsKept s (State.motionExpires c s) :=
  lockEvent fun h => LockCtl.motionExpiry_legal h

theorem clearLock (c : Cavity) (s : State) : OutputsKept s (State.clearLock c s) :=
  lockEvent fun h => LockCtl.clear_legal h

end OutputsKept

end Sys2Proof.Machine
end

section
/-!
PROOFS. The same through the events of the relays, the windows and the fan, and through what CLEAR clears at each owner.
-/

namespace Sys2Proof.Machine

open Sys2Proof State

variable {s t u : State} {c : Cavity}

namespace FanKept

theorem refl (s : State) : FanKept s s := (OutputsKept.refl s).toFanKept

theorem forEach {α : Type} (l : List α) (op : α → State → State) (h : ∀ x s, FanKept s (op x s)) (s : State) :
    FanKept s (Machine.forEach l op s) := by
  induction l generalizing s with
  | nil => exact refl s
  | cons x xs ih => exact (h x s).trans (ih (op x s))

/-! ### Healths and welded faults -/

theorem setHealth (r : Relay) (x : Health) (s : State) : FanKept s (State.setHealth r x s) :=
  (OutputsKept.relay ..).toFanKept

theorem latchWelded (r : Relay) (s : State) : FanKept s (State.latchWelded r s) := by
  cases r with
  | element e => exact setDrive ..
  | master => exact setDrive ..

theorem weld (r : Relay) (s : State) : FanKept s (State.weld r s) := by
  unfold State.weld
  split
  · exact latchWelded ..
  · exact ((setHealth ..).trans (latchWelded ..)).trans (OutputsKept.post ..).toFanKept

theorem applyPass (r : Relay) (s : State) : FanKept s (State.applyPass r s) := by
  have healthy := setHealth r .ok s
  cases r with
  | element e =>
    unfold State.applyPass
    dsimp only
    split
    · exact healthy.trans ((setDrive ..).trans (OutputsKept.post ..).toFanKept)
    · exact healthy
  | master => exact healthy

end FanKept

theorem OutputsKept.latchOpen (e : Element) (s : State) : OutputsKept s (State.latchOpen e s) := by
  unfold State.latchOpen
  split
  · exact refl s
  · exact (setDrive s { s.drive with elementOpen := s.drive.elementOpen.set e true } rfl rfl).trans (post ..)

namespace FanKept

theorem applyResult (r : Relay) (s : State) : FanKept s (State.applyResult r s) := by
  unfold State.applyResult
  split
  · exact applyPass ..
  · cases r with
    | element e => exact (setHealth ..).trans (OutputsKept.latchOpen ..).toFanKept
    | master => exact setHealth ..
  · exact weld ..
  · exact refl s

theorem clearWelded (before s : State) : FanKept s (State.clearWelded before s) := by
  refine ((setDrive ..).trans (forEach _ _ (fun r s => ?_) _)).trans (forEach _ _ (fun r s => ?_) _)
  · unfold healUnvisited
    split
    · exact refl s
    · exact setHealth ..
  · unfold postUnwelded
    split
    · split
      · exact (OutputsKept.post ..).toFanKept
      · exact refl s
    · split
      · exact (OutputsKept.post ..).toFanKept
      · exact refl s

/-- New healths and welded faults made known end with the outputs recomputed (R145, R162, R163). -/
theorem healthKnown (before : Bool × Bool) (h : FanKept s t) : OutputsKept s (State.healthKnown before t) := by
  unfold State.healthKnown
  split
  · unfold weldedLatched
    dsimp only
    split
    · exact h.faulted.trans (.assertTrip _)
    · exact h.faulted
  · exact h.recomputed

end FanKept

namespace OutputsKept

/-- Acts on what no standing condition reads. -/
theorem ofAside (h : t = { s with
    rates := t.rates, converter := t.converter, alloc := t.alloc, link := t.link, pins := t.pins, clock := t.clock,
    order := t.order, draws := t.draws, pending := t.pending }) : OutputsKept s t := by
  refine ofConditions (.of_eq ?_ ?_ ?_ ?_ ?_ ?_ ?_ ?_ ?_) ⟨?_, ?_, ?_, ?_, ?_, ?_, ?_, ?_, ?_, ?_,
    isFailed_congr (by rw [h]) _⟩ <;> rw [h]

/-! ### Relays -/

theorem setDriveState (e : Element) (on : Bool) (s : State) : OutputsKept s (s.setDriveState e on) :=
  ofSettles (.setDriveState ..) (judgeExpected_fan ..)

theorem mismatchExpires (r : Relay) (s : State) : OutputsKept s (State.mismatchExpires r s) := by
  unfold State.mismatchExpires
  refine (relay s r { s.relay r with mismatch := none }).trans ?_
  unfold judgeMismatch
  dsimp only
  split
  · split
    · exact ((relay ..).trans (latchOpen ..)).trans (recompute _)
    · exact refl _
  · split
    · exact refl _
    · exact (FanKept.weld ..).healthKnown _
  · exact refl _

theorem completeTest (s : State) : OutputsKept s s.completeTest := by
  unfold State.completeTest
  dsimp only
  refine FanKept.healthKnown _ ?_
  refine FanKept.trans ?_ (onlyIf _ _ startupDone _).toFanKept
  refine FanKept.trans ?_ (restartAllSettle _).toFanKept
  have applied := FanKept.forEach s.drive.test.visitList State.applyResult FanKept.applyResult s
  refine (applied.trans ?_).trans (setTest ..).toFanKept
  unfold Machine.onlyIf
  split
  · exact .clearWelded ..
  · exact .refl _

theorem endStep (x : TestStep) (reading : Bool) (s : State) : OutputsKept s (State.endStep x reading s) := by
  have fixed : OutputsKept s (fixResult x reading s) := setTest ..
  unfold State.endStep
  dsimp only
  split
  · exact fixed.trans (completeTest _)
  · exact fixed.trans (startStep _)

theorem startupTest (s : State) : OutputsKept s s.startupTest := by
  unfold State.startupTest
  split
  · exact (setTest ..).trans (startupDone _)
  · exact (testDrivesOff s).trans (beginTest ..)

theorem senseMoves (r : Relay) (x : Bool) (s : State) : OutputsKept s (State.senseMoves r x s) :=
  (((ofAside rfl : OutputsKept s (s.setContactPin r x)).trans (relay ..)).trans (onlyIf _ _ startupTest _)).trans
    (followMismatch ..)

theorem settleEnds (r : Relay) (s : State) : OutputsKept s (State.settleEnds r s) :=
  (relay ..).trans (followMismatch ..)

theorem takeReading (x : TestStep) (s : State) : OutputsKept s (State.takeReading x s) := (setTest ..).trans (relay ..)

theorem visit (s : State) : OutputsKept s s.visit :=
  ((ofAside rfl : OutputsKept s (s.setClock { s.clock with sinceVisit := 0 })).trans
    (onlyIf _ _ (fun _ => relay ..) _)).trans (setDrive _ _ rfl rfl)

/-! ### Windows -/

theorem startSlot (k : Nat) (s : State) : OutputsKept s (State.startSlot k s) := by
  refine ((setAlloc ..).trans (forEach _ _ (fun e s => setDriveState ..) _)).trans (forEach _ _ (fun c s => ?_) _)
  unfold noteSlotUse
  dsimp only
  split
  · exact (setAlloc ..).trans (judgeRunawayOn ..)
  · exact refl s

theorem startWindow (s : State) : OutputsKept s s.startWindow := by
  have judged (old : PerCavity SlotUse) (s : State) : OutputsKept s (Machine.forEach cavities (judgeShift old) s) := by
    refine forEach _ _ (fun c s => ?_) s
    unfold judgeShift
    split
    · exact refl s
    · exact judgeRunawayOn ..
  unfold State.startWindow
  dsimp only
  split
  · exact (((setAlloc ..).trans (judged ..)).trans (setAlloc ..)).trans (startSlot ..)
  · exact (((setAlloc ..).trans (setAlloc ..)).trans (startSlot ..)).trans (judged ..)

/-! ### The fan's watch -/

/-- A change of the fan's watch and its timers. -/
theorem setWatch (s : State) (x : Fan)
    (h : x = { s.fan with watch := x.watch, grace := x.grace, pulse := x.pulse }) : OutputsKept s (s.setFan x) := by
  refine ofConditions (.setFan s x ?_) ⟨rfl, rfl, rfl, rfl, rfl, rfl, rfl, rfl, ?_, ?_, rfl⟩
  · rw [h]
  · rw [show (s.setFan x).fan = _ from h]
  · rw [show (s.setFan x).fan = _ from h]

theorem tachoPulse (s : State) : OutputsKept s (s.setFan s.fan.tachoPulse) := by
  refine setWatch _ _ ?_
  unfold Fan.tachoPulse
  split <;> rfl

theorem graceExpiry (s : State) : OutputsKept s (s.setFan s.fan.graceExpiry) := by
  refine setWatch _ _ ?_
  unfold Fan.graceExpiry
  split <;> rfl

theorem fanStalls (s : State) : OutputsKept s s.fanStalls :=
  ((FanKept.setFan s s.fan.stallNow rfl).trans (post ..).toFanKept).faulted

/-! ### The lock requests -/

theorem hostLock (c : Cavity) (k : LockRequestKind) (w : Bool) (s : State) : OutputsKept s (hostLock c k w s).1 := by
  have asked : OutputsKept s (s.lockEvent c (LockCtl.request (s.policy c) w ⟨k, .host⟩ (s.lock c)).1) :=
    lockEvent fun h => LockCtl.request_legal h ..
  unfold Machine.hostLock hostAsk
  dsimp only
  split
  · split
    · exact asked
    · exact asked
  · exact refl s

/-! ### CLEAR at the drive -/

theorem openToOk (r : Relay) (s : State) : OutputsKept s (State.openToOk r s) := by
  unfold State.openToOk
  split
  · exact relay ..
  · exact refl s

theorem clearDrive (s : State) : OutputsKept s s.clearDrive := by
  refine (forEach _ _ (fun e s => ?_) s).trans (openToOk ..)
  unfold clearElement
  split
  · exact ((setDrive s { s.drive with elementOpen := s.drive.elementOpen.set e false } rfl rfl).trans (post ..)).trans
      (openToOk ..)
  · exact refl s

end OutputsKept

/-! ### CLEAR at the fan and the Supervisor -/

namespace FanKept

theorem clearFan (s : State) : FanKept s s.clearFan := by
  unfold State.clearFan
  split
  · refine (setFan s s.fan.clearStall ?_).trans (OutputsKept.post ..).toFanKept
    unfold Fan.clearStall
    split
    · split <;> rfl
    · rfl
  · exact refl s

theorem clearRunaway (c : Cavity) (s : State) : FanKept s (State.clearRunaway c s) := by
  unfold State.clearRunaway
  split
  · exact (setSup s { s.sup with runaway := s.sup.runaway.set c false } rfl).trans (OutputsKept.post ..).toFanKept
  · exact refl s

theorem clearOverheat (c : Cavity) (s : State) : FanKept s (State.clearOverheat c s) := by
  unfold State.clearOverheat
  split
  · exact (setOverheat ..).trans (OutputsKept.post ..).toFanKept
  · exact refl s

end FanKept

end Sys2Proof.Machine
end

section
/-!
PROOFS. What stands through a channel's new entry and a band's new index (R13, R36 to R40): while a change is on its way
to its readers the fan may not yet follow it, and after the reader that acts on it the fan does.
-/

namespace Sys2Proof.Machine

open Sys2Proof State

/-- The fan follows its demands, a VALID channel has an F, and the band index is OVER while the channel is not VALID. -/
structure FanStands (s : State) : Prop where
  fan : s.FanFollows
  valid : s.ValidHasF
  index : s.IndexOverUnlessValid

/-- What stands through an act, each by itself: a queue within its bound, the locks, the table locks, drive enable and
heat inhibit. -/
structure StandsKept (s t : State) : Prop where
  queue : s.events.queue.length ≤ 16 → t.events.queue.length ≤ 16
  locks : s.LocksLegal → t.LocksLegal
  tableLocks : s.TableLockFollows → t.TableLockFollows
  enable : s.EnableFollows → t.EnableFollows

/-- With these, the fan, on its own premises. -/
structure ActKept (s t : State) : Prop extends StandsKept s t where
  stands : FanStands s → FanStands t

variable {s t u : State} {c : Cavity}

theorem StandsKept.trans (h : StandsKept s t) (k : StandsKept t u) : StandsKept s u :=
  ⟨k.queue ∘ h.queue, k.locks ∘ h.locks, k.tableLocks ∘ h.tableLocks, k.enable ∘ h.enable⟩

theorem StandsKept.refl (s : State) : StandsKept s s := ⟨id, id, id, id⟩

theorem StandsKept.forEach {α : Type} (l : List α) (op : α → State → State) (h : ∀ x s, StandsKept s (op x s))
    (s : State) : StandsKept s (Machine.forEach l op s) :=
  (forEach_rel (P := fun _ => True) refl trans l op (fun x _ s _ => ⟨h x s, trivial⟩) s trivial).1

theorem ActKept.trans (h : ActKept s t) (k : ActKept t u) : ActKept s u :=
  ⟨h.toStandsKept.trans k.toStandsKept, k.stands ∘ h.stands⟩

theorem ActKept.refl (s : State) : ActKept s s := ⟨.refl s, id⟩

theorem ActKept.forEach {α : Type} (l : List α) (op : α → State → State) (h : ∀ x s, ActKept s (op x s))
    (s : State) : ActKept s (Machine.forEach l op s) :=
  (forEach_rel (P := fun _ => True) refl trans l op (fun x _ s _ => ⟨h x s, trivial⟩) s trivial).1

/-- A VALID channel's F, and the index of one that is not VALID, are read from the channels and the indices alone. -/
theorem State.ValidHasF.congr (h : s.ValidHasF) (channels : t.channels = s.channels) : t.ValidHasF := fun ch hv => by
  rw [isValid_congr channels] at hv
  unfold State.f channel
  rw [channels]
  exact h ch hv

theorem State.IndexOverUnlessValid.congr (h : s.IndexOverUnlessValid) (channels : t.channels = s.channels)
    (index : t.bandIndex = s.bandIndex) : t.IndexOverUnlessValid := fun d hv => by
  rw [index]
  exact h d (by rw [← isValid_congr channels]; exact hv)

theorem FanKept.stands (h : FanKept s t) (k : FanStands s) : FanStands t :=
  ⟨h.fan k.fan, k.valid.congr h.channels, k.index.congr h.channels h.bandIndex⟩

theorem OutputsKept.standsKept (h : OutputsKept s t) : StandsKept s t :=
  ⟨fun k => by rw [h.queue]; exact k, h.locks, h.tableLocks, h.enable⟩

theorem OutputsKept.act (h : OutputsKept s t) : ActKept s t := ⟨h.standsKept, h.toFanKept.stands⟩

/-! ### A band's index -/

/-- The fan reads a change of the band in force, in whatever order (R40, R152). -/
theorem bandKnown_follows (c : Cavity) (s : State) : (bandKnown c s).FanFollows :=
  forEach_reaches (Q := fun _ => True) (bandReaderActs c) .fan (fun s _ => fanSync_follows s) (fun _ _ _ _ => trivial)
    (fun r s => (OutputsKept.bandReaderActs c r s).fan) ((arrange_perm ..).mem_iff.mpr (by simp)) s trivial

/-- What the Band Table's new index leaves, and the fan that follows it. -/
structure IndexTaken (c : Cavity) (i : BandIndex) (s t : State) : Prop extends StandsKept s t where
  channels : t.channels = s.channels
  bandIndex : t.bandIndex = s.bandIndex.set c i
  fan : s.bandIndex.get c ≠ i ∨ s.FanFollows → t.FanFollows

theorem setBandIndex_standsKept (c : Cavity) (i : BandIndex) (s : State) : StandsKept s (s.setBandIndex c i) :=
  ⟨id, id, id, id⟩

theorem takeBand_indexTaken (c : Cavity) (i : BandIndex) (s : State) : IndexTaken c i s (takeBand c i s) := by
  unfold takeBand
  split
  · next same => exact ⟨.refl s, rfl, by rw [← same, PerCavity.set_get], fun h => h.resolve_left fun n => n same⟩
  · have known := OutputsKept.bandKnown c (s.setBandIndex c i)
    exact ⟨(setBandIndex_standsKept c i s).trans known.standsKept, known.channels, known.bandIndex,
      fun _ => bandKnown_follows ..⟩

theorem bandReads_standsKept (c : Cavity) (old : ChannelState) (s : State) : StandsKept s (bandReads c old s) := by
  unfold bandReads
  dsimp only
  split
  · split
    · split
      · exact (takeBand_indexTaken ..).toStandsKept
      · exact (takeBand_indexTaken ..).toStandsKept
    · exact .refl s
  · exact (takeBand_indexTaken ..).toStandsKept

/-! ### A channel's new entry -/

theorem supervisorReads (ch : Channel) {op : State → State} (h : ∀ s, OutputsKept s (op s)) (s : State) :
    OutputsKept s (op (markMeasured ch s)) := (OutputsKept.markMeasured ch s).trans (h _)

/-- Every reader but the Band Table keeps all that stands. -/
theorem readerActs_outputsKept (k : ChannelChange) {r : Reader} (h : r ≠ .bandTable) (s : State) :
    OutputsKept s (readerActs k r s) := by
  obtain ⟨ch, old, newF⟩ := k
  cases r with
  | bandTable => exact absurd rfl h
  | engine => cases ch with
    | cav c => exact .engineReadsCavity ..
    | cat c => exact .judge ..
    | front => exact .refl s
  | supervisor => cases ch with
    | cav c => exact supervisorReads _ (.supReadsF c newF) s
    | cat c => exact .markMeasured ..
    | front => exact supervisorReads _ (.supReadsFront old) s
  | allocator => cases ch with
    | cav c => exact .refl s
    | cat c => exact .review s
    | front => exact .refl s
  | fan => cases ch with
    | cav c => exact .refl s
    | cat c => exact .refl s
    | front => exact .fanReadsFront ..

theorem readerActs_standsKept (k : ChannelChange) (r : Reader) (s : State) : StandsKept s (readerActs k r s) := by
  by_cases h : r = .bandTable
  · subst h
    obtain ⟨ch, old, newF⟩ := k
    cases ch with
    | cav c => exact bandReads_standsKept ..
    | cat c => exact .refl s
    | front => exact .refl s
  · exact (readerActs_outputsKept k h s).standsKept

theorem channelKnown_standsKept (k : ChannelChange) (s : State) : StandsKept s (channelKnown k s) :=
  .forEach _ _ (readerActs_standsKept k) s

/-- Where the Band Table does not read the channel, its readers keep all that stands. -/
theorem channelKnown_outputsKept {k : ChannelChange} (h : .bandTable ∉ readersOf k.channel) (s : State) :
    OutputsKept s (channelKnown k s) :=
  (forEach_rel (P := fun _ => True) .refl .trans _ (readerActs k) (fun _ hr s _ =>
    ⟨readerActs_outputsKept k (fun e => h (e ▸ mem_readers.mp hr)) s, trivial⟩) s trivial).1

/-- The Supervisor reads FRONT, and the outputs follow it then (R163). -/
theorem frontKnown_enable (old : ChannelState) (newF : Bool) (s : State) :
    (channelKnown ⟨.front, old, newF⟩ s).EnableFollows :=
  forEach_once (Q := fun _ => True) (readerActs ⟨.front, old, newF⟩) .supervisor (readers_nodup ..)
    (mem_readers.mpr (by simp [readersOf])) (fun _ _ => OutputsKept.supReadsFront_enable ..) (fun _ _ _ _ _ => trivial)
    (fun r _ _ s => (readerActs_standsKept _ r s).enable) s trivial

/-- The Fan Controller reads FRONT, and the fan follows it then (R153). -/
theorem frontKnown_follows (old : ChannelState) (newF : Bool) (s : State) :
    (channelKnown ⟨.front, old, newF⟩ s).FanFollows :=
  forEach_once (Q := fun _ => True) (readerActs ⟨.front, old, newF⟩) .fan (readers_nodup ..)
    (mem_readers.mpr (by simp [readersOf])) (fun _ _ => OutputsKept.fanReadsFront_follows ..) (fun _ _ _ _ _ => trivial)
    (fun r hr _ s => (readerActs_outputsKept _ (fun e => by
      have := mem_readers.mp hr
      simp [readersOf, e] at this) s).fan) s trivial

/-- A cavity channel's change on its way: the fan follows the bands as they stand, or the Band Table is yet to take the
index of a channel that is no longer VALID to OVER (R36). -/
structure BandAwaits (c : Cavity) (w s : State) : Prop where
  channels : s.channels = w.channels
  bandIndex : s.bandIndex = w.bandIndex
  fan : s.FanFollows ∨ (s.isValid (.cav c) = false ∧ s.bandIndex.get c ≠ .over)

/-- A cavity channel's change after the Band Table has read it. -/
structure BandRead (w s : State) : Prop where
  channels : s.channels = w.channels
  index : s.IndexOverUnlessValid
  fan : s.FanFollows

theorem BandAwaits.read {w : State} {old : ChannelState} (h : BandAwaits c w s) (valid : w.ValidHasF)
    (others : ∀ d, d ≠ c → w.isValid (.cav d) = false → w.bandIndex.get d = .over) :
    BandRead w (bandReads c old s) := by
  obtain ⟨channels, bandIndex, fan⟩ := h
  have taken (i : BandIndex) (hfan : s.bandIndex.get c ≠ i ∨ s.FanFollows)
      (hi : s.isValid (.cav c) = false → i = .over) : BandRead w (takeBand c i s) := by
    have t := takeBand_indexTaken c i s
    refine ⟨t.channels.trans channels, fun d hd => ?_, t.fan hfan⟩
    rw [isValid_congr t.channels] at hd
    rw [t.bandIndex]
    by_cases hc : d = c
    · subst hc
      rw [PerCavity.get_set_same, hi hd]
    · rw [PerCavity.get_set_ne _ _ hc, bandIndex]
      exact others d hc (by rw [← isValid_congr channels]; exact hd)
  cases hv : s.isValid (.cav c) with
  | true =>
    obtain ⟨f, hf⟩ := Option.isSome_iff_exists.mp (valid.congr channels _ hv)
    rw [bandReads_valid hv hf]
    exact taken _ (.inr (fan.resolve_right fun x => absurd (hv.symm.trans x.1) nofun)) fun x => absurd (hv.symm.trans x) nofun
  | false =>
    rw [bandReads, if_neg (of_decide_eq_false hv)]
    exact taken .over (fan.symm.imp_left And.right) fun _ => rfl

/-- Once the Band Table has read the change of a cavity channel, the fan and the indices are as they should be. -/
theorem cavityKnown_read {old : ChannelState} {newF : Bool} {w : State} (valid : w.ValidHasF)
    (others : ∀ d, d ≠ c → w.isValid (.cav d) = false → w.bandIndex.get d = .over)
    (fan : w.FanFollows ∨ (w.isValid (.cav c) = false ∧ w.bandIndex.get c ≠ .over)) :
    BandRead w (channelKnown ⟨.cav c, old, newF⟩ w) := by
  refine forEach_once (Q := BandAwaits c w) (readerActs ⟨.cav c, old, newF⟩) .bandTable (readers_nodup ..)
    (mem_readers.mpr (by simp [readersOf])) (fun s hs => hs.read valid others) (fun r _ hr s hs => ?_)
    (fun r _ hr s hs => ?_) w ⟨rfl, rfl, fan⟩
  · have kept := readerActs_outputsKept ⟨.cav c, old, newF⟩ hr s
    refine ⟨kept.channels.trans hs.channels, kept.bandIndex.trans hs.bandIndex, hs.fan.imp kept.fan fun x => ?_⟩
    rw [isValid_congr kept.channels, kept.bandIndex]
    exact x
  · have kept := readerActs_outputsKept ⟨.cav c, old, newF⟩ hr s
    exact ⟨kept.channels.trans hs.channels, hs.index.congr kept.channels kept.bandIndex, kept.fan hs.fan⟩

/-! ### Taking an entry -/

section
variable {ch : Channel} {new : ChannelEntry}

theorem entryWritten_isValid_ne {d : Channel} (h : d ≠ ch) : (entryWritten ch new s).isValid d = s.isValid d := by
  unfold isValid
  rw [entryWritten_channel_ne _ _ _ h]

theorem entryWritten_isFailed_ne {d : Channel} (h : d ≠ ch) : (entryWritten ch new s).isFailed d = s.isFailed d := by
  unfold isFailed
  rw [entryWritten_channel_ne _ _ _ h]

/-- A channel that keeps its state is VALID, and FAILED, where it was. -/
theorem entryWritten_same (h : (s.channel ch).state = new.state) (d : Channel) :
    (entryWritten ch new s).isValid d = s.isValid d ∧ (entryWritten ch new s).isFailed d = s.isFailed d := by
  by_cases hd : d = ch
  · subst hd
    unfold isValid isFailed
    rw [entryWritten_channel_same, h]
    exact ⟨rfl, rfl⟩
  · exact ⟨entryWritten_isValid_ne hd, entryWritten_isFailed_ne hd⟩

/-- A VALID entry has an F. -/
theorem entryWritten_validHasF (h : s.ValidHasF) (hf : new.state = .valid → new.f.isSome = true) :
    (entryWritten ch new s).ValidHasF := fun d hv => by
  unfold State.f
  by_cases hd : d = ch
  · subst hd
    rw [entryWritten_channel_same]
    exact hf (of_decide_eq_true ((entryWritten_isValid ..).symm.trans hv))
  · rw [entryWritten_channel_ne _ _ _ hd]
    exact h d (by rw [← entryWritten_isValid_ne hd]; exact hv)

/-- The band in force is the index that the Band Table holds, where the index is OVER while the channel is not VALID
(R36). -/
theorem bandNow_eq (h : s.isValid (.cav c) = false → s.bandIndex.get c = .over) : s.bandNow c = s.bandIndex.get c := by
  unfold bandNow
  split
  · rfl
  · next hv => exact (h (Bool.eq_false_iff.mpr hv)).symm

/-- Written, an entry leaves the fan following where neither the bands in force nor FRONT's validity move. -/
theorem entryWritten_follows (h : s.FanFollows) (bands : ∀ c, (entryWritten ch new s).bandNow c = s.bandNow c)
    (front : (entryWritten ch new s).isValid .front = s.isValid .front) : (entryWritten ch new s).FanFollows :=
  h.congr (entryWritten_fan ..)
    (fun d => by unfold bandFields bandTable; rw [bands, entryWritten_tables]) (fun d => by rw [entryWritten_engine])
    front (by rw [entryWritten_sup])

/-- Written, an entry leaves all but drive enable and heat inhibit, which follow FRONT's failure. -/
theorem entryWritten_standsKept (h : s.EnableFollows → u.EnableFollows) (k : StandsKept (entryWritten ch new s) u) :
    StandsKept s u where
  queue x := k.queue (by rw [entryWritten_events]; exact x)
  locks x := k.locks (x.congr (entryWritten_locks ..))
  tableLocks x := k.tableLocks (x.congr (entryWritten_tableLocks ..) fun d => by rw [entryWritten_engine])
  enable := h

theorem entryWritten_enable (h : (entryWritten ch new s).isFailed .front = s.isFailed .front) :
    s.EnableFollows → (entryWritten ch new s).EnableFollows := ConditionsKept.enable (by constructor <;> simp [h])

/-- FRONT's failure and its end are made known to the Supervisor, and no other channel is a condition of the outputs
(R163). -/
theorem takeEntry_standsKept (ch : Channel) (new : ChannelEntry) (newF : Bool) (s : State) :
    StandsKept s (takeEntry ch new newF s) := by
  rw [takeEntry_eq]
  split
  · refine entryWritten_standsKept ?_ (channelKnown_standsKept ..)
    by_cases front : ch = .front
    · subst front
      exact fun _ => frontKnown_enable ..
    · exact (channelKnown_standsKept ..).enable ∘ entryWritten_enable (entryWritten_isFailed_ne (Ne.symm front))
  · next unknown =>
    have same : (s.channel ch).state = new.state := Classical.not_not.mp fun n => unknown (.inr n)
    exact entryWritten_standsKept (entryWritten_enable (entryWritten_same same _).2) (.refl _)

/-- An entry whose change the readers have taken: the fan follows it, by way of the reader that acts on it. -/
theorem takeEntry_stands {newF : Bool} (hf : new.state = .valid → new.f.isSome = true) (h : FanStands s) :
    FanStands (takeEntry ch new newF s) := by
  have valid := entryWritten_validHasF (ch := ch) h.valid hf
  have settled (same : ∀ d, d = .front ∨ (∃ c, d = .cav c) → (entryWritten ch new s).isValid d = s.isValid d) :
      FanStands (entryWritten ch new s) :=
    ⟨entryWritten_follows h.fan (fun c => by unfold bandNow; rw [same _ (.inr ⟨c, rfl⟩), entryWritten_bandIndex])
      (same _ (.inl rfl)), valid, fun c hv => by
        rw [entryWritten_bandIndex]
        exact h.index c (by rw [← same _ (.inr ⟨c, rfl⟩)]; exact hv)⟩
  rw [takeEntry_eq]
  split
  · cases ch with
    | cat c =>
      exact (channelKnown_outputsKept (by simp [readersOf]) _).stands
        (settled fun d hd => entryWritten_isValid_ne (by rintro rfl; simp at hd))
    | front =>
      have known := channelKnown_outputsKept (k := ⟨.front, (s.channel .front).state, newF⟩) (by simp [readersOf])
        (entryWritten .front new s)
      have index : (entryWritten .front new s).IndexOverUnlessValid := fun c hv => by
        rw [entryWritten_bandIndex]
        exact h.index c (by rw [← entryWritten_isValid_ne (d := .cav c) (ch := .front) nofun]; exact hv)
      exact ⟨frontKnown_follows .., valid.congr known.channels, index.congr known.channels known.bandIndex⟩
    | cav c =>
      have others (d : Cavity) (hd : d ≠ c) (hv : (entryWritten (.cav c) new s).isValid (.cav d) = false) :
          (entryWritten (.cav c) new s).bandIndex.get d = .over := by
        rw [entryWritten_bandIndex]
        exact h.index d (by rw [← entryWritten_isValid_ne (d := .cav d) (ch := .cav c) fun e => hd (Channel.cav.inj e)]; exact hv)
      have read := cavityKnown_read (old := (s.channel (.cav c)).state) (newF := newF) valid others ?_
      · exact ⟨read.fan, valid.congr read.channels, read.index⟩
      · refine Classical.or_iff_not_imp_right.mpr fun settles => ?_
        have index (d : Cavity) (hv : (entryWritten (.cav c) new s).isValid (.cav d) = false) :
            (entryWritten (.cav c) new s).bandIndex.get d = .over := by
          by_cases hd : d = c
          · subst hd
            exact Classical.not_not.mp fun n => settles ⟨hv, n⟩
          · exact others d hd hv
        refine entryWritten_follows h.fan (fun d => ?_) (entryWritten_isValid_ne nofun)
        rw [bandNow_eq (index d), bandNow_eq (h.index d), entryWritten_bandIndex]
  · next unknown =>
    exact settled fun d _ =>
      (entryWritten_same (Classical.not_not.mp fun n => unknown (.inr n)) d).1

end

end Sys2Proof.Machine
end

section
/-!
PROOFS. What stands through each act of a command that writes a channel, a table or the Event Queue itself: a scan
conversion, WRITE BAND, SET ELEMENT, READ EVENTS and CLEAR.
-/

namespace Sys2Proof.Machine

open Sys2Proof State

variable {s t u : State} {c : Cavity}

/-! ## A scan conversion -/

/-- A VALID entry has an F (R11). -/
def ChannelEntry.HasF (e : ChannelEntry) : Prop := e.state = .valid → e.f.isSome = true

theorem judgeResult_hasF {w : Int} {r : ConvResult} {e : ChannelEntry} (h : e.HasF) :
    (judgeResult w r e).entry.HasF := by
  unfold judgeResult
  split
  · unfold judgeTemperature
    dsimp only
    split
    · exact h
    · split
      · exact fun _ => rfl
      · exact h
  · exact h
  · exact h
  · exact h

theorem judgeScan_hasF {w : Int} {r : ConvResult} {e : ChannelEntry} (h : e.HasF) : (judgeScan w r e).entry.HasF := by
  unfold judgeScan
  split
  · exact h
  · dsimp only
    unfold failChannel
    split
    · exact nofun
    · exact judgeResult_hasF h

theorem channel_hasF (h : s.ValidHasF) (ch : Channel) : (s.channel ch).HasF := fun hv =>
  h ch (decide_eq_true hv)

namespace ActKept

theorem takeEntry {ch : Channel} {new : ChannelEntry} {newF : Bool} (h : s.ValidHasF → new.HasF) :
    ActKept s (State.takeEntry ch new newF s) :=
  ⟨takeEntry_standsKept .., fun k => takeEntry_stands (h k.valid) k⟩

theorem completeScan (codes : BitVec 16 × BitVec 16) (s : State) : ActKept s (s.completeScan codes) := by
  have posted (ch : Channel) (old new : ChannelEntry) (s : State) : OutputsKept s (postFailure ch old new s) := by
    unfold postFailure
    split
    · split
      · exact .refl s
      · exact .post ..
    · exact .refl s
  have before := (OutputsKept.ofAside rfl : OutputsKept s (s.nextStarted codes)).trans
    (posted s.converter.channel (s.channel s.converter.channel)
      (judgeScan (agreementWindow s.converter.channel) (convert codes.1 codes.2) (s.channel s.converter.channel)).entry _)
  exact before.act.trans (takeEntry fun valid =>
    judgeScan_hasF (channel_hasF (valid.congr before.channels.symm) _))

theorem expireStaleness (ch : Channel) (s : State) : ActKept s (s.expireStaleness ch) := takeEntry fun _ => nofun

/-! ## The tables -/

/-- A change of the tables beside the bands. -/
theorem setTables (s : State) (x : Tables) (bands : x.bands = s.tables.bands) : ActKept s (s.setTables x) :=
  ⟨⟨id, id, id, id⟩, fun k => ⟨k.fan.congr rfl (bandFields_congr bands rfl rfl) (fun _ => rfl) rfl rfl, k.valid, k.index⟩⟩

theorem setProgram (c : Cavity) (p : List SegmentRecord) (s : State) : ActKept s (s.setProgram c p) :=
  setTables _ _ rfl

theorem storeRating (e : Element) (n : Nat) (s : State) : ActKept s (s.storeRating e n) := by
  rw [storeRating_eq]
  exact (setTables s { s.tables with ratings := s.tables.ratings.set e n } rfl).trans (OutputsKept.relay ..).act

theorem storeBand_standsKept (w : BandWrite) (s : State) : StandsKept s (s.storeBand w) := ⟨id, id, id, id⟩

/-- A write makes the band known where the fields in force are new, and leaves the fan following where they are not
(R47). -/
theorem writeBand (w : BandWrite) (s : State) : ActKept s (s.writeBand w) := by
  have stored := storeBand_standsKept w s
  by_cases h : s.isValid (.cav w.cavity) = true ∧ (s.f (.cav w.cavity)).isSome = true
  · obtain ⟨hv, hf⟩ := h
    obtain ⟨f, hf⟩ := Option.isSome_iff_exists.mp hf
    rw [writeBand_valid hv hf]
    split
    · next same =>
      split
      · have known := OutputsKept.bandKnown w.cavity (s.storeBand w)
        exact ⟨stored.trans known.standsKept, fun k =>
          ⟨bandKnown_follows .., ValidHasF.congr (s := s.storeBand w) k.valid known.channels,
            IndexOverUnlessValid.congr (s := s.storeBand w) k.index known.channels known.bandIndex⟩⟩
      · next unknown =>
        refine ⟨stored, fun k => ⟨?_, k.valid, k.index⟩⟩
        have fields := wroteBand_bandFields same.symm fun at_ => Classical.not_not.mp fun changed => unknown ⟨at_, changed⟩
        rw [show s.wroteBand w (s.foundBand w f) = s.storeBand w from setBandIndex_self (s := s.storeBand w) same.symm]
          at fields
        exact k.fan.congr rfl fields (fun _ => rfl) rfl rfl
    · next moved =>
      have taken := takeBand_indexTaken w.cavity (s.foundBand w f) (s.storeBand w)
      refine ⟨stored.trans taken.toStandsKept, fun k => ⟨taken.fan (.inl (Ne.symm moved)),
        ValidHasF.congr (s := s.storeBand w) k.valid taken.channels, fun d hd => ?_⟩⟩
      have invalid : s.isValid (.cav d) = false := (isValid_congr taken.channels _).symm.trans hd
      have other : d ≠ w.cavity := fun same => by
        rw [same, hv] at invalid
        nomatch invalid
      rw [taken.bandIndex, PerCavity.get_set_ne _ _ other]
      exact k.index d invalid
  · rw [writeBand_not_valid h]
    refine ⟨stored, fun k => ⟨k.fan.congr rfl (fun d => ?_) (fun _ => rfl) rfl rfl, k.valid, k.index⟩⟩
    have invalid : s.isValid (.cav w.cavity) = false := Bool.eq_false_iff.mpr fun hv => h ⟨hv, k.valid _ hv⟩
    have index : (s.storeBand w).bandNow d = s.bandNow d := rfl
    unfold bandFields
    rw [index]
    by_cases hd : d = w.cavity
    · subst hd
      rw [show s.bandNow w.cavity = .over by unfold bandNow; rw [invalid]; rfl]
      rfl
    · rw [storeBand_bandTable_ne hd]

/-! ## The Event Queue -/

theorem readEvents (s : State) : ActKept s (readEvents s).1 :=
  ⟨⟨fun h => by
      show (s.events.queue.drop 4).length ≤ 16
      rw [List.length_drop]
      omega, id, id, id⟩,
    fun k => ⟨k.fan.congr rfl (fun _ => rfl) (fun _ => rfl) rfl rfl, k.valid, k.index⟩⟩

/-! ## CLEAR -/

theorem clearChannel (ch : Channel) (s : State) : ActKept s (State.clearChannel ch s) := by
  have posted (e : ChannelEntry) : OutputsKept s (postChannelCleared ch e s) := by
    unfold postChannelCleared
    split
    · exact .post ..
    · exact .refl s
  unfold State.clearChannel
  dsimp only
  split
  · exact (posted _).act.trans (takeEntry fun _ => nofun)
  · exact refl s

/-- What CLEAR clears of the fan and the Supervisor moves their conditions, and the outputs are recomputed after it
(R168). -/
theorem clearAll (s : State) : ActKept s s.clearAll := by
  have channels := forEach allChannels State.clearChannel clearChannel s
  unfold State.clearAll
  dsimp only
  have locks (s : State) := (OutputsKept.clearDrive s).trans (.forEach cavities State.clearLock OutputsKept.clearLock _)
  have rest (s : State) := ((FanKept.clearFan s).trans (FanKept.forEach cavities State.clearRunaway FanKept.clearRunaway _)).trans
    (FanKept.forEach cavities State.clearOverheat FanKept.clearOverheat _)
  exact channels.trans ((locks _).act.trans (rest _).recomputed.act)

end ActKept

end Sys2Proof.Machine
end

section
/-!
PROOFS. What stands through each request and event of the part: its act leaves what stands, the records then on their
way are put into the Event Queue or lost, and the reply is built beside them (R169, R179).
-/

namespace Sys2Proof.Machine

open Sys2Proof State

variable {s t u : State} {c : Cavity}

/-- What stands through a command, each by itself: the Event Queue with nothing on its way, the locks, the table locks,
drive enable and heat inhibit, and the fan on its premises. -/
structure CommandKept (s t : State) : Prop where
  queue : s.QueueLegal → t.QueueLegal
  locks : s.LocksLegal → t.LocksLegal
  tableLocks : s.TableLockFollows → t.TableLockFollows
  enable : s.EnableFollows → t.EnableFollows
  stands : FanStands s → FanStands t

/-! ## Requests -/

namespace ActKept

theorem forCavity {op : Cavity → State → State × Answer} (h : ∀ c s, ActKept s (op c s).1) (f : Fields) (s : State) :
    ActKept s (forCavity op f s).1 := by
  unfold Machine.forCavity
  split
  · exact h ..
  · exact refl s

theorem startAnswer (f : Fields) (s : State) : ActKept s (startAnswer f s).1 := by
  unfold Machine.startAnswer
  split
  · split
    · exact refl s
    · split
      · exact refl s
      · exact (OutputsKept.startCycle ..).act
  · exact refl s

theorem pauseAnswer (c : Cavity) (s : State) : ActKept s (pauseAnswer c s).1 := by
  unfold Machine.pauseAnswer
  split
  · next running =>
    split
    · exact refl s
    · exact (OutputsKept.pauseCycle running).act
  · exact refl s

theorem resumeAnswer (c : Cavity) (s : State) : ActKept s (resumeAnswer c s).1 := by
  unfold Machine.resumeAnswer
  split
  · next paused => exact ((OutputsKept.resumeItems paused).trans (.judge ..)).act
  · exact refl s

theorem stepAnswer (c : Cavity) (s : State) : ActKept s (stepAnswer c s).1 := by
  unfold Machine.stepAnswer
  cases h : (s.engine c).state with
  | held => exact (OutputsKept.stepCycle _ h).act
  | running => exact refl s
  | paused => exact refl s
  | idle => exact refl s
  | safeCool => exact refl s

theorem hostLock (c : Cavity) (k : LockRequestKind) (w : Bool) (s : State) : ActKept s (hostLock c k w s).1 :=
  (OutputsKept.hostLock ..).act

theorem unlockAnswer (f : Fields) (s : State) : ActKept s (unlockAnswer f s).1 := by
  unfold Machine.unlockAnswer
  split
  · split
    · exact refl s
    · exact hostLock ..
  · exact refl s

theorem clearAnswer (s : State) : ActKept s (clearAnswer s).1 := by
  unfold Machine.clearAnswer
  split
  · dsimp only
    exact clearAll s
  · exact refl s

theorem relayTestAnswer (s : State) : ActKept s (relayTestAnswer s).1 := by
  unfold Machine.relayTestAnswer
  split
  · exact refl s
  · split
    · exact refl s
    · split
      · exact refl s
      · exact (OutputsKept.beginTest ..).act

theorem writeBandAnswer (f : Fields) (s : State) : ActKept s (writeBandAnswer f s).1 := by
  rcases writeBandAnswer_cases f s with unchanged | ⟨w, -, -, written⟩
  · rw [unchanged]
    exact refl s
  · rw [written]
    exact writeBand w s

theorem setElementAnswer (f : Fields) (s : State) : ActKept s (setElementAnswer f s).1 := by
  unfold Machine.setElementAnswer
  split
  · exact refl s
  · split
    · exact refl s
    · split
      · split
        · exact refl s
        · exact storeRating ..
      · exact refl s

theorem setBudgetAnswer (f : Fields) (s : State) : ActKept s (setBudgetAnswer f s).1 := by
  unfold Machine.setBudgetAnswer
  split
  · exact refl s
  · split
    · split
      · exact refl s
      · exact setTables _ _ rfl
    · exact refl s

theorem freezeAnswer (s : State) : ActKept s (freezeAnswer s).1 := by
  unfold Machine.freezeAnswer
  split
  · exact setTables _ _ rfl
  · exact refl s

/-- A program request is refused, or it stores a program. -/
theorem appendAnswer (f : Fields) (s : State) : ActKept s (appendAnswer f s).1 := by
  unfold Machine.appendAnswer
  split
  · exact refl s
  · split
    · exact refl s
    · split
      · exact refl s
      · split
        · exact refl s
        · split
          · exact refl s
          · exact setProgram ..

theorem replaceAnswer (f : Fields) (s : State) : ActKept s (replaceAnswer f s).1 := by
  unfold Machine.replaceAnswer
  split
  · split
    · exact refl s
    · split
      · exact refl s
      · split
        · exact refl s
        · split
          · exact refl s
          · exact setProgram ..
  · exact refl s

theorem clearProgramAnswer (c : Cavity) (s : State) : ActKept s (clearProgramAnswer c s).1 := by
  unfold Machine.clearProgramAnswer
  split
  · exact setProgram ..
  · exact refl s

end ActKept

namespace CommandKept

theorem trans (h : CommandKept s t) (k : CommandKept t u) : CommandKept s u :=
  ⟨k.queue ∘ h.queue, k.locks ∘ h.locks, k.tableLocks ∘ h.tableLocks, k.enable ∘ h.enable, k.stands ∘ h.stands⟩

theorem refl (s : State) : CommandKept s s := ⟨id, id, id, id, id⟩

/-- An act that leaves the Event Queue and the records on their way. -/
theorem ofEvents (h : ActKept s t) (events : t.events = s.events) : CommandKept s t :=
  ⟨fun k => by unfold QueueLegal; rw [events]; exact k, h.locks, h.tableLocks, h.enable, h.stands⟩

/-- Acts on what no standing condition reads. -/
theorem aside (h : t = { s with
    rates := t.rates, converter := t.converter, alloc := t.alloc, link := t.link, pins := t.pins, clock := t.clock,
    order := t.order, draws := t.draws, pending := t.pending }) : CommandKept s t :=
  ofEvents (OutputsKept.ofAside h).act (by rw [h])

/-- At the end of a command the records on their way are put into the Event Queue or lost (R169). -/
theorem closed (h : ActKept s t) : CommandKept s t.close where
  queue k := ⟨close_short t (h.queue k.1), close_outbox t⟩
  locks k := (h.locks k).congr (close_locks t)
  tableLocks k := by rw [close_rest]; exact h.tableLocks k
  enable k := by rw [close_rest]; exact h.enable k
  stands k := by
    obtain ⟨fan, valid, index⟩ := h.stands k
    rw [close_rest]
    exact ⟨fan.congr rfl (fun _ => rfl) (fun _ => rfl) rfl rfl, valid, index⟩

/-- An event that acts under a condition, and changes nothing otherwise. -/
theorem ite {p : Prop} [Decidable p] (h : CommandKept s t) : CommandKept s (if p then t else s) := by
  split
  · exact h
  · exact refl s

theorem endOfFrame (s : State) : CommandKept s s.endOfFrame := by
  rw [endOfFrame_rest]
  exact aside rfl

theorem sendReply (a : Answer) (s : State) : CommandKept s (s.sendReply a) := aside rfl

theorem toReceiver (r : Receiver) (s : State) : CommandKept s (s.toReceiver r) := aside rfl

theorem takeRequest {widths : List Nat} {p : List Byte} {owner : Fields → State → State × Answer}
    (h : ∀ f s, ActKept s (owner f s).1) (s : State) : CommandKept s (s.takeRequest widths p owner) := by
  unfold State.takeRequest serve
  split
  · exact refl s
  · split
    · exact (endOfFrame s).trans (sendReply ..)
    · exact ((endOfFrame s).trans (closed (h ..))).trans (sendReply ..)

theorem readRequest {widths : List Nat} {p : List Byte} {owner : Fields → State → Answer} (s : State) :
    CommandKept s (s.readRequest widths p owner) := by
  unfold State.readRequest serve
  split
  · exact refl s
  · split
    · exact (endOfFrame s).trans (sendReply ..)
    · exact (endOfFrame s).trans (sendReply ..)

theorem cavityRequest {p : List Byte} {op : Cavity → State → State × Answer} (h : ∀ c s, ActKept s (op c s).1)
    (s : State) : CommandKept s (s.takeRequest oneByteField p (forCavity op)) :=
  takeRequest (ActKept.forCavity h) s

theorem broadcastStop (p : List Byte) (s : State) : CommandKept s (broadcastStop p s) := by
  unfold Machine.broadcastStop
  split
  · exact refl s
  · split
    · exact (endOfFrame s).trans (closed (OutputsKept.allStop _).act)
    · exact endOfFrame s

theorem takeSample (f : Fields) (s : State) : CommandKept s (s.takeSample f) := by
  unfold State.takeSample
  split
  · exact sendReply ..
  · split
    · exact sendReply ..
    · exact aside rfl

theorem releaseSample (ch : Channel) (codes : BitVec 16 × BitVec 16) (s : State) :
    CommandKept s (State.releaseSample ch codes s) := by
  unfold State.releaseSample
  exact ite (sendReply ..)

theorem edgeOnLine (s : State) : CommandKept s s.edgeOnLine := by
  unfold State.edgeOnLine
  exact ite (aside rfl)

theorem replyOver (s : State) : CommandKept s s.replyOver := by
  unfold State.replyOver
  split
  · exact aside rfl
  · exact refl s

/-! ## Events that leave the Event Queue alone -/

theorem followMismatch_events (r : Relay) (s : State) : (State.followMismatch r s).events = s.events := by
  unfold State.followMismatch
  dsimp only
  split
  · cases (s.relay r).sense with
    | none => rfl
    | some level =>
      dsimp only
      split
      · rfl
      · split <;> rfl
  · rfl

theorem settleEnds (r : Relay) (s : State) : CommandKept s (State.settleEnds r s) :=
  ofEvents (OutputsKept.settleEnds r s).act (followMismatch_events r _)

theorem visit (s : State) : CommandKept s s.visit := by
  refine ofEvents (OutputsKept.visit s).act ?_
  unfold State.visit onlyIf
  split <;> rfl

theorem takeReading (x : TestStep) (s : State) : CommandKept s (State.takeReading x s) :=
  ofEvents (OutputsKept.takeReading x s).act rfl

theorem tachoPulse (s : State) : CommandKept s (s.setFan s.fan.tachoPulse) := ofEvents (OutputsKept.tachoPulse s).act rfl

theorem graceExpiry (s : State) : CommandKept s (s.setFan s.fan.graceExpiry) := ofEvents (OutputsKept.graceExpiry s).act rfl

end CommandKept

/-! ## Every command -/

/-- After either reset every block holds its reset values, and they are as they should be (R160). -/
theorem reset_commandKept (h : exec .powerOnReset s = .next t ∨ exec .externalReset s = .next t) : CommandKept s t := by
  obtain ⟨trip, u, reset, ht, queue⟩ := isReset_of_exec h
  have fan : FanStands u := ⟨reset.fanFollows, reset.validHasF, reset.indexOver⟩
  refine ⟨fun _ => queue, fun _ => ?_, fun _ => ?_, fun _ => ?_, fun _ => ?_⟩ <;> rw [ht]
  · exact reset.locksLegal
  · exact reset.tableLockFollows
  · exact reset.enableFollows
  · exact ⟨fan.fan.congr rfl (fun _ => rfl) (fun _ => rfl) rfl rfl, fan.valid, fan.index⟩

theorem exec_commandKept (i : Instr) {s t : State} (h : exec i s = .next t) : CommandKept s t := by
  cases i with
  | powerOnReset => exact reset_commandKept (.inl h)
  | externalReset => exact reset_commandKept (.inr h)
  | identify => cases h; exact .readRequest s
  | cavityStatus => cases h; exact .readRequest s
  | plantStatus => cases h; exact .readRequest s
  | readOutcome => cases h; exact .readRequest s
  | readBand => cases h; exact .readRequest s
  | readSegment => cases h; exact .readRequest s
  | readEvents => cases h; exact .takeRequest (fun _ => .readEvents) s
  | writeBand => cases h; exact .takeRequest .writeBandAnswer s
  | setElement => cases h; exact .takeRequest .setElementAnswer s
  | setBudget => cases h; exact .takeRequest .setBudgetAnswer s
  | freeze => cases h; exact .takeRequest (fun _ => .freezeAnswer) s
  | appendSegment => cases h; exact .takeRequest .appendAnswer s
  | replaceSegment => cases h; exact .takeRequest .replaceAnswer s
  | clearProgram => cases h; exact .cavityRequest .clearProgramAnswer s
  | start => cases h; exact .takeRequest .startAnswer s
  | pause => cases h; exact .cavityRequest .pauseAnswer s
  | resume => cases h; exact .cavityRequest .resumeAnswer s
  | step => cases h; exact .cavityRequest .stepAnswer s
  | abort => cases h; exact .cavityRequest (fun c s => (OutputsKept.abortCycle c .hostAbort s).act) s
  | allStop broadcast =>
    cases h
    cases broadcast
    · exact .takeRequest (fun _ s => (OutputsKept.allStop s).act) s
    · exact .broadcastStop ..
  | lock => cases h; exact .cavityRequest (fun c s => .hostLock c .engage false s) s
  | unlock => cases h; exact .takeRequest .unlockAnswer s
  | clear => cases h; exact .takeRequest (fun _ => .clearAnswer) s
  | relayTest => cases h; exact .takeRequest (fun _ => .relayTestAnswer) s
  | sample =>
    cases h
    split
    · exact .refl s
    · split
      · exact (CommandKept.endOfFrame s).trans (.sendReply ..)
      · exact (CommandKept.endOfFrame s).trans (.takeSample ..)
  | unknownRequest =>
    cases h
    split
    · exact .refl s
    · exact (CommandKept.endOfFrame s).trans (.sendReply ..)
  | frameDiscarded =>
    cases h
    split
    · exact .refl s
    · exact .ite (.endOfFrame s)
  | lineBreak =>
    cases h
    split
    · exact .refl s
    · exact ((CommandKept.edgeOnLine s).trans (.replyOver _)).trans (.toReceiver ..)
  | lineFault => cases h; exact .ite (.toReceiver ..)
  | collision =>
    cases h
    split
    · exact .refl s
    · exact .aside rfl
  | scanConversionComplete => cases h; exact .ite (.closed (.completeScan ..))
  | onDemandConversionComplete =>
    cases h
    exact .ite ((CommandKept.aside rfl : CommandKept s (s.nextStarted _)).trans (.releaseSample ..))
  | stalenessTimerExpiry ch => cases h; exact .ite (.closed (.expireStaleness ..))
  | rateTimerExpiry c =>
    cases h
    split
    · exact .closed ((OutputsKept.ofAside rfl : OutputsKept s (s.setRate c _)).trans (.judgeRunawayOn ..)).act
    · exact .refl s
  | switchLevelChange c sw level =>
    cases h
    split
    · exact .refl s
    · exact .closed (OutputsKept.switchMoves ..).act
  | motionTimerExpiry c => cases h; exact .ite (.closed (OutputsKept.motionExpires ..).act)
  | tick c => cases h; exact .ite (.closed (OutputsKept.tickEngine ..).act)
  | expired c => cases h; exact .ite (.closed (OutputsKept.tickEngine ..).act)
  | undershoot c => cases h; exact .ite (.closed (OutputsKept.tickEngine ..).act)
  | stalled c => cases h; exact .ite (.closed (OutputsKept.tickEngine ..).act)
  | soakRemainingZero c => cases h; exact .ite (.closed (OutputsKept.tickEngine ..).act)
  | windowStart => cases h; exact .ite (.closed (OutputsKept.startWindow s).act)
  | slotStart =>
    cases h
    split
    · exact .closed (OutputsKept.startSlot ..).act
    · exact .refl s
  | refreshVisit => cases h; exact .ite (.visit s)
  | senseLevelChange r closed =>
    cases h
    split
    · exact .refl s
    · exact .closed (OutputsKept.senseMoves ..).act
  | settleTimerExpiry r => cases h; exact .ite (.settleEnds ..)
  | mismatchTimerExpiry r => cases h; exact .ite (.closed (OutputsKept.mismatchExpires ..).act)
  | testStepReading =>
    cases h
    split
    · exact .ite (.takeReading ..)
    · exact .refl s
  | testStepEnd =>
    cases h
    split
    · split
      · exact .ite (.closed (OutputsKept.endStep ..).act)
      · exact .refl s
    · exact .refl s
  | tachoPulse => cases h; exact .tachoPulse s
  | graceTimerExpiry => cases h; exact .ite (.graceExpiry s)
  | pulseTimerExpiry => cases h; exact .ite (.closed (OutputsKept.fanStalls s).act)
  | overheatTimerExpiry c => cases h; exact .ite (.closed (OutputsKept.overheatRunsOut ..).act)
  | breakEnd => cases h; exact .ite (.toReceiver ..)
  | lineFaultEnd => cases h; exact .ite (.toReceiver ..)
  | pacingCharacter =>
    cases h
    split
    · split <;> exact .toReceiver ..
    · exact .refl s
  | pacingTimeout => cases h; exact .ite (.toReceiver ..)
  | byteGapTimeout => cases h; exact .ite (.toReceiver ..)
  | framingError => cases h; exact .ite (.toReceiver ..)

/-! ## The passing of time -/

/-- A millisecond counts timers, and no standing condition reads one (log entry 1). -/
theorem countAll_commandKept (s : State) : CommandKept s s.countAll := by
  have engine (c : Cavity) : s.countAll.engine c = (s.engine c).count := PerCavity.get_map _ s.engines c
  have channel (ch : Channel) : s.countAll.channel ch = (s.channel ch).count := PerChannel.get_map _ s.channels ch
  have valid (ch : Channel) : s.countAll.isValid ch = s.isValid ch := by
    unfold isValid
    rw [channel]
    rfl
  have front : s.countAll.isFailed .front = s.isFailed .front := by
    unfold isFailed
    rw [channel]
    rfl
  have bands (c : Cavity) : s.countAll.bandFields c = s.bandFields c := by
    unfold bandFields bandNow
    rw [valid]
    rfl
  refine ⟨id, fun legal c => ?_, fun follows => follows.congr rfl fun c => by rw [engine]; rfl,
    ConditionsKept.enable ⟨rfl, rfl, rfl, rfl, rfl, rfl, rfl, rfl, rfl, rfl, front⟩, fun stands => ⟨?_, ?_, ?_⟩⟩
  · have lock : s.countAll.lock c = (s.lock c).count := PerCavity.get_map _ s.locks c
    rw [lock]
    exact LockCtl.count_legal (legal c)
  · refine ⟨stands.fan.level, fun c => ?_, ?_, stands.fan.trip⟩
    · rw [bands, engine]
      exact stands.fan.cavity c
    · rw [valid]
      exact stands.fan.front
  · intro ch hv
    rw [valid] at hv
    unfold State.f
    rw [channel]
    exact stands.valid ch hv
  · intro c hv
    rw [valid] at hv
    exact stands.index c hv

theorem idle_commandKept (s : State) : CommandKept s s.idle := by
  obtain ⟨u, pins, pending, order, draws, counted, idle⟩ := idle_cases s
  have kept : CommandKept s u := by
    rcases counted with rfl | rfl
    · exact .refl _
    · exact countAll_commandKept s
  rw [idle]
  exact kept.trans (.aside rfl)

/-! ## Every step -/

theorem step_commandKept (h : step s = .next t) : CommandKept s t := by
  rcases step_cases h with ⟨i, rest, run⟩ | rfl
  · exact (CommandKept.aside rfl : CommandKept s { s with pending := rest }).trans (exec_commandKept i run)
  · exact idle_commandKept s

/-- Settles O53: drive enable, then the fan on its premises, through every command and the passing of time. -/
theorem fanAndEnableStayFollowing : Obligations.FanAndEnableStayFollowing := by
  refine ⟨fun s t follows h => (step_commandKept h).enable follows, fun s t fan valid index h => ?_⟩
  obtain ⟨fan, valid, index⟩ := (step_commandKept h).stands ⟨fan, valid, index⟩
  exact ⟨fan, valid, index⟩

/-- Settles O55: the tables' conditions are those of O54's walk, and the others those of O53's. -/
theorem standingConditionsStay : Obligations.StandingConditionsStay := fun _ _ h =>
  have tables := step_tablesStay h
  have kept := step_commandKept h
  ⟨tables.programs, tables.power, kept.locks, kept.tableLocks, kept.queue⟩

end Sys2Proof.Machine
end

section
/-!
PROOFS. What an event or a request of one cavity leaves alone elsewhere, through the close and the reply; and what an
engine's acts leave of the table locks and the tables of the bands (R49, R169, R179).
-/

namespace Sys2Proof.Machine

open Sys2Proof State

theorem PerCavity.ext_get {α : Type} {p q : PerCavity α} (h : ∀ c, p.get c = q.get c) : p = q := by
  obtain ⟨a, b⟩ := p
  obtain ⟨a', b'⟩ := q
  have ha : a = a' := h .a
  have hb : b = b' := h .b
  rw [ha, hb]

/-! ## Elsewhere -/

namespace State.Elsewhere

variable {c : Cavity} {s t u : State}

theorem refl (c : Cavity) (s : State) : Elsewhere c s s := ⟨rfl, rfl, rfl, rfl, rfl, rfl, rfl, rfl, rfl, rfl, rfl⟩

theorem trans (h : Elsewhere c s t) (k : Elsewhere c t u) : Elsewhere c s u :=
  ⟨k.tables.trans h.tables, k.channels.trans h.channels, k.rates.trans h.rates, k.converter.trans h.converter,
    k.pins.trans h.pins, k.clock.trans h.clock, k.pending.trans h.pending, k.engine.trans h.engine,
    k.lock.trans h.lock, k.tableLock.trans h.tableLock, k.bandIndex.trans h.bandIndex⟩

theorem ofEngine (h : EngineFrame c s t) (q : Quiet s t) : Elsewhere c s t where
  tables := q.tables
  channels := q.channels
  rates := q.rates
  converter := q.converter
  pins := q.pins
  clock := q.clock
  pending := q.pending
  engine := h.otherEngine _ (other_ne c)
  lock := h.otherLock _ (other_ne c)
  tableLock := h.otherTableLock _ (other_ne c)
  bandIndex := h.bandIndex

theorem ofBackground (h : Background s t) (q : Quiet s t) : Elsewhere c s t where
  tables := q.tables
  channels := q.channels
  rates := q.rates
  converter := q.converter
  pins := q.pins
  clock := q.clock
  pending := q.pending
  engine := h.engine _
  lock := h.lock _
  tableLock := by rw [h.tableLocks]
  bandIndex := h.bandIndex

theorem applyLock (c : Cavity) (x : LockStep) (s : State) : Elsewhere c s (s.applyLock c x) := by
  obtain ⟨y, h⟩ := applyLock_rest c x s
  rw [h]
  exact ⟨rfl, rfl, rfl, rfl, rfl, rfl, rfl, rfl, PerCavity.get_set_ne _ _ (other_ne c), rfl, rfl⟩

theorem close (h : Elsewhere c s t) : Elsewhere c s t.close :=
  h.trans ⟨by simp, by simp, by simp, by simp, by simp, by simp, by simp, by simp [State.engine], by simp [State.lock],
    by simp, by simp⟩

/-- A request is taken at the end of its frame, and its reply follows the close (R175, R176). -/
theorem request (h : Elsewhere c s.endOfFrame t) (a : Answer) : Elsewhere c s (t.close.sendReply a) := by
  have frame : Elsewhere c s s.endOfFrame := by
    rw [endOfFrame_rest]
    exact ⟨rfl, rfl, rfl, rfl, rfl, rfl, rfl, rfl, rfl, rfl, rfl⟩
  have reply : Elsewhere c t.close (t.close.sendReply a) := ⟨rfl, rfl, rfl, rfl, rfl, rfl, rfl, rfl, rfl, rfl, rfl⟩
  exact (frame.trans h.close).trans reply

end State.Elsewhere

/-! ## The close and the reply -/

namespace State

variable (c : Cavity) (s : State) (a : Answer)

@[simp] theorem engine_close : s.close.engine c = s.engine c := by simp [engine]
@[simp] theorem lock_close : s.close.lock c = s.lock c := by simp [lock]
@[simp] theorem holdsGrant_close (e : Element) : s.close.holdsGrant e = s.holdsGrant e := by simp [holdsGrant]

theorem coldNow_close {c : Cavity} {s : State} (h : coldNow s c) : coldNow s.close c := fun k => by
  rw [holdsGrant_close]
  exact h k

@[simp] theorem engine_sendReply : (s.sendReply a).engine c = s.engine c := rfl
@[simp] theorem lock_sendReply : (s.sendReply a).lock c = s.lock c := rfl
@[simp] theorem holdsGrant_sendReply (e : Element) : (s.sendReply a).holdsGrant e = s.holdsGrant e := rfl
@[simp] theorem tableLocks_sendReply : (s.sendReply a).tableLocks = s.tableLocks := rfl
@[simp] theorem sup_sendReply : (s.sendReply a).sup = s.sup := rfl
@[simp] theorem events_sendReply : (s.sendReply a).events = s.events := rfl

@[simp] theorem engine_endOfFrame : s.endOfFrame.engine c = s.engine c := by rw [endOfFrame_rest]; rfl
@[simp] theorem lock_endOfFrame : s.endOfFrame.lock c = s.lock c := by rw [endOfFrame_rest]; rfl
@[simp] theorem sup_endOfFrame : s.endOfFrame.sup = s.sup := by rw [endOfFrame_rest]
@[simp] theorem events_endOfFrame : s.endOfFrame.events = s.events := by rw [endOfFrame_rest]
@[simp] theorem channels_endOfFrame : s.endOfFrame.channels = s.channels := by rw [endOfFrame_rest]
@[simp] theorem policy_endOfFrame : s.endOfFrame.policy c = s.policy c := by rw [endOfFrame_rest]; rfl

end State

/-! ## Requests that are carried out -/

section
variable {s t : State} {c : Cavity} {widths : List Nat} {p : List Byte} {f : Fields} {a : Answer}

theorem takeRequest_carried {owner : Fields → State → State × Answer} (h : s.takesLine)
    (hf : readFields widths p = some f) (ho : owner f s.endOfFrame = (t, a)) :
    s.takeRequest widths p owner = t.close.sendReply a := by
  refine (serve_fields (lineDead_of_takes h) hf).trans ?_
  rw [ho]

theorem readFields_cavityPayload (c : Cavity) :
    readFields oneByteField (cavityPayload c) = some ⟨[some [BitVec.ofNat 8 (cavityCode c)]], false⟩ := rfl

theorem forCavity_byte (op : Cavity → State → State × Answer) (c : Cavity) (s : State) :
    forCavity op ⟨[some [BitVec.ofNat 8 (cavityCode c)]], false⟩ s = op c s := by
  unfold forCavity
  rw [onlyCavity_byte]

/-- A request of one cavity that its owner refuses at once. -/
theorem cavityRequest_refused {op : Cavity → State → State × Answer} {k : Reason} (h : s.takesLine)
    (hb : s.events.outbox = []) (ho : op c s.endOfFrame = (s.endOfFrame, refuse k)) :
    s.takeRequest oneByteField (cavityPayload c) (forCavity op) = (s.refusedWith k).drawOrder :=
  takeRequest_refused h hb (readFields_cavityPayload c) ((forCavity_byte op c _).trans ho)

theorem cavityRequest_carried {op : Cavity → State → State × Answer} (h : s.takesLine)
    (ho : op c s.endOfFrame = (t, a)) :
    s.takeRequest oneByteField (cavityPayload c) (forCavity op) = t.close.sendReply a :=
  takeRequest_carried h (readFields_cavityPayload c) ((forCavity_byte op c _).trans ho)

/-- The fields of START and UNLOCK, with their option given or left out (R67, R88). -/
theorem readFields_option {yes : Bool} (h : p = optionPayload c yes ∨ (p = cavityPayload c ∧ yes = false)) :
    ∃ f, readFields unlockFields p = some f ∧ f.enum 0 cavityOf = some c ∧ optionalBool (f.nat 1) = some yes
      ∧ f.extra = false := by
  rcases h with rfl | ⟨rfl, rfl⟩
  · exact ⟨⟨[some [BitVec.ofNat 8 (cavityCode c)], some [if yes then 1 else 0]], false⟩, rfl, cavityOf_byte c,
      boolOf_byte yes, rfl⟩
  · exact ⟨⟨[some [BitVec.ofNat 8 (cavityCode c)], none], false⟩, rfl, cavityOf_byte c, rfl, rfl⟩

end

/-! ## Table locks -/

namespace EngineActs

variable {c : Cavity} {s t : State}

/-- The table locks after an engine's acts: its own is clear where its cycle has ended (R49). -/
theorem tableLocks_eq (h : EngineActs c s t) (hs : (s.engine c).state ≠ .idle) :
    t.tableLocks = if (t.engine c).state = .idle then s.tableLocks.set c false else s.tableLocks := by
  refine PerCavity.ext_get fun d => ?_
  by_cases hd : d = c
  · subst hd
    rw [h.tableLock hs]
    split <;> simp [*]
  · rw [h.otherTableLock d hd]
    split <;> simp [hd]

/-- A cycle that an engine's acts bring to IDLE or SAFE_COOL is cold (R131). -/
theorem coldNow_of_stopped (h : EngineActs c s t) (hn : (t.engine c).state ≠ .running)
    (hs : (t.engine c).state ≠ (s.engine c).state) : coldNow t c :=
  (h.stopped.resolve_left hn).resolve_left fun e => hs (by rw [e])

end EngineActs

end Sys2Proof.Machine
end

section
/-!
PROOFS. The records of an event in the Event Queue, to the last one: those of one block keep their order, and each has
its place as far as there is room (R169).
-/

namespace Sys2Proof.Machine

open Sys2Proof State

/-- An interleaving of one block's records keeps their order (R169). -/
theorem interleave_block {b : Block} (n : Nat) (l : List Outgoing) (h : ∀ o ∈ l, o.block = b) :
    interleave l.length n l = l := by
  induction l generalizing n with
  | nil => rfl
  | cons o rest ih =>
    have picked : ∀ k : Nat, (((o :: rest)[k]?).getD o).block = b := fun k => by
      cases hk : (o :: rest)[k]? with
      | none => exact h o List.mem_cons_self
      | some y => exact h y (List.mem_of_getElem? hk)
    have taken : takeFirstOf b (o :: rest) = some (o, rest) := if_pos (h o List.mem_cons_self)
    show interleave (rest.length + 1) n (o :: rest) = _
    unfold interleave
    dsimp only
    rw [picked, taken]
    exact congrArg (o :: ·) (ih _ fun y hy => h y (List.mem_cons_of_mem _ hy))

namespace State

variable {s t : State} {bodies : List EventBody} {body : EventBody}

/-- The queue and EVENTS_LOST once a list of records has reached it (R169). -/
theorem enqueueAll_queue (l : List EventRecord) (s : State) (h : s.events.queue.length ≤ 16) :
    (forEach l enqueue s).events.queue = (s.events.queue ++ l).take 16
      ∧ (forEach l enqueue s).link.eventsLost
        = (s.link.eventsLost || decide (16 < s.events.queue.length + l.length)) := by
  induction l generalizing s with
  | nil => exact ⟨by simp [forEach, List.take_of_length_le h], by simp [forEach, h]⟩
  | cons r rest ih =>
    show (forEach rest enqueue (s.enqueue r)).events.queue = _
      ∧ (forEach rest enqueue (s.enqueue r)).link.eventsLost = _
    obtain ⟨queue, lost⟩ := ih (s.enqueue r) ((enqueue_only r s).short h)
    rw [queue, lost]
    unfold enqueue
    split
    · next room =>
      refine ⟨by simp, ?_⟩
      simp only [setEvents_link, setEvents_events, List.length_append, List.length_cons, List.length_nil]
      congr 2
      exact propext (by omega)
    · next full =>
      have length : s.events.queue.length = 16 := by omega
      simp [setLink, length]

/-- The records of a command in the order in which they reach the queue (R169). -/
def delivery (t : State) : List Outgoing := interleave t.events.outbox.length t.order.records t.events.outbox

theorem delivery_perm (t : State) : t.delivery.Perm t.events.outbox := interleave_perm ..

/-- The queue and EVENTS_LOST after the close of a command (R169). -/
theorem close_queue (t : State) (h : t.events.queue.length ≤ 16) :
    t.close.events.queue = (t.events.queue ++ t.delivery.map (·.record)).take 16
      ∧ t.close.link.eventsLost
        = (t.link.eventsLost || decide (16 < t.events.queue.length + t.delivery.length)) := by
  have all := enqueueAll_queue (t.delivery.map (·.record)) (t.setEvents { t.events with outbox := [] }) h
  rw [List.length_map] at all
  exact all

/-- What has been posted is in the queue at the close, where there is room for everything posted (R169). -/
theorem Posted.close_recorded (h : t.Posted body) (room : t.events.queue.length + t.events.outbox.length ≤ 16) :
    t.close.recorded body := by
  obtain ⟨o, ho, rfl⟩ := h
  refine ⟨o.record, ?_, rfl⟩
  rw [(close_queue t (by omega)).1, List.take_of_length_le
    (by rw [List.length_append, List.length_map, (delivery_perm t).length_eq]; exact room)]
  exact List.mem_append_right _ (List.mem_map_of_mem ((delivery_perm t).mem_iff.mpr ho))

/-- Records on their way from a block, stamped at this event (R169). -/
def outgoing (b : Block) (bodies : List EventBody) (s : State) : List Outgoing :=
  bodies.map fun x => ⟨b, x, s.clock.stamp⟩

/-- The records of one block's event in the queue (R169). -/
theorem queued_close {b : Block} (q : t.events.queue = s.events.queue) (link : t.link = s.link)
    (outbox : t.events.outbox = s.outgoing b bodies) (h : s.events.queue.length ≤ 16) : s.queued bodies t.close := by
  have order : t.delivery = s.outgoing b bodies := by
    rw [delivery, interleave_block (b := b) _ _ (by simp [outbox, outgoing]), outbox]
  obtain ⟨queue, lost⟩ := close_queue t (by rw [q]; exact h)
  rw [order, q] at queue lost
  constructor
  · have both : t.close.events = ⟨t.close.events.queue, t.close.events.outbox⟩ := rfl
    rw [both, close_outbox, queue, outgoing, List.map_map]
    rfl
  · have rest : t.close.link = { t.link with eventsLost := t.close.link.eventsLost } := by
      conv_lhs => rw [close_rest]
    rw [rest, lost, link, outgoing, List.length_map]

end State

end Sys2Proof.Machine
end

section
/-!
PROOFS. What a Cycle Engine's acts tell the host: every lock state that its requests bring is posted, it raises no
fault, and an abort posts the ends that it brings (R66, R110, R113).
-/

namespace Sys2Proof.Machine

open Sys2Proof State

/-! ## The notices of a lock request -/

namespace LockCtl

/-- A request makes known the state that it brings, and nothing else (R61, R66). -/
theorem request_notices (p : DoorPolicy) (wait : Bool) (q : LockRequest) (l : LockCtl) :
    (request p wait q l).1.notices = if (request p wait q l).1.lock.state = l.state then []
      else [.changed l.state (request p wait q l).1.lock.state] := by
  have dropped : ∀ (k : LockRequestKind) (l : LockCtl), (dropFromSlot k l).state = l.state := fun k l => by
    unfold dropFromSlot
    split
    · split <;> rfl
    · rfl
  obtain ⟨k, by_⟩ := q
  obtain ⟨x, motor, motion, slot, pending, faults, levels⟩ := l
  cases k with
  | engage =>
    cases x with
    | released =>
      simp only [request, engage, engageReleased]
      split
      · split <;> rfl
      · rfl
    | engaging => simp [request, engage, stay, dropped]
    | engaged => rfl
    | releasing => rfl
    | returning => rfl
    | faulted => rfl
    | notAdopted => rfl
  | release =>
    cases x with
    | engaged =>
      simp only [request, release, releaseEngaged]
      split
      · rfl
      · split <;> rfl
    | releasing => simp [request, release, stay, dropped]
    | released => rfl
    | engaging => rfl
    | returning => rfl
    | faulted => rfl
    | notAdopted => rfl

end LockCtl

namespace State

/-! ## Posted by a lock operation -/

/-- The records of the notices of a lock operation (R66). -/
def noticeBodies (c : Cavity) (l : List LockNotice) : List EventBody := l.filterMap (noticeRecord c)

theorem postNotices_outbox (c : Cavity) (l : List LockNotice) (s : State) :
    (forEach l (postNotice c) s).events.outbox = s.events.outbox ++ s.outgoing (.lock c) (noticeBodies c l) := by
  induction l generalizing s with
  | nil => exact (List.append_nil _).symm
  | cons n rest ih =>
    refine (ih (s.postNotice c n)).trans ?_
    unfold postNotice
    cases h : noticeRecord c n with
    | none => simp [noticeBodies, h]
    | some body => simp [noticeBodies, h, post, outgoing, setEvents]

theorem applyLock_outbox (c : Cavity) (x : LockStep) (s : State) :
    (s.applyLock c x).events.outbox = s.events.outbox ++ s.outgoing (.lock c) (noticeBodies c x.notices) :=
  postNotices_outbox ..

/-- A lock request that leaves the lock state posts nothing (R66). -/
theorem askLock_events {c : Cavity} {w : Bool} {q : LockRequest} {s : State}
    (h : ((s.askLock c w q).1.lock c).state = (s.lock c).state) : (s.askLock c w q).1.events = s.events := by
  rw [show (s.askLock c w q).1.lock c = _ from applyLock_lock_same ..] at h
  have silent := LockCtl.request_notices (s.policy c) w q (s.lock c)
  rw [if_pos h] at silent
  show (forEach (LockCtl.request (s.policy c) w q (s.lock c)).1.notices (postNotice c) _).events = _
  rw [silent]
  rfl

/-- A record of a fault that has been raised. -/
def isFaultRaised : EventBody → Bool
  | .faultRaised .. => true
  | _ => false

end State

/-! ## Told by an engine -/

/-- What an engine's acts post: no fault, and the state of its lock where it is new (R66). -/
structure EngineTells (c : Cavity) (s t : State) : Prop where
  outbox : s.events.outbox <+: t.events.outbox
  raises : ∀ o ∈ t.events.outbox, isFaultRaised o.record.body = true → o ∈ s.events.outbox
  told : (t.lock c).state = (s.lock c).state ∨ t.Posted (.lockChanged c (t.lock c).state)

namespace EngineTells

variable {c : Cavity} {s t u : State}

theorem trans (h : EngineTells c s t) (k : EngineTells c t u) : EngineTells c s u where
  outbox := h.outbox.trans k.outbox
  raises o ho hf := h.raises o (k.raises o ho hf) hf
  told := by
    rcases k.told with same | posted
    · rw [same]
      exact h.told.imp_right (·.mono k.outbox)
    · exact .inr posted

/-- Acts that post nothing and leave the lock. -/
theorem silent (h : t.events = s.events) (hl : t.lock c = s.lock c) : EngineTells c s t :=
  ⟨by rw [h], fun o ho _ => by rw [← h]; exact ho, .inl (by rw [hl])⟩

theorem refl (c : Cavity) (s : State) : EngineTells c s s := silent rfl rfl

theorem ofSettles (h : Settles s t) : EngineTells c s t := silent h.events (by unfold lock; rw [h.locks])

theorem modEngine (s : State) (fn : Engine → Engine) : EngineTells c s (s.modEngine c fn) := silent rfl rfl

theorem announced (fn : Engine → Engine) (s : State) : EngineTells c s (announce (s.modEngine c fn)) :=
  (modEngine s fn).trans (ofSettles (.announce _))

theorem post (s : State) (b : Block) {x : EventBody} (h : isFaultRaised x = false) : EngineTells c s (s.post b x) where
  outbox := (Quiet.post s b x).outbox
  raises o ho hf := by
    rcases List.mem_append.mp ho with ho | ho
    · exact ho
    · rw [List.mem_singleton.mp ho, h] at hf
      exact absurd hf nofun
  told := .inl rfl

theorem askLock (w : Bool) (q : LockRequest) (s : State) : EngineTells c s (s.askLock c w q).1 := by
  have notices := LockCtl.request_notices (s.policy c) w q (s.lock c)
  have lock : (s.askLock c w q).1.lock c = (LockCtl.request (s.policy c) w q (s.lock c)).1.lock :=
    applyLock_lock_same ..
  split at notices
  · next same =>
    have events : (s.askLock c w q).1.events = s.events := askLock_events (by rw [lock, same])
    exact ⟨by rw [events], fun o ho _ => by rw [← events]; exact ho, .inl (by rw [lock, same])⟩
  · refine ⟨(Quiet.askLock c w q s).outbox, fun o ho hf => ?_, .inr ?_⟩
    · rw [show (s.askLock c w q).1.events.outbox = _ from applyLock_outbox .., notices] at ho
      rcases List.mem_append.mp ho with ho | ho
      · exact ho
      · rw [List.mem_singleton.mp ho] at hf
        exact absurd hf nofun
    · rw [lock]
      exact applyLock_posted (by rw [notices]; exact List.mem_singleton_self _) rfl s

theorem toIdle (r : CycleResult) (k : Condition) (s : State) : EngineTells c s (s.toIdle c r k) :=
  (silent rfl rfl : EngineTells c s (setTableLock c false (s.modEngine c _))).trans
    ((post _ (.engine c) rfl).trans (ofSettles (.announce _)))

theorem judgeSafeCool (s : State) : EngineTells c s (s.judgeSafeCool c) := by
  unfold State.judgeSafeCool
  dsimp only
  split
  · exact toIdle ..
  · exact refl c s

theorem abortAsk (s : State) : EngineTells c s (s.abortAsk c) := by
  unfold State.abortAsk
  split <;> first | exact askLock .. | exact refl c s

theorem abortRecord (k : Condition) (s : State) : EngineTells c s (s.abortRecord c k) := by
  unfold State.abortRecord
  dsimp only
  split
  · exact post _ _ rfl
  · exact refl c s

theorem abortBegun (k : Condition) (s : State) : EngineTells c s (State.abortBegun c k s) :=
  (((abortRecord k s).trans (announced ..)).trans (abortAsk _)).trans (ofSettles (.announce _))

theorem abortCycle (k : Condition) (s : State) : EngineTells c s (State.abortCycle c k s) := by
  cases h : s.inCycle c with
  | false =>
    rw [abortCycle_none _ _ _ h]
    exact refl c s
  | true =>
    rw [abortCycle_eq _ _ _ h]
    exact (abortBegun k s).trans (judgeSafeCool _)

theorem hold (s : State) : EngineTells c s (State.hold c s) := announced ..

theorem askEngage (s : State) : EngineTells c s (s.askEngage c).1 :=
  (askLock false ⟨.engage, .engine⟩ s).trans (modEngine _ fun e => { e with engageWaiting := decide (_ = _) })

theorem entryAsk (r : SegmentRecord) (s : State) : EngineTells c s (State.entryAsk c r s).1 := by
  unfold State.entryAsk
  split
  · exact askEngage s
  · exact askLock ..
  · exact refl c s

theorem enterSegment (i : Nat) (r : SegmentRecord) (s : State) : EngineTells c s (State.enterSegment c i r s).1 :=
  ((modEngine ..).trans (entryAsk r _)).trans (ofSettles (.announce _))

theorem postDone (i : Nat) (s : State) : EngineTells c s (State.postDone c i s) := post _ _ rfl

theorem runFrom (l : List SegmentRecord) (i : Nat) (s : State) : EngineTells c s (State.runFrom c l i s) := by
  induction l generalizing i s with
  | nil => exact refl c s
  | cons r rest ih =>
    unfold State.runFrom
    dsimp only
    have entered := enterSegment (c := c) i r s
    have done := entered.trans (postDone i _)
    split
    · exact entered
    · split
      · exact done.trans (toIdle ..)
      · split
        · exact done.trans (hold _)
        · exact done.trans (ih _ _)
    · exact entered.trans (abortCycle ..)

theorem endDone (i : Nat) (s : State) : EngineTells c s (State.endDone c i s) := by
  have done := postDone (c := c) i s
  unfold State.endDone
  dsimp only
  split
  · exact done.trans (toIdle ..)
  · split
    · exact done.trans (hold _)
    · exact done.trans (runFrom ..)

theorem judge (k : Causes) (s : State) : EngineTells c s (State.judge c k s) := by
  unfold State.judge
  split
  · split
    · split
      · exact refl c s
      · exact endDone ..
      · exact abortCycle ..
    · exact refl c s
  · split
    · exact abortCycle ..
    · exact refl c s
  · split
    · exact abortCycle ..
    · exact refl c s
  · exact refl c s

theorem onLockChanged (a b : LockState) (s : State) : EngineTells c s (State.onLockChanged c a b s) := by
  unfold State.onLockChanged
  split
  · exact judgeSafeCool s
  · exact refl c s
  · split
    · split
      · exact ((askEngage s).trans (ofSettles (.announce _))).trans (judge ..)
      · exact judge ..
    · exact judge ..

theorem onLockNotice (n : LockNotice) (s : State) : EngineTells c s (State.onLockNotice c n s) := by
  unfold State.onLockNotice
  split
  · exact onLockChanged ..
  · exact judge ..
  · exact judge ..
  · split
    · exact judge ..
    · exact refl c s
  · exact refl c s

end EngineTells

/-! ## The records of an abort -/

namespace State

variable {c : Cavity} {s t : State} {k : Condition}

theorem toIdle_posted (c : Cavity) (r : CycleResult) (k : Condition) (s : State) :
    (s.toIdle c r k).Posted (.cycleEnded c r k) := (posted_post ..).quiet (.announce _)

/-- The ends that an abort posts: of the segment in RUNNING and PAUSED, and of the cycle with IDLE (R110, R113). -/
structure AbortPosted (c : Cavity) (k : Condition) (s t : State) : Prop where
  segment : (s.engine c).state = .running ∨ (s.engine c).state = .paused →
    t.Posted (.segmentEnded c ((s.engine c).segmentIndex.getD 0) k)
  cycle : (t.engine c).state = .idle → t.Posted (.cycleEnded c .aborted k)

theorem AbortPosted.close (h : AbortPosted c k s t) : s.AbortRecorded c k t.close :=
  ⟨fun hs => (h.segment hs).close, fun ht => (h.cycle (by simpa using ht)).close⟩

theorem AbortPosted.congr {u : State} (h : AbortPosted c k s t) (he : s.engine c = u.engine c) :
    AbortPosted c k u t := by
  obtain ⟨segment, cycle⟩ := h
  rw [he] at segment
  exact ⟨segment, cycle⟩

theorem abortCycle_posted (h : s.inCycle c = true) : AbortPosted c k s (abortCycle c k s) := by
  rw [abortCycle_eq _ _ _ h]
  refine ⟨fun hs => ?_, fun ht => ?_⟩
  · have recorded : (abortRecord c k s).Posted (.segmentEnded c ((s.engine c).segmentIndex.getD 0) k) := by
      unfold abortRecord
      rw [if_pos hs]
      exact posted_post ..
    exact recorded.quiet (((((Quiet.modEngine ..).trans (.announce _)).trans (.abortAsk c _)).trans (.announce _)).trans
      (.judgeSafeCool c _))
  · unfold judgeSafeCool at ht ⊢
    dsimp only at ht ⊢
    have begun : (abortBegun c k s).engine c = abortedBy k (s.engine c) := abortBegun_engine ..
    split at ht
    · next ended =>
      rw [if_pos ended, begun]
      exact toIdle_posted ..
    · rw [begun] at ht
      exact absurd ht nofun

/-- An aborted engine has nothing to do at a change of its lock that does not end SAFE_COOL (R113). -/
theorem onLockChanged_aborted (a b : LockState) (h : s.inCycle c = true) :
    onLockChanged c a b (abortCycle c k s) = abortCycle c k s := by
  have engine : (abortCycle c k s).engine c = abortedUnder (s.lock c).state k (s.engine c) :=
    (abortCycle_engine ..).trans (if_pos h)
  have lock := abortCycle_lock c k s h
  generalize abortCycle c k s = t at engine lock
  unfold onLockChanged
  by_cases held : (s.lock c).state = .released ∨ (s.lock c).state = .faulted
  · rw [abortedUnder, if_pos held] at engine
    rw [engine]
    rfl
  · rw [abortedUnder, if_neg held] at engine
    rw [engine]
    refine if_neg fun ended => held ?_
    rw [lock, askedByAbort_state] at ended
    exact ended.2

end State

end Sys2Proof.Machine
end

section
/-!
PROOFS. An event at a Door Lock Controller: the lock and its records are taken, then the notices are carried to the
engine, which an idle cavity's engine does not answer (R66, R131); and the host's lock requests (O17).
-/

namespace Sys2Proof.Machine

open Sys2Proof State

namespace State

/-! ## The lock taken -/

/-- A lock that has taken the result of an operation, with permission judged afresh, before its notices are carried
(R66, R131). -/
def lockTaken (c : Cavity) (x : LockStep) (s : State) : State := review (s.applyLock c x)

theorem lockEvent_eq (c : Cavity) (x : LockStep) (s : State) :
    lockEvent c x s = forEach x.notices (carryNotice c) (lockTaken c x s) := rfl

variable (c : Cavity) (x : LockStep) (s : State)

theorem lockTaken_quiet : Quiet s (lockTaken c x s) := (Quiet.applyLock c x s).trans (.review _)

theorem lockTaken_elsewhere : Elsewhere c s (lockTaken c x s) :=
  (Elsewhere.applyLock c x s).trans (.ofEngine (.ofSettles (.review _)) (.review _))

@[simp] theorem lockTaken_lock : (lockTaken c x s).lock c = x.lock := by simp [lockTaken]
@[simp] theorem lockTaken_engine (d : Cavity) : (lockTaken c x s).engine d = s.engine d := by simp [lockTaken]
@[simp] theorem lockTaken_tableLocks : (lockTaken c x s).tableLocks = s.tableLocks := by
  simp [lockTaken, (Settles.review _).tableLocks]
@[simp] theorem lockTaken_tables : (lockTaken c x s).tables = s.tables := (lockTaken_quiet c x s).tables
@[simp] theorem lockTaken_channels : (lockTaken c x s).channels = s.channels := (lockTaken_quiet c x s).channels
@[simp] theorem lockTaken_bandIndex : (lockTaken c x s).bandIndex = s.bandIndex := (lockTaken_elsewhere c x s).bandIndex
@[simp] theorem lockTaken_sup : (lockTaken c x s).sup = s.sup := by
  obtain ⟨y, h⟩ := applyLock_rest c x s
  rw [lockTaken, (Settles.review _).sup, h]
  rfl
@[simp] theorem lockTaken_policy (d : Cavity) : (lockTaken c x s).policy d = s.policy d :=
  policy_congr (lockTaken_tables c x s) (lockTaken_bandIndex c x s) (lockTaken_channels c x s) d

theorem lockTaken_outbox :
    (lockTaken c x s).events.outbox = s.events.outbox ++ s.outgoing (.lock c) (noticeBodies c x.notices) := by
  rw [lockTaken, (Settles.review _).events, applyLock_outbox]

theorem lockTaken_posted {n : LockNotice} {body : EventBody} (hn : n ∈ x.notices) (hb : noticeRecord c n = some body) :
    (lockTaken c x s).Posted body := (applyLock_posted hn hb s).quiet (.review _)

/-! ## The notices carried -/

/-- A notice that is not an adoption reaches the Allocator and the engine alone (R64, R66). -/
theorem carryNotice_acts {n : LockNotice} (h : n ≠ .adopted) :
    EngineActs c s (carryNotice c n s) ∧ EngineTells c s (carryNotice c n s) := by
  unfold carryNotice
  cases n with
  | adopted => exact absurd rfl h
  | breached =>
    have withdrawn := Settles.withdrawCavity c s
    exact ⟨(EngineActs.ofSettles withdrawn).trans (.onLockNotice ..),
      (EngineTells.ofSettles withdrawn).trans (.onLockNotice ..)⟩
  | raised f => exact ⟨.onLockNotice .., .onLockNotice ..⟩
  | cleared f => exact ⟨.onLockNotice .., .onLockNotice ..⟩
  | changed a b => exact ⟨.onLockNotice .., .onLockNotice ..⟩
  | slipped => exact ⟨.onLockNotice .., .onLockNotice ..⟩
  | engageRefused by_ => exact ⟨.onLockNotice .., .onLockNotice ..⟩

theorem lockEvent_acts (h : .adopted ∉ x.notices) :
    EngineActs c (lockTaken c x s) (lockEvent c x s) ∧ EngineTells c (lockTaken c x s) (lockEvent c x s) :=
  (forEach_rel (P := fun _ => True) (R := fun s t => EngineActs c s t ∧ EngineTells c s t)
    (fun s => ⟨.refl s, .refl c s⟩) (fun h k => ⟨h.1.trans k.1, h.2.trans k.2⟩) x.notices (carryNotice c)
    (fun _ hn s _ => ⟨carryNotice_acts c s fun e => h (e ▸ hn), trivial⟩) _ trivial).1

theorem lockEvent_elsewhere (h : .adopted ∉ x.notices) : Elsewhere c s (lockEvent c x s) :=
  (lockTaken_elsewhere c x s).trans
    (.ofEngine (lockEvent_acts c x s h).1.toEngineFrame (.forEach _ _ (.carryNotice c) _))

theorem lockEvent_sup (h : .adopted ∉ x.notices) : (lockEvent c x s).sup = s.sup :=
  (lockEvent_acts c x s h).1.sup.trans (lockTaken_sup c x s)

/-- An engine in IDLE answers no notice of its lock (R66, R91). -/
theorem onLockNotice_idle {c : Cavity} {s : State} (hi : (s.engine c).state = .idle) (n : LockNotice) :
    onLockNotice c n s = s := by
  cases n with
  | changed a b =>
    show onLockChanged c a b s = s
    unfold onLockChanged
    rw [hi]
  | breached => exact judge_idle hi _
  | slipped => exact judge_idle hi _
  | engageRefused by_ =>
    cases by_ with
    | engine => exact if_neg (by simp [inEngage, hi])
    | host => rfl
  | raised f => rfl
  | cleared f => rfl
  | adopted => rfl

theorem carryNotice_idle {c : Cavity} {s : State} (hi : (s.engine c).state = .idle) {n : LockNotice}
    (h : n ≠ .adopted) : Settles s (carryNotice c n s) := by
  unfold carryNotice
  cases n with
  | adopted => exact absurd rfl h
  | breached =>
    have withdrawn := Settles.withdrawCavity c s
    rw [onLockNotice_idle (by rw [engine, withdrawn.engines]; exact hi)]
    exact withdrawn
  | raised f => exact .refl s
  | cleared f => exact .refl s
  | changed a b =>
    rw [onLockNotice_idle hi]
    exact .refl s
  | slipped =>
    rw [onLockNotice_idle hi]
    exact .refl s
  | engageRefused by_ =>
    rw [onLockNotice_idle hi]
    exact .refl s

/-- A lock event of an idle cavity (R66, R131). -/
theorem lockEvent_idle {c : Cavity} {x : LockStep} {s : State} (hi : (s.engine c).state = .idle)
    (h : .adopted ∉ x.notices) : Settles (lockTaken c x s) (lockEvent c x s) :=
  (forEach_rel (P := fun s => (s.engine c).state = .idle) .refl .trans x.notices (carryNotice c)
    (fun n hn s hs => by
      have settles := carryNotice_idle hs (n := n) fun e => h (e ▸ hn)
      exact ⟨settles, by rw [engine, settles.engines]; exact hs⟩) _ (by simpa using hi)).1

theorem lockEvent_idle_lock {c : Cavity} {x : LockStep} {s : State} (hi : (s.engine c).state = .idle)
    (h : .adopted ∉ x.notices) : (lockEvent c x s).lock c = x.lock := by
  rw [lock, (lockEvent_idle hi h).locks]
  exact lockTaken_lock c x s

theorem lockEvent_idle_engine {c : Cavity} {x : LockStep} {s : State} (hi : (s.engine c).state = .idle)
    (h : .adopted ∉ x.notices) : (lockEvent c x s).engine c = s.engine c := by
  rw [engine, (lockEvent_idle hi h).engines]
  exact lockTaken_engine c x s c

theorem lockEvent_idle_tableLocks {c : Cavity} {x : LockStep} {s : State} (hi : (s.engine c).state = .idle)
    (h : .adopted ∉ x.notices) : (lockEvent c x s).tableLocks = s.tableLocks := by
  rw [(lockEvent_idle hi h).tableLocks, lockTaken_tableLocks]

end State

/-! ## A host request -/

/-- The reason of an answer, where it is a refusal (R61). -/
def LockAnswer.reason : LockAnswer → Option Reason
  | .done => none
  | .refused k => some k

theorem LockCtl.request_not_adopted (p : DoorPolicy) (wait : Bool) (q : LockRequest) (l : LockCtl) :
    .adopted ∉ (LockCtl.request p wait q l).1.notices := by
  rw [request_notices]
  split <;> simp

theorem LockCtl.dropFromSlot_release (l : LockCtl) : dropFromSlot .release l = { l with slot := match l.slot with
    | some ⟨.release, _⟩ => none
    | x => x } := by
  obtain ⟨x, motor, motion, slot, pending, faults, levels⟩ := l
  rcases slot with _ | ⟨_ | _, by_⟩ <;> rfl

theorem LockCtl.dropFromSlot_engage (l : LockCtl) : dropFromSlot .engage l = { l with slot := match l.slot with
    | some ⟨.engage, _⟩ => none
    | x => x } := by
  obtain ⟨x, motor, motion, slot, pending, faults, levels⟩ := l
  rcases slot with _ | ⟨_ | _, by_⟩ <;> rfl

theorem LockCtl.engage_engaging {by_ : Requester} {l : LockCtl} (h : l.state = .engaging) :
    engage by_ l = (stay (dropFromSlot .release l), .done) := by
  obtain ⟨x, motor, motion, slot, pending, faults, levels⟩ := l
  cases h
  rfl

theorem LockCtl.release_releasing {p : DoorPolicy} {wait : Bool} {by_ : Requester} {l : LockCtl}
    (h : l.state = .releasing) : release p wait by_ l = (stay (dropFromSlot .engage l), .done) := by
  obtain ⟨x, motor, motion, slot, pending, faults, levels⟩ := l
  cases h
  rfl

namespace State

variable {s : State} {c : Cavity} {i : Instr} {k : LockRequestKind} {wait : Bool}

/-- The answer to a host request and what it carries (R61, R67). -/
theorem hostAsk_eq (c : Cavity) (k : LockRequestKind) (wait : Bool) (s : State) : hostAsk c k wait s
    = (s.lockEvent c (LockCtl.request (s.policy c) wait ⟨k, .host⟩ (s.lock c)).1,
      ⟨(LockCtl.request (s.policy c) wait ⟨k, .host⟩ (s.lock c)).2.reason, false,
        encodeItems ((s.lockEvent c (LockCtl.request (s.policy c) wait ⟨k, .host⟩ (s.lock c)).1).lockItems c),
        false⟩) := by
  unfold hostAsk
  dsimp only
  split <;> next h => rw [h]; rfl

theorem encodeItems_lock (s : State) (c : Cavity) : encodeItems (s.lockItems c)
    = [3] ++ u8 (lockStateCode (s.lock c).state) ++ u8 (releasePendingCode (s.lock c).releasePending) := by
  simp [encodeItems, lockItems, here, packBits, leBytes, bitsNat]

/-- A host request of an idle cavity, as the lock takes it (R67). -/
theorem host_taken {l' : LockCtl} {reason : Option Reason} (idle : (s.engine c).state = .idle)
    (carried : ∀ t a, hostLock c k wait s.endOfFrame = (t, a) → exec i s = .next (t.close.sendReply a))
    (hl : (LockCtl.request (s.policy c) wait ⟨k, .host⟩ (s.lock c)).1.lock = l')
    (hr : (LockCtl.request (s.policy c) wait ⟨k, .host⟩ (s.lock c)).2.reason = reason) :
    ∃ t, exec i s = .next t ∧ t.lock c = l' ∧ t.engine c = s.engine c ∧ t.tableLocks = s.tableLocks
      ∧ Elsewhere c s t ∧ t.sup = s.sup
      ∧ s.replied reason false ([3] ++ u8 (lockStateCode l'.state) ++ u8 (releasePendingCode l'.releasePending)) t := by
  have idle' : (s.endOfFrame.engine c).state = .idle := by simpa using idle
  have plain := LockCtl.request_not_adopted (s.policy c) wait ⟨k, .host⟩ (s.lock c)
  have asked := hostAsk_eq c k wait s.endOfFrame
  rw [policy_endOfFrame, lock_endOfFrame, encodeItems_lock, lockEvent_idle_lock idle' plain, hl, hr] at asked
  have answer : hostLock c k wait s.endOfFrame = hostAsk c k wait s.endOfFrame := if_pos idle'
  refine ⟨_, carried _ _ (answer.trans asked), ?_⟩
  have elsewhere := lockEvent_elsewhere c _ s.endOfFrame plain
  exact ⟨by simp [lockEvent_idle_lock idle' plain, hl], by simp [lockEvent_idle_engine idle' plain],
    by simp [lockEvent_idle_tableLocks idle' plain, endOfFrame_tableLocks], elsewhere.request _,
    by simp [lockEvent_sup _ _ _ plain], replied_close (Quiet.lockEvent c _ _).link rfl⟩

theorem hostLock_notIdle (h : (s.engine c).state ≠ .idle) :
    hostLock c k wait s.endOfFrame = (s.endOfFrame, refuse .notIdle) := if_neg (by simpa using h)

theorem unlockAnswer_option {p : List Byte} (hp : p = optionPayload c wait ∨ (p = cavityPayload c ∧ wait = false)) :
    ∃ f, readFields unlockFields p = some f ∧ unlockAnswer f s.endOfFrame = hostLock c .release wait s.endOfFrame := by
  obtain ⟨f, read, cavity, option, extra⟩ := readFields_option hp
  refine ⟨f, read, ?_⟩
  unfold unlockAnswer
  rw [cavity, option]
  exact if_neg (by rw [extra]; exact nofun)

end State

/-- Settles O17: the request table of R61, row by row. -/
theorem hostLockRequestsByState : Obligations.HostLockRequestsByState := by
  intro s c line hb l taken lock
  refine ⟨fun busy => ?_, fun idle => ?_, fun wait p hp => ?_⟩
  · exact congrArg Host.Outcome.next (cavityRequest_refused line hb (hostLock_notIdle busy))
  · have engages : ∀ l' reason, (LockCtl.engage .host l).1.lock = l' → (LockCtl.engage .host l).2.reason = reason →
        taken lock reason l' := fun l' reason =>
      host_taken (k := .engage) (wait := false) idle fun t a h =>
        congrArg Host.Outcome.next (cavityRequest_carried line h)
    refine ⟨fun hs hd => ?_, fun hs hd hl => ?_, fun hs hd hl => ?_, fun hs => ?_, fun hs => ?_, fun hs => ?_,
      fun hs => ?_, fun hs => ?_⟩
    · apply engages <;> simp [LockCtl.engage, LockCtl.engageReleased, LockCtl.stay, LockAnswer.reason, hs, hd]
    · apply engages <;> simp [LockCtl.engage, LockCtl.engageReleased, LockCtl.run, LockAnswer.reason, hs, hd, hl]
    · apply engages <;> simp [LockCtl.engage, LockCtl.engageReleased, LockCtl.rest, LockAnswer.reason, hs, hd, hl]
    · apply engages <;> rw [LockCtl.engage_engaging hs]
      · exact LockCtl.dropFromSlot_release l
      · rfl
    · apply engages <;> simp [LockCtl.engage, LockCtl.stay, LockAnswer.reason, hs]
    · apply engages <;> simp [LockCtl.engage, LockCtl.stay, LockAnswer.reason, hs]
    · rcases hs with hs | hs <;> apply engages <;> simp [LockCtl.engage, LockCtl.stay, LockAnswer.reason, hs]
    · apply engages <;> simp [LockCtl.engage, LockCtl.stay, LockAnswer.reason, hs]
  · obtain ⟨f, read, owner⟩ := unlockAnswer_option (s := s) hp
    refine ⟨fun busy => ?_, fun idle => ?_⟩
    · exact congrArg Host.Outcome.next (takeRequest_refused line hb read (owner.trans (hostLock_notIdle busy)))
    · have releases : ∀ l' reason, (LockCtl.release (s.policy c) wait .host l).1.lock = l' →
          (LockCtl.release (s.policy c) wait .host l).2.reason = reason → taken (.unlock p) reason l' :=
        fun l' reason =>
        host_taken (k := .release) (wait := wait) idle fun t a h =>
          congrArg Host.Outcome.next (takeRequest_carried line read (owner.trans h))
      refine ⟨fun hs => ?_, fun hs => ?_, fun hs hp => ?_, fun hs hp hw => ?_, fun hs hp hw => ?_, fun hs => ?_,
        fun hs => ?_, fun hs => ?_⟩
      · rcases hs with hs | hs <;> apply releases <;> simp [LockCtl.release, LockCtl.stay, LockAnswer.reason, hs]
      · apply releases <;> simp [LockCtl.release, LockCtl.stay, LockAnswer.reason, hs]
      · apply releases <;>
          simp [LockCtl.release, LockCtl.releaseEngaged, LockCtl.beginRelease, LockCtl.run, LockAnswer.reason, hs, hp]
      · apply releases <;> simp [LockCtl.release, LockCtl.releaseEngaged, LockCtl.stay, LockAnswer.reason, hs, hp, hw]
      · apply releases <;> simp [LockCtl.release, LockCtl.releaseEngaged, LockCtl.stay, LockAnswer.reason, hs, hp, hw]
      · apply releases <;> rw [LockCtl.release_releasing hs]
        · exact LockCtl.dropFromSlot_engage l
        · rfl
      · apply releases <;> simp [LockCtl.release, LockCtl.stay, LockAnswer.reason, hs]
      · apply releases <;> simp [LockCtl.release, LockCtl.stay, LockAnswer.reason, hs]

end Sys2Proof.Machine
end

section
/-!
PROOFS. The last second of a SOAK: the tick's work, the end DONE that it brings, and what that leads to (O24).
-/

namespace Sys2Proof.Machine

open Sys2Proof State

theorem PerCavity.set_set {α : Type} (p : PerCavity α) (c : Cavity) (x y : α) : (p.set c x).set c y = p.set c y := by
  cases c <;> rfl

namespace State

variable {s : State} {c : Cavity} {f : Int} {r : SegmentRecord} {k : Causes} {index : Nat}

/-! ## An end DONE -/

/-- The first ending of R91's order is DONE where nothing forces another and the end condition holds. -/
theorem ending_done (hu : s.unforced c f) (hk : k.catLost = true → s.regulating c = false) (hb : k.breach = false)
    (hj : k.jammed = false) (hd : k.doorOpen = false) (hg : ¬ s.GoesOn c f (s.engine c) (s.lock c).state r) :
    ending c r k s = some .done := by
  simp [ending, forcedEnding_none hu hk hb, hj, hd, segmentDone_of_not_goesOn hu.2.1 hg]

theorem toIdle_events (c : Cavity) (x : CycleResult) (k : Condition) (s : State) : (s.toIdle c x k).events
    = ⟨s.events.queue, s.events.outbox ++ [⟨.engine c, .cycleEnded c x k, s.clock.stamp⟩]⟩ :=
  (Settles.announce _).events

theorem hold_events (c : Cavity) (s : State) : (hold c s).events = s.events := (Settles.announce _).events

/-- After the last segment an end DONE completes the cycle (R114). -/
theorem endDone_last (h : (s.program c).length = index) : endDone c index s = complete c (postDone c index s) :=
  if_pos (Nat.le_of_eq h)

/-- In a single-step cycle an end DONE with segments to come holds it (R108). -/
theorem endDone_hold (h : index < (s.program c).length) (single : (s.engine c).singleStep = true) :
    endDone c index s = hold c (postDone c index s) :=
  (if_neg (Nat.not_le.mpr h)).trans (if_pos single)

/-! ## The tick -/

/-- The engine after a tick that counts a second of a SOAK down to 0 (R87, R97). -/
def soakCounted (e : Engine) : Engine :=
  { ticked e with
    segmentElapsed := e.segmentElapsed + 1
    soakRemaining := some 0
    soakSeconds := e.soakSeconds + 1
    undershootCount := 0 }

theorem soakCounted_done {r : SoakRecord} : ¬ (s.setEngine c (soakCounted (s.engine c))).GoesOn c f
    ((s.setEngine c (soakCounted (s.engine c))).engine c) ((s.setEngine c (soakCounted (s.engine c))).lock c).state
    (.soak r) := by
  rw [engine_setEngine_same]
  exact fun goesOn => goesOn rfl

theorem bump32_of_lt {n : Nat} (h : n < 4294967295) : bump32 n = n + 1 := if_pos h

/-- What the last second of a SOAK finds (R97). -/
structure LastSoakSecond (c : Cavity) (r : SoakRecord) (f : Int) (index : Nat) (s : State) : Prop where
  running : (s.engine c).state = .running
  due : s.tickDue c = true
  index : (s.engine c).segmentIndex = some index
  record : s.currentRecord c = some (.soak r)
  unforced : s.unforced c f
  warm : r.target - r.tolerance ≤ f
  remaining : (s.engine c).soakRemaining = some 1
  cycle : (s.engine c).cycleSeconds < 4294967295
  elapsed : (s.engine c).segmentElapsed < 4294967295
  soak : (s.engine c).soakSeconds < 4294967295

namespace LastSoakSecond

variable {r : SoakRecord} (h : LastSoakSecond c r f index s)
include h

theorem runningWork_counted :
    runningWork c (s.modEngine c countTick) = s.setEngine c (soakCounted (s.engine c)) := by
  have record : (s.modEngine c countTick).currentRecord c = some (.soak r) := by
    rw [← h.record]
    simp [currentRecord, countTick, program, State.modEngine, setEngine, engine]
  have warm : (s.modEngine c countTick).atOrAbove (.cav c) (r.target - r.tolerance) = true := by
    have present : (s.modEngine c countTick).f (.cav c) = some f := h.unforced.2.1
    simp [atOrAbove, present, h.warm]
  have engine : (s.modEngine c countTick).engine c = countTick (s.engine c) := engine_modEngine_same ..
  unfold runningWork
  rw [record]
  show (s.modEngine c countTick).setEngine c (soakWork _ _) = _
  rw [warm, engine]
  simp only [soakWork, countTick, h.remaining, bump32_of_lt h.cycle, bump32_of_lt h.elapsed, bump32_of_lt h.soak]
  exact congrArg (fun x => { s with engines := x }) (PerCavity.set_set ..)

theorem counted_unforced : (s.setEngine c (soakCounted (s.engine c))).unforced c f := by
  obtain ⟨valid, present, ceiling, lock⟩ := h.unforced
  exact ⟨valid, present, by rw [engine_setEngine_same]; exact ceiling, lock⟩

theorem counted_record : (s.setEngine c (soakCounted (s.engine c))).currentRecord c = some (.soak r) := by
  rw [← h.record]
  simp [currentRecord, soakCounted, ticked, program]

/-- The tick ends the segment DONE (R90, R97). -/
theorem tickEngine_eq : tickEngine c s = endDone c index (s.setEngine c (soakCounted (s.engine c))) := by
  have tick : tickEngine c s = judge c { tick := true } (runningWork c (s.modEngine c countTick)) := by
    unfold tickEngine
    rw [h.running]
  rw [tick, h.runningWork_counted]
  exact judge_done h.counted_unforced nofun rfl rfl rfl (by rw [engine_setEngine_same]; exact h.running)
    (by rw [engine_setEngine_same]; exact h.index) h.counted_record soakCounted_done

theorem soaksOut : s.soaksOut c = true := by
  have remaining : ((runningWork c s).engine c).soakRemaining = some 0 := by
    have warm : s.atOrAbove (.cav c) (r.target - r.tolerance) = true := by
      simp [atOrAbove, h.unforced.2.1, h.warm]
    simp [runningWork, h.record, kindWork, soakWork, warm, h.remaining]
  have ending : s.tickEnding c = some .done := by
    unfold tickEnding
    dsimp only
    rw [h.runningWork_counted, h.running, h.counted_record]
    exact ending_done h.counted_unforced nofun rfl rfl rfl soakCounted_done
  simp [State.soaksOut, h.record, remaining, ending]

theorem exec_tick : exec (.tick c) s = .next (endDone c index (s.setEngine c (soakCounted (s.engine c)))).close := by
  rw [← h.tickEngine_eq]
  exact congrArg Host.Outcome.next (if_pos h.due)

theorem exec_soakRemainingZero : exec (.soakRemainingZero c) s
    = .next (endDone c index (s.setEngine c (soakCounted (s.engine c)))).close := by
  rw [← h.tickEngine_eq]
  exact congrArg Host.Outcome.next (if_pos (by rw [h.due, h.soaksOut]; rfl))

end LastSoakSecond

end State

/-- Settles O24: the tick is an end DONE of the engine that has counted its second. -/
theorem soakCountdownEndsSegment : Obligations.SoakCountdownEndsSegment := by
  intro s c r f index hb e running due hi record unforced warm remaining cycle elapsed soak counted
  have last : LastSoakSecond c r f index s :=
    ⟨running, isDue_iff.mpr due, hi, record, unforced, warm, remaining, cycle, elapsed, soak⟩
  have exec_eq := last.exec_soakRemainingZero
  have started : counted = soakCounted (s.engine c) := rfl
  rw [started]
  generalize hv : s.setEngine c (soakCounted (s.engine c)) = v at exec_eq
  have engine : v.engine c = soakCounted (s.engine c) := by rw [← hv, engine_setEngine_same]
  have lock : v.lock c = s.lock c := by rw [← hv]; rfl
  have vrun : (v.engine c).state = .running := by rw [engine]; exact running
  have leads := endDone_leads (index := index) vrun (hv ▸ last.counted_unforced)
  have acts := EngineActs.endDone c index v vrun
  have recorded := DoneActs.ofEndDone (c := c) (index := index) vrun
  have quiet := Quiet.endDone c index v
  have elsewhere : Elsewhere c s (endDone c index v) :=
    Elsewhere.trans (t := v) (by rw [← hv]; exact .ofEngine (.modEngine s c fun _ => _) (.engine ..))
      (.ofEngine acts.toEngineFrame quiet)
  have sup : (endDone c index v).sup = s.sup := acts.sup.trans (by rw [← hv]; rfl)
  have tableLocks := acts.tableLocks_eq (by rw [vrun]; nofun)
  have table : v.tableLocks = s.tableLocks := by rw [← hv]; rfl
  have program : v.program c = s.program c := by rw [← hv]; rfl
  have queue : v.events = ⟨s.events.queue, []⟩ := by rw [← hv, ← hb]; rfl
  rw [table] at tableLocks
  rw [engine, lock] at leads
  have leads' : DoneUnder (s.policy c) s c index f (s.lock c) (soakCounted (s.engine c)) ((endDone c index v).lock c)
      ((endDone c index v).engine c) := by
    rw [← hv] at leads ⊢
    exact doneUnder_congr rfl rfl leads
  refine ⟨by rw [last.exec_tick, last.exec_soakRemainingZero], fun final => ?_, fun more single => ?_,
    fun more single => ?_⟩
  · obtain ⟨ended, lock'⟩ := leads'.1 final
    have outbox : (endDone c index v).events.queue.length = s.events.queue.length
        ∧ (endDone c index v).events.outbox.length = 2 := by
      rw [endDone_last (program ▸ final), complete, toIdle_events]
      simp [postDone, State.post, queue]
    refine ⟨_, exec_eq, by rw [engine_close, ended], ?_, by rw [lock_close, lock'], ?_, elsewhere.close,
      by rw [close_sup, sup], fun room => ⟨?_, ?_⟩⟩
    · rw [close_tableLocks, tableLocks, if_pos (by rw [ended]; rfl)]
    · exact coldNow_close (recorded.stopped (by rw [ended]; exact nofun))
    · exact recorded.ended.close_recorded (by omega)
    · exact (recorded.completed (program ▸ final)).close_recorded (by omega)
  · obtain ⟨held, lock'⟩ := leads'.2.1 more single
    have outbox : (endDone c index v).events.queue.length = s.events.queue.length
        ∧ (endDone c index v).events.outbox.length = 1 := by
      rw [endDone_hold (program ▸ more) (by rw [engine]; exact single), hold_events]
      simp [postDone, State.post, queue]
    refine ⟨_, exec_eq, by rw [engine_close, held], ?_, by rw [lock_close, lock'], ?_, elsewhere.close,
      by rw [close_sup, sup], fun room => ?_⟩
    · rw [close_tableLocks, tableLocks, if_neg (by rw [held]; exact nofun)]
    · exact coldNow_close (recorded.stopped (by rw [held]; exact nofun))
    · exact recorded.ended.close_recorded (by omega)
  · exact ⟨_, exec_eq, by rw [engine_close, lock_close, doneLeadsTo_iff]; exact leads', recorded.ended.close,
      elsewhere.close, by rw [close_sup, sup]⟩

end Sys2Proof.Machine
end

section
/-!
PROOFS. The entry of a segment through its end DONE, and STEP, which enters the next segment of a held cycle (O14).
-/

namespace Sys2Proof.Machine

open Sys2Proof State

namespace State

variable {s : State} {c : Cavity} {f start : Int} {r : SegmentRecord} {index : Nat}

/-- An entry that leaves the lock state tells nothing (R66, R90). -/
theorem enterSegment_events (h : (askedByEntry (s.policy c) r (s.lock c)).state = (s.lock c).state) :
    (s.enterSegment c (index + 1) r).1.events = s.events := by
  rw [← enterSegment_lock c (index + 1) r s] at h
  revert h
  unfold enterSegment
  dsimp only
  rw [lock_announce, (Settles.announce _).events]
  cases r with
  | engage => exact askLock_events
  | release => exact askLock_events
  | catalyst a b => exact fun _ => rfl
  | ramp x => exact fun _ => rfl
  | soak x => exact fun _ => rfl
  | cool a b d => exact fun _ => rfl

/-- A running engine before the entry of the segment after an index, with the engine and the lock as the entry leaves
them (R90). -/
structure Entering (c : Cavity) (index : Nat) (r : SegmentRecord) (f start : Int) (s : State) (e : Engine)
    (l : LockCtl) : Prop where
  running : (s.engine c).state = .running
  unforced : s.unforced c f
  starts : s.StartsAt c (s.engine c) index f start
  answered : EntryAnswered (s.lock c) r
  engine : entered (index + 1) start (s.lock c).state r (s.engine c) = e
  lock : askedByEntry (s.policy c) r (s.lock c) = l

namespace Entering

variable {e : Engine} {l : LockCtl} {rest : List SegmentRecord} (h : Entering c index r f start s e l)
include h

theorem enterSegment_engine : (s.enterSegment c (index + 1) r).1.engine c = e :=
  (State.enterSegment_engine h.running h.unforced.2.1 h.starts h.answered).trans h.engine

theorem enterSegment_lock : (s.enterSegment c (index + 1) r).1.lock c = l :=
  (State.enterSegment_lock c (index + 1) r s).trans h.lock

/-- A segment that goes on (R90). -/
theorem goesOn (hg : s.GoesOn c f e l.state r) :
    runFrom c (r :: rest) (index + 1) s = (s.enterSegment c (index + 1) r).1 :=
  runFrom_goesOn rest h.running h.unforced h.starts h.answered (by rw [h.engine, h.lock]; exact hg)

theorem goesOn_events (same : l.state = (s.lock c).state) : (s.enterSegment c (index + 1) r).1.events = s.events :=
  enterSegment_events (by rw [h.lock]; exact same)

/-- A segment whose end condition holds ends DONE at its entry (R90). -/
theorem done (hg : ¬ s.GoesOn c f e l.state r) :
    ending c r (s.enterSegment c (index + 1) r).2 (s.enterSegment c (index + 1) r).1 = some .done := by
  obtain ⟨valid, present, ceiling, lock⟩ := h.unforced
  have channels := (EngineActs.enterSegment c (index + 1) r s h.running).channels
  have unforced : (s.enterSegment c (index + 1) r).1.unforced c f :=
    ⟨(isValid_congr channels _).trans valid, (f_congr channels _).trans present,
      by rw [h.enterSegment_engine, ← h.engine]; exact ceiling,
      by rw [h.enterSegment_lock, ← h.lock]; exact askedByEntry_not_faulted r lock⟩
  rw [enterSegment_causes (index + 1) h.answered]
  exact ending_done unforced nofun rfl rfl rfl
    (by rw [h.enterSegment_engine, h.enterSegment_lock, goesOn_congr channels]; exact hg)

/-- The last segment, ending DONE at its entry, completes the cycle (R90, R114). -/
theorem last (hg : ¬ s.GoesOn c f e l.state r) : runFrom c [r] (index + 1) s
    = complete c (postDone c (index + 1) (s.enterSegment c (index + 1) r).1) := by
  unfold runFrom
  dsimp only
  rw [h.done hg]
  rfl

theorem last_engine (hg : ¬ s.GoesOn c f e l.state r) :
    (runFrom c [r] (index + 1) s).engine c = endedBy .completed .done l.state e := by
  rw [h.last hg, complete, toIdle_engine, postDone, lock_post, engine_post, h.enterSegment_engine, h.enterSegment_lock]

theorem last_lock (hg : ¬ s.GoesOn c f e l.state r) : (runFrom c [r] (index + 1) s).lock c = l := by
  rw [h.last hg, complete, toIdle_lock]
  exact h.enterSegment_lock

theorem last_posted (hg : ¬ s.GoesOn c f e l.state r) :
    (runFrom c [r] (index + 1) s).Posted (.segmentEnded c (index + 1) .done)
      ∧ (runFrom c [r] (index + 1) s).Posted (.cycleEnded c .completed .done) := by
  rw [h.last hg]
  exact ⟨(posted_post ..).quiet (.complete ..), toIdle_posted ..⟩

/-- A segment with others to come, ending DONE at its entry, holds a single-step cycle (R90, R108). -/
theorem held (hg : ¬ s.GoesOn c f e l.state r) (more : rest ≠ []) (single : (s.engine c).singleStep = true) :
    runFrom c (r :: rest) (index + 1) s = hold c (postDone c (index + 1) (s.enterSegment c (index + 1) r).1) := by
  have engine : ((postDone c (index + 1) (s.enterSegment c (index + 1) r).1).engine c).singleStep = true := by
    rw [postDone, engine_post, h.enterSegment_engine, ← h.engine]
    exact single
  unfold runFrom
  dsimp only
  rw [h.done hg]
  exact (if_neg (by simpa using more)).trans (if_pos engine)

end Entering

/-! ## STEP -/

/-- The engine of a held cycle at a STEP, before the entry (R109). -/
def stepped (e : Engine) : Engine :=
  { e with state := .running, holdCount := none, catalyst := unsuspend e.catalyst }

theorem encodeItems_here (p : List Byte) : encodeItems [here p] = [1] ++ p := by
  simp [encodeItems, here, packBits, leBytes, bitsNat]

/-- What a STEP that is taken leaves, whatever the entry leads to (R109). -/
structure StepTaken (c : Cavity) (index : Nat) (s t : State) : Prop where
  exec : exec (.step (cavityPayload c)) s = .next (t.close.sendReply (doneWith [here (u8 (index + 1))]))
  tableLocks : t.tableLocks = if (t.engine c).state = .idle then s.tableLocks.set c false else s.tableLocks
  elsewhere : Elsewhere c s (t.close.sendReply (doneWith [here (u8 (index + 1))]))
  sup : t.sup = s.sup
  replied : s.repliedDone false ([1] ++ u8 (index + 1)) (t.close.sendReply (doneWith [here (u8 (index + 1))]))

theorem stepCycle_taken {rest : List SegmentRecord} (line : s.takesLine) (held : (s.engine c).state = .held)
    (hi : (s.engine c).segmentIndex = some index) (hd : (s.program c).drop index = r :: rest) :
    StepTaken c index s (runFrom c (r :: rest) (index + 1) (s.endOfFrame.modEngine c stepped)) := by
  have running : ((s.endOfFrame.modEngine c stepped).engine c).state = .running := by
    rw [engine_modEngine_same]
    rfl
  have acts := EngineActs.runFrom c (r :: rest) (index + 1) _ running
  have quiet := Quiet.runFrom c (r :: rest) (index + 1) (s.endOfFrame.modEngine c stepped)
  have answer : stepAnswer c s.endOfFrame = (runFrom c (r :: rest) (index + 1) (s.endOfFrame.modEngine c stepped),
      doneWith [here (u8 (index + 1))]) := by
    have program : s.endOfFrame.program c = s.program c := by rw [program, endOfFrame_tables]; rfl
    unfold stepAnswer
    simp only [engine_endOfFrame, held, hi, stepCycle, program, hd, Option.getD_some]
    rfl
  refine ⟨congrArg Host.Outcome.next (cavityRequest_carried line answer), ?_, Elsewhere.request ?_ _, ?_,
    encodeItems_here (u8 (index + 1)) ▸ replied_close (a := doneWith [here (u8 (index + 1))]) quiet.link rfl⟩
  · rw [acts.tableLocks_eq (by rw [running]; nofun)]
    simp [endOfFrame_tableLocks]
  · exact .trans (.ofEngine (.modEngine s.endOfFrame c stepped) (.engine ..)) (.ofEngine acts.toEngineFrame quiet)
  · rw [acts.sup]
    exact sup_endOfFrame s

end State

/-- Settles O14: a STEP that is taken enters the next segment from the engine it has set running again. -/
theorem stepEntersNextSegment : Obligations.StepEntersNextSegment := by
  intro s c line hb
  refine ⟨?_, fun busy => ?_, fun still => ?_⟩
  · intro index f start r held hi record unforced starts answered e l becomes
    obtain ⟨rest, dropped⟩ := recordAt_succ record
    have length : (s.program c).length = index + 1 + rest.length := by
      have := congrArg List.length dropped
      simp only [List.length_drop, List.length_cons] at this
      omega
    have taken := stepCycle_taken line held hi dropped
    generalize hv : s.endOfFrame.modEngine c stepped = v at taken
    have engine : v.engine c = stepped (s.engine c) := by rw [← hv, engine_modEngine_same, engine_endOfFrame]
    have lock : v.lock c = s.lock c := by rw [← hv, lock_modEngine, lock_endOfFrame]
    have policy : v.policy c = s.policy c := by rw [← hv]; exact policy_endOfFrame c s
    have channels : v.channels = s.channels := by rw [← hv]; exact channels_endOfFrame s
    have tables : v.tables = s.tables := by rw [← hv]; exact endOfFrame_tables
    have events : v.events = s.events := by rw [← hv]; exact events_endOfFrame s
    have entering : Entering c index r f start v e l := by
      obtain ⟨valid, present, ceiling, sound⟩ := unforced
      refine ⟨by rw [engine]; rfl, ⟨(isValid_congr channels _).trans valid, (f_congr channels _).trans present,
        by rw [engine]; exact ceiling, by rw [lock]; exact sound⟩, ?_, by rw [lock]; exact answered,
        by rw [engine, lock]; rfl, by rw [policy, lock]⟩
      rw [startsAt_congr tables, engine]
      exact starts
    generalize ht : runFrom c (r :: rest) (index + 1) v = t at taken
    have leaves : ∀ e', t.engine c = e' → t.lock c = l → (e' = e → l.state = (s.lock c).state → t.events = s.events) →
        (e' ≠ e → t.Posted (.segmentEnded c (index + 1) .done)) → becomes e' := by
      intro e' te tl still told
      refine ⟨_, taken.exec, by simp [te], by simp [tl], ?_, taken.elsewhere, by simp [taken.sup], fun same kept => ?_,
        fun new => reported_sendReply _ rfl (told new).close, taken.replied⟩
      · rw [tableLocks_sendReply, close_tableLocks, taken.tableLocks, te]
      · have none := still same kept
        rw [events_sendReply, close_empty _ (by rw [none, hb]), ← none]
        rfl
    refine ⟨fun goesOn => ?_, fun ends more single => ?_, fun ends last => ?_⟩
    · have on := entering.goesOn (rest := rest) ((goesOn_congr channels).mpr goesOn)
      rw [ht] at on
      refine leaves e (on ▸ entering.enterSegment_engine) (on ▸ entering.enterSegment_lock) (fun _ kept => ?_)
        (absurd rfl)
      rw [on, ← events]
      exact entering.goesOn_events (by rw [lock]; exact kept)
    · have held' := entering.held (rest := rest) (fun g => ends ((goesOn_congr channels).mp g))
        (fun nil => by rw [nil, List.length_nil] at length; omega) (by rw [engine]; exact single)
      rw [ht] at held'
      refine leaves _ ?_ ?_ (fun same => absurd (congrArg Engine.state same) nofun) fun _ => ?_
      · rw [held', hold_engine]
        exact congrArg heldAfter entering.enterSegment_engine
      · rw [held', hold_lock]
        exact entering.enterSegment_lock
      · rw [held']
        exact (posted_post ..).quiet (.hold ..)
    · have none : rest = [] := List.length_eq_zero_iff.mp (by omega)
      rw [none] at ht
      have done : ¬ v.GoesOn c f e l.state r := fun g => ends ((goesOn_congr channels).mp g)
      rw [← ht] at leaves
      exact leaves _ (entering.last_engine done) (entering.last_lock done)
        (fun same => absurd (congrArg Engine.state same) nofun) fun _ => (entering.last_posted done).1
  · refine congrArg Host.Outcome.next (cavityRequest_refused line hb ?_)
    rcases busy with h | h <;> simp [stepAnswer, h]
  · refine congrArg Host.Outcome.next (cavityRequest_refused line hb ?_)
    rcases still with h | h <;> simp [stepAnswer, h]

end Sys2Proof.Machine
end

section
/-!
PROOFS. START, which sets its items and enters the first segment of the program, or ends the cycle against it (O11).
-/

namespace Sys2Proof.Machine

open Sys2Proof State

/-! ## The ceiling -/

/-- The highest of some targets (R89). -/
theorem foldl_max_greatest (ts : List Int) (t : Int) :
    (∀ x ∈ t :: ts, x ≤ ts.foldl max t) ∧ ts.foldl max t ∈ t :: ts := by
  induction ts generalizing t with
  | nil => exact ⟨fun x hx => by rw [List.mem_singleton.mp hx]; exact le_rfl, List.mem_singleton_self t⟩
  | cons u us ih =>
    obtain ⟨above, member⟩ := ih (max t u)
    have first : max t u ≤ us.foldl max (max t u) := above _ List.mem_cons_self
    constructor
    · intro x hx
      rcases List.mem_cons.mp hx with rfl | hx
      · exact (le_max_left ..).trans first
      · rcases List.mem_cons.mp hx with rfl | hx
        · exact (le_max_right ..).trans first
        · exact above x (List.mem_cons_of_mem _ hx)
    · rcases List.mem_cons.mp member with h | h
      · rw [List.foldl_cons, h]
        rcases max_choice t u with e | e <;> simp [e]
      · exact List.mem_cons_of_mem _ (List.mem_cons_of_mem _ h)

theorem ceilingOf_none {p : List SegmentRecord} (h : heatTargets p = []) : ceilingOf p = 6000 := by
  unfold ceilingOf
  rw [h]

theorem target_le_ceilingOf {p : List SegmentRecord} {t : Int} (h : t ∈ heatTargets p) : t + 300 ≤ ceilingOf p := by
  unfold ceilingOf
  cases targets : heatTargets p with
  | nil =>
    rw [targets] at h
    exact absurd h List.not_mem_nil
  | cons u us => exact Int.add_le_add_right ((foldl_max_greatest us u).1 t (targets ▸ h)) 300

theorem ceilingOf_attained {p : List SegmentRecord} (h : heatTargets p ≠ []) :
    ∃ t ∈ heatTargets p, ceilingOf p = t + 300 := by
  unfold ceilingOf
  cases targets : heatTargets p with
  | nil => exact absurd targets h
  | cons u us => exact ⟨_, (foldl_max_greatest us u).2, rfl⟩

namespace State

variable {s : State} {c : Cavity} {r : SegmentRecord} {f : Int} {yes : Bool}

/-! ## An ENGAGE that finds the door open -/

/-- The engage of an entry that finds the door open is refused, and the lock keeps still (R55, R61). -/
theorem engage_doorOpen {l : LockCtl} (hl : l.state = .released) (hd : l.levels.doorShut ≠ some true) :
    LockCtl.engage .engine l = (l.stay, .refused .doorOpen) := by
  simp [LockCtl.engage, LockCtl.engageReleased, hl, hd]

section
variable (hl : (s.lock c).state = .released) (hd : (s.lock c).levels.doorShut ≠ some true)
include hl hd

theorem enterSegment_doorOpen_causes (i : Nat) : (s.enterSegment c i .engage).2 = { doorOpen := true } := by
  show answerCauses (LockCtl.engage .engine (s.lock c)).2 = _
  rw [engage_doorOpen hl hd]
  rfl

theorem enterSegment_doorOpen_engine (i : Nat) (start : Int) (hrun : (s.engine c).state = .running) :
    (s.enterSegment c i .engage).1.engine c = entered i start .released .engage (s.engine c) := by
  show (announce (noteBusy c (LockCtl.engage .engine (s.lock c)).2 _)).engine c = _
  rw [engine_announce, engage_doorOpen hl hd, noteBusy, engine_modEngine_same]
  simp [askLock, enterKind, enterCommon, entered, hrun]

theorem enterSegment_doorOpen_lock (i : Nat) : (s.enterSegment c i .engage).1.lock c = s.lock c := by
  rw [enterSegment_lock]
  unfold askedByEntry
  rw [hl]
  exact if_pos hd

/-- An ENGAGE entered with the door open ends the cycle (R93). -/
theorem runFrom_doorOpen (rest : List SegmentRecord) (i : Nat) (hrun : (s.engine c).state = .running)
    (hu : s.unforced c f) :
    runFrom c (.engage :: rest) i s = abortCycle c .doorOpen (s.enterSegment c i .engage).1 := by
  have channels := (EngineActs.enterSegment c i .engage s hrun).channels
  have unforced : (s.enterSegment c i .engage).1.unforced c f := by
    obtain ⟨valid, present, ceiling, lock⟩ := hu
    exact ⟨(isValid_congr channels _).trans valid, (f_congr channels _).trans present,
      by rw [enterSegment_doorOpen_engine hl hd i 0 hrun]; exact ceiling,
      by rw [enterSegment_doorOpen_lock hl hd]; exact lock⟩
  have ends : ending c .engage (s.enterSegment c i .engage).2 (s.enterSegment c i .engage).1 = some .doorOpen := by
    rw [enterSegment_doorOpen_causes hl hd]
    simp [ending, forcedEnding_none unforced (k := { doorOpen := true }) nofun rfl]
  unfold runFrom
  dsimp only
  rw [ends]

/-- The end of a cycle whose ENGAGE finds the door open: at once, as the lock is RELEASED (R93, R113). -/
theorem runFrom_doorOpen_ends (rest : List SegmentRecord) (i : Nat) (start : Int)
    (hrun : (s.engine c).state = .running) (hu : s.unforced c f) :
    (runFrom c (.engage :: rest) i s).engine c
        = endedBy .aborted .doorOpen .released (entered i start .released .engage (s.engine c))
      ∧ (runFrom c (.engage :: rest) i s).lock c = s.lock c
      ∧ (runFrom c (.engage :: rest) i s).Posted (.segmentEnded c i .doorOpen)
      ∧ (runFrom c (.engage :: rest) i s).Posted (.cycleEnded c .aborted .doorOpen) := by
  have engine := enterSegment_doorOpen_engine hl hd i start hrun
  have lock := enterSegment_doorOpen_lock hl hd i
  have cycle : (s.enterSegment c i .engage).1.inCycle c = true := by
    rw [inCycle_iff, engine]
    exact .inl rfl
  obtain ⟨segment, idle⟩ := abortCycle_posted (k := .doorOpen) cycle
  rw [engine] at segment
  have ended : (abortCycle c .doorOpen (s.enterSegment c i .engage).1).engine c
      = endedBy .aborted .doorOpen .released (entered i start .released .engage (s.engine c)) := by
    rw [abortCycle_engine, afterAbort, if_pos cycle, engine, lock, hl]
    rfl
  rw [runFrom_doorOpen hl hd rest i hrun hu]
  refine ⟨ended, ?_, segment (.inl rfl), idle (by rw [ended]; rfl)⟩
  rw [abortCycle_lock _ _ _ cycle, lock, askedByAbort_atRest _ _ (.inl hl)]

end

/-! ## A START that is carried out -/

/-- The engine as START sets it (R89). -/
def startedEngine (yes : Bool) (ceiling : Int) (f : Option Int) (e : Engine) : Engine :=
  { e with
    state := .running
    singleStep := yes
    ceiling := some ceiling
    recorded := none
    peakF := f
    cycleSeconds := 0
    soakSeconds := 0
    secondTimer := some 0 }

/-- What the items that START sets leave: the engine, its lock without the host's requests, and the table lock (R89). -/
structure Started (c : Cavity) (yes : Bool) (s u : State) : Prop where
  engine : u.engine c = startedEngine yes (ceilingOf (s.program c)) (s.f (.cav c)) (s.engine c)
  lock : u.lock c = withoutHost (s.lock c)
  tableLock : u.tableLocks.get c = true
  elsewhere : Elsewhere c s u
  sup : u.sup = s.sup
  link : u.link = s.link
  events : u.events = s.events
  holds : ∀ x, u.holdsGrant x = s.holdsGrant x

theorem startItems_started (c : Cavity) (yes : Bool) (s : State) : Started c yes s (s.startItems c yes) where
  engine := PerCavity.get_set_same ..
  lock := PerCavity.get_set_same ..
  tableLock := PerCavity.get_set_same ..
  elsewhere := ⟨rfl, rfl, rfl, rfl, rfl, rfl, rfl, PerCavity.get_set_ne _ _ (other_ne c),
    PerCavity.get_set_ne _ _ (other_ne c), PerCavity.get_set_ne _ _ (other_ne c), rfl⟩
  sup := rfl
  link := rfl
  events := rfl
  holds _ := rfl

/-- The acts of an engine that has its first segment ended without its entry (R89, step 6). -/
theorem failFirst_acts (k : Condition) (hs : (s.engine c).state = .running) :
    EngineActs c s (failFirst c k s) :=
  (EngineActs.ofRunning (EngineFrame.modEngine ..) hs (by rw [engine_modEngine_same]; exact hs) rfl).trans
    (.abortCycle ..)

/-- The end of a cycle against its first segment (R89, R110, R113). -/
theorem failFirst_ends (k : Condition) (hs : (s.engine c).state = .running) :
    (failFirst c k s).engine c = abortedUnder (s.lock c).state k { s.engine c with segmentIndex := some 1 }
      ∧ (failFirst c k s).lock c = askedByAbort (s.policy c) (s.lock c)
      ∧ (failFirst c k s).Posted (.segmentEnded c 1 k) := by
  have first : (s.modEngine c fun e => { e with segmentIndex := some 1 }).engine c
      = { s.engine c with segmentIndex := some 1 } := engine_modEngine_same ..
  have cycle : (s.modEngine c fun e => { e with segmentIndex := some 1 }).inCycle c = true := by
    rw [inCycle_iff, first]
    exact .inl hs
  have segment := (abortCycle_posted (k := k) cycle).segment
  rw [first] at segment
  refine ⟨?_, abortCycle_lock _ _ _ cycle, segment (.inl hs)⟩
  rw [failFirst, abortCycle_engine, afterAbort, if_pos cycle, first, lock_modEngine]

/-- What a START that is carried out leaves, whatever its first segment leads to (R89). -/
structure StartTaken (c : Cavity) (s t u : State) (ceiling : Int) : Prop where
  tableLock : u.tableLocks.get c = decide ((t.engine c).state ≠ .idle)
  elsewhere : Elsewhere c s u
  sup : u.sup = s.sup
  holds : ∀ x, u.holdsGrant x = true → s.holdsGrant x = true
  replied : s.repliedDone false ([1] ++ u16 ceiling.toNat) u

theorem startTaken {t v : State} {ceiling : Int} (started : Started c yes s.endOfFrame v) (acts : EngineActs c v t)
    (quiet : Quiet v t) : StartTaken c s t (t.close.sendReply (doneWith [here (u16 ceiling.toNat)])) ceiling where
  tableLock := by
    rw [tableLocks_sendReply, close_tableLocks, acts.tableLock (by rw [started.engine]; nofun), started.tableLock]
    rfl
  elsewhere := (started.elsewhere.trans (.ofEngine acts.toEngineFrame quiet)).request _
  sup := by rw [sup_sendReply, close_sup, acts.sup, started.sup, sup_endOfFrame]
  holds x hx := by
    rw [holdsGrant_sendReply, holdsGrant_close] at hx
    have before := acts.holds x hx
    rw [started.holds, endOfFrame_rest] at before
    exact before
  replied := encodeItems_here (u16 ceiling.toNat) ▸
    replied_close (a := doneWith [here (u16 ceiling.toNat)]) (quiet.link.trans started.link) rfl

/-- A START that nothing refuses, with its option given or left out (R88, R89). -/
theorem exec_start {p : List Byte} (line : s.takesLine)
    (hp : p = optionPayload c yes ∨ (p = cavityPayload c ∧ yes = false)) (accepted : s.startRefusal c = none) :
    exec (.start p) s = .next ((s.endOfFrame.startCycle c yes).close.sendReply
      (doneWith [here (u16 (ceilingOf (s.program c)).toNat)])) := by
  obtain ⟨fields, read, cavity, option, extra⟩ := readFields_option hp
  have program : s.endOfFrame.program c = s.program c := by rw [State.program, endOfFrame_tables]; rfl
  have accepted' : s.endOfFrame.startRefusal c = none := by
    rw [← accepted, endOfFrame_rest]
    rfl
  refine congrArg Host.Outcome.next (takeRequest_carried line read ?_)
  unfold startAnswer
  rw [cavity, option, extra]
  dsimp only
  rw [accepted', program]
  rfl

theorem startCycle_enters (yes : Bool) (hv : s.isValid (.cav c) = true) (hf : s.f (.cav c) = some f)
    (hm : f ≤ ceilingOf (s.program c)) :
    s.startCycle c yes = runFrom c (s.program c) 1 (s.startItems c yes) := by
  have valid : (s.startItems c yes).isValid (.cav c) = true := hv
  have present : (s.startItems c yes).f (.cav c) = some f := hf
  have below : (s.startItems c yes).overCeiling c = false := by
    unfold overCeiling
    rw [present, (startItems_started c yes s).engine]
    exact decide_eq_false (Int.not_lt.mpr hm)
  unfold startCycle
  dsimp only
  rw [valid, below]
  rfl

theorem startCycle_fails (yes : Bool) {k : Condition} (h : (s.isValid (.cav c) = false ∧ k = .sensorLost)
    ∨ (s.isValid (.cav c) = true ∧ k = .overshoot ∧ ∃ f, s.f (.cav c) = some f ∧ ceilingOf (s.program c) < f)) :
    s.startCycle c yes = failFirst c k (s.startItems c yes) := by
  have valid : (s.startItems c yes).isValid (.cav c) = s.isValid (.cav c) := rfl
  unfold startCycle
  dsimp only
  rw [valid]
  rcases h with ⟨lost, rfl⟩ | ⟨holds, rfl, f, hf, hm⟩
  · rw [lost]
    rfl
  · have present : (s.startItems c yes).f (.cav c) = some f := hf
    have above : (s.startItems c yes).overCeiling c = true := by
      unfold overCeiling
      rw [present, (startItems_started c yes s).engine]
      exact decide_eq_true hm
    rw [holds, above]
    rfl

end State

/-- Settles O11: the ceiling is the highest target plus 300; the engine and the lock that the items leave enter the
first segment. -/
theorem startEntersFirstSegment : Obligations.StartEntersFirstSegment := by
  refine ⟨fun p => ceilingOf_none, fun p t => target_le_ceilingOf, fun p => ceilingOf_attained, ?_⟩
  intro s c r rest yes p line hb idle ready testing cavityClear systemClear sound program option
    ceiling l asked e becomes
  have accepted : s.startRefusal c = none := by
    simp [startRefusal, idle, ready, testing, program, cavityClear, systemClear]
  have exec_eq := exec_start line option accepted
  have started := startItems_started c yes s.endOfFrame
  have program' : s.endOfFrame.program c = r :: rest := by
    rw [← program, State.program, endOfFrame_tables]
    rfl
  generalize hv : s.endOfFrame.startItems c yes = v at started
  have engine : v.engine c = e := by
    rw [started.engine, program', engine_endOfFrame, f_congr (channels_endOfFrame s)]
    rfl
  have lock : v.lock c = l := by rw [started.lock, lock_endOfFrame]
  have running : (v.engine c).state = .running := by rw [engine]
  have channels : v.channels = s.channels := started.elsewhere.channels.trans (channels_endOfFrame s)
  have policy : v.policy c = s.policy c :=
    (policy_congr started.elsewhere.tables started.elsewhere.bandIndex started.elsewhere.channels c).trans
      (policy_endOfFrame c s)
  have events : v.events = s.events := started.events.trans (events_endOfFrame s)
  have leaves : ∀ t e' l' told, s.endOfFrame.startCycle c yes = t → EngineActs c v t → Quiet v t → t.engine c = e' →
      t.lock c = l' → (told = [] → t.events = s.events) → (∀ x ∈ told, t.Posted x) → becomes e' l' told := by
    intro t e' l' told ht acts quiet te tl still posted
    rw [ht, program] at exec_eq
    have taken := startTaken (ceiling := ceiling) started acts quiet
    refine ⟨_, exec_eq, by simp [te], by simp [tl], by rw [taken.tableLock, te], taken.elsewhere, taken.sup,
      fun none => ?_, fun x hx => reported_sendReply _ rfl (posted x hx).close, taken.holds, taken.replied⟩
    have same := still none
    rw [events_sendReply, close_empty _ (by rw [same, hb]), ← same]
    rfl
  refine ⟨fun f valid present below => ?_, fun k cause => ?_⟩
  · have run : s.endOfFrame.startCycle c yes = runFrom c (r :: rest) 1 v := by
      rw [startCycle_enters yes ((isValid_congr (channels_endOfFrame s) _).trans valid)
        ((f_congr (channels_endOfFrame s) _).trans present) (by rw [program']; exact below), program', hv]
    have acts := EngineActs.runFrom c (r :: rest) 1 v running
    have quiet := Quiet.runFrom c (r :: rest) 1 v
    have unforced : v.unforced c f := by
      refine ⟨(isValid_congr channels _).trans valid, (f_congr channels _).trans present, fun m hm => ?_,
        by rw [lock]; exact sound⟩
      rw [engine] at hm
      cases hm
      exact below
    have entering : EntryAnswered l r → Entering c 0 r f f v (entered 1 f l.state r e) asked := fun answered =>
      ⟨running, unforced, rfl, by rw [lock]; exact answered, by rw [engine, lock], by rw [policy, lock]⟩
    refine ⟨fun answered goesOn => ?_, fun answered ends alone => ?_, fun kind released open_ => ?_⟩
    · have enters := entering answered
      have on := enters.goesOn (rest := rest) ((goesOn_congr channels).mpr goesOn)
      refine leaves _ _ _ _ run acts quiet (on ▸ enters.enterSegment_engine) (on ▸ enters.enterSegment_lock)
        (fun none => ?_) fun x hx => ?_
      · have same : asked.state = l.state := by
          by_contra new
          rw [if_neg new] at none
          exact absurd none nofun
        rw [on, ← events]
        exact enters.goesOn_events (by rw [lock]; exact same)
      · have told := (EngineTells.runFrom (c := c) (r :: rest) 1 v).told
        rw [on, enters.enterSegment_lock, lock, ← on] at told
        split at hx
        · exact absurd hx List.not_mem_nil
        · next new =>
          rw [List.mem_singleton.mp hx]
          exact told.resolve_left new
    · have enters := entering answered
      have done : ¬ v.GoesOn c f (entered 1 f l.state r e) asked.state r := fun g => ends ((goesOn_congr channels).mp g)
      rw [alone] at run acts quiet
      refine leaves _ _ _ _ run acts quiet (enters.last_engine done) (enters.last_lock done) nofun fun x hx => ?_
      obtain ⟨segment, cycle⟩ := enters.last_posted done
      rcases List.mem_cons.mp hx with rfl | hx
      · exact segment
      · rw [List.mem_singleton.mp hx]
        exact cycle
    · subst kind
      rw [← lock] at released open_
      obtain ⟨engine', lock', segment, cycle⟩ := runFrom_doorOpen_ends released open_ rest 1 f running unforced
      rw [engine] at engine'
      rw [← lock, released]
      refine leaves _ _ _ _ run acts quiet engine' lock' nofun fun x hx => ?_
      rcases List.mem_cons.mp hx with rfl | hx
      · exact segment
      · rw [List.mem_singleton.mp hx]
        exact cycle
  · have fails : s.endOfFrame.startCycle c yes = failFirst c k v := by
      rw [startCycle_fails yes ?_, hv]
      rw [isValid_congr (channels_endOfFrame s), f_congr (channels_endOfFrame s), program']
      exact cause
    obtain ⟨engine', lock', segment⟩ := failFirst_ends k running
    rw [engine, lock] at engine'
    rw [policy, lock] at lock'
    refine leaves _ _ _ _ fails (failFirst_acts k running) ((Quiet.modEngine ..).trans (.abortCycle ..)) engine' lock'
      nofun fun x hx => ?_
    rw [List.mem_singleton.mp hx]
    exact segment

end Sys2Proof.Machine
end

section
/-!
PROOFS. The operations of a Door Lock Controller row by row, each with its notices, and the faults that they latch
(R53 to R66, R69).
-/

namespace Sys2Proof.Machine

open Sys2Proof State

namespace LockFaults

variable {x : LockFaults} {f g : LockFault} {v : Bool}

theorem put_of_has (h : x.has f = v) : x.put v f = x := by
  cases f <;> cases h <;> rfl

theorem has_put_same : (x.put v f).has f = v := by
  cases f <;> rfl

theorem has_put_ne (h : g ≠ f) : (x.put v f).has g = x.has g := by
  cases f <;> cases g <;> first | rfl | exact absurd rfl h

end LockFaults

namespace LockCtl

/-! ## Faults noted -/

/-- The notice of a fault that an operation latches, none where it was latched before (R66). -/
def raisedBy (f : LockFault) (l : LockCtl) : List LockNotice := if l.faults.has f then [] else [.raised f]

theorem latch_eq (f : LockFault) (l : LockCtl) :
    latch f l = ⟨{ l with faults := l.faults.put true f }, raisedBy f l⟩ := by
  unfold latch raisedBy
  split
  · next h => rw [LockFaults.put_of_has h, stay]
  · rfl

theorem mem_raisedBy {f : LockFault} {l : LockCtl} {n : LockNotice} :
    n ∈ raisedBy f l ↔ l.faults.has f = false ∧ n = .raised f := by
  unfold raisedBy
  cases l.faults.has f <;> simp

theorem raisedBy_raised {f : LockFault} {l : LockCtl} : ∀ n ∈ raisedBy f l, ∃ y, n = .raised y :=
  fun _ h => ⟨_, (mem_raisedBy.mp h).2⟩

/-- An operation makes known every fault that it latches, and no other (R66). -/
def Notes (l : LockCtl) (x : LockStep) : Prop :=
  ∀ k, .raised k ∈ x.notices ↔ l.faults.has k = false ∧ x.lock.faults.has k = true

namespace Notes

variable {l : LockCtl} {x : LockStep} {op : LockCtl → LockStep}

/-- An operation that latches nothing. -/
theorem ofNone (hf : x.lock.faults = l.faults) (hn : ∀ k, .raised k ∉ x.notices) : Notes l x := fun k => by
  rw [hf]
  exact iff_of_false (hn k) fun ⟨h, h'⟩ => absurd (h.symm.trans h') nofun

theorem latch (f : LockFault) (l : LockCtl) : Notes l (latch f l) := fun k => by
  rw [latch_eq]
  unfold raisedBy
  dsimp only
  by_cases h : k = f
  · subst h
    rw [LockFaults.has_put_same]
    cases l.faults.has k <;> simp
  · rw [LockFaults.has_put_ne h]
    cases l.faults.has f <;> cases l.faults.has k <;> simp [h]

theorem congr {l' : LockCtl} (h : Notes l x) (hf : l'.faults = l.faults) : Notes l' x := by
  unfold Notes
  rw [hf]
  exact h

theorem andThen (h : Notes l x) (k : Notes x.lock (op x.lock)) (kept : KeepsFaults l x.lock)
    (kept' : KeepsFaults x.lock (op x.lock).lock) : Notes l (x.andThen op) := fun f => by
  have first := h f
  have second := k f
  have stays := kept f
  have stays' := kept' f
  show _ ∈ x.notices ++ (op x.lock).notices ↔ _
  rw [List.mem_append, first, second]
  show _ ↔ _ ∧ (op x.lock).lock.faults.has f = true
  cases before : l.faults.has f <;> cases mid : x.lock.faults.has f <;> simp_all

theorem takeSlot (p : DoorPolicy) (l : LockCtl) : Notes l (takeSlot p l) := by
  refine ofNone ?_ fun k => ?_
  · unfold LockCtl.takeSlot
    split
    · rfl
    · exact (request_faults ..).1
  · unfold LockCtl.takeSlot
    split
    · exact List.not_mem_nil
    · next q _ =>
      rw [List.mem_append, request_notices]
      rintro (h | h)
      · split at h <;> simp at h
      · unfold refusalNotice at h
        split at h <;> simp at h

theorem jamFast (l : LockCtl) : Notes l (jamFast l) := by
  refine andThen ((latch .stuck { l with slot := none, releasePending := none }).congr rfl)
    (ofNone rfl fun k => ?_) (latch_keeps .stuck { l with slot := none, releasePending := none } : KeepsFaults l _)
    (.of_eq rfl)
  simp [rest]

theorem endEngaged (p : DoorPolicy) (l : LockCtl) : Notes l (endEngaged p l) :=
  andThen (ofNone rfl fun k => by simp [rest]) (takeSlot p _) (.of_eq rfl) (takeSlot_keeps p _)

theorem endReleased (p : DoorPolicy) (l : LockCtl) : Notes l (endReleased p l) :=
  andThen (ofNone rfl fun k => by simp [rest]) (takeSlot p _) (.of_eq rfl) (takeSlot_keeps p _)

theorem endReturning (p : DoorPolicy) (l : LockCtl) : Notes l (endReturning p l) := by
  unfold LockCtl.endReturning
  split
  · exact andThen (latch .jam l) (endReleased p _) (latch_keeps .jam l) (endReleased_keeps p _)
  · exact endReleased p l

theorem breach (l : LockCtl) : Notes l (breach l) := fun k => by
  refine Iff.trans ?_ (latch .breach l k)
  simp [LockCtl.breach]

theorem slip (l : LockCtl) : Notes l (slip l) := by
  have pending : (pendingToSlot l).faults = l.faults := by
    unfold pendingToSlot
    split <;> rfl
  refine andThen (fun k => ?_) (ofNone ?_ fun k => ?_) ?_ (.of_eq ?_)
  · refine Iff.trans ?_ ((latch .slip (pendingToSlot l)).congr pending.symm k)
    simp
  · dsimp only
    split <;> rfl
  · dsimp only
    split <;> simp [run]
  · exact (KeepsFaults.of_eq pending).trans (latch_keeps .slip (pendingToSlot l))
  · dsimp only
    split <;> rfl

theorem derive (l : LockCtl) : Notes l (derive l) := by
  unfold LockCtl.derive
  dsimp only
  split
  · exact jamFast l
  · refine ofNone ?_ fun k => ?_
    · repeat' split
      all_goals rfl
    · repeat' split
      all_goals simp [rest, run]

theorem adopt (l : LockCtl) : Notes l (adopt l) := by
  unfold LockCtl.adopt
  split
  · intro k
    refine Iff.trans ?_ (derive l k)
    simp
  · exact ofNone rfl fun k => List.not_mem_nil

theorem react (p : DoorPolicy) (sw : Switch) (level : Bool) (l : LockCtl) : Notes l (react p sw level l) := by
  unfold LockCtl.react
  split
  · exact endEngaged p l
  · exact ofNone rfl fun k => by simp [beginJamReturn, run]
  · exact breach l
  · exact slip l
  · exact endReleased p l
  · exact endReturning p l
  · exact ofNone rfl fun k => List.not_mem_nil

theorem switchChange (p : DoorPolicy) (sw : Switch) (level : Bool) (l : LockCtl) :
    Notes l (switchChange p sw level l) := by
  unfold LockCtl.switchChange
  dsimp only
  split
  · exact (adopt _).congr rfl
  · exact ofNone rfl fun k => List.not_mem_nil
  · split
    · exact (jamFast _).congr rfl
    · exact (react p sw level _).congr rfl

theorem motionExpiry (l : LockCtl) : Notes l (motionExpiry l) := by
  unfold LockCtl.motionExpiry
  split
  · exact ofNone rfl fun k => List.not_mem_nil
  · split
    · split
      · exact jamFast l
      · exact ofNone rfl fun k => by simp [beginJamReturn, run]
    · exact jamFast l
    · exact jamFast l
    · exact ofNone rfl fun k => List.not_mem_nil

end Notes

/-! ## A switch that moves -/

/-- A lock that has recorded a switch level (R51). -/
def moved (sw : Switch) (level : Bool) (l : LockCtl) : LockCtl := { l with levels := l.levels.set sw (some level) }

section
variable {p : DoorPolicy} {sw : Switch} {level : Bool} {l : LockCtl}

theorem jamFast_eq (l : LockCtl) : jamFast l = ⟨stuckAt l, raisedBy .stuck l ++ [.changed l.state .faulted]⟩ := by
  unfold jamFast
  rw [latch_eq]
  rfl

theorem breach_eq (l : LockCtl) :
    breach l = ⟨{ l with faults := { l.faults with breach := true } }, raisedBy .breach l ++ [.breached]⟩ := by
  unfold breach
  rw [latch_eq]
  rfl

/-- A slip by the door: a re-drive with it shut, a return with it open (R65). -/
theorem slip_eq (l : LockCtl) : slip l =
    ⟨{ l with
        state := if l.levels.doorShut = some true then .engaging else .returning
        motor := if l.levels.doorShut = some true then .forward else .reverse
        motion := some ⟨if l.levels.doorShut = some true then .slipRedrive else .slipReturn, 0⟩
        faults := { l.faults with slip := true }
        releasePending := none
        slot := match l.releasePending with
          | some by_ => some ⟨.release, by_⟩
          | none => l.slot },
      raisedBy .slip l ++ [.slipped]
        ++ [.changed l.state (if l.levels.doorShut = some true then .engaging else .returning)]⟩ := by
  unfold slip
  rw [latch_eq]
  obtain ⟨x, motor, motion, slot, pending, faults, levels⟩ := l
  cases pending <;> by_cases h : levels.doorShut = some true <;>
    simp [pendingToSlot, LockStep.andThen, run, h, LockFaults.put] <;> rfl

theorem switchChange_notAdopted (h : l.state = .notAdopted) : switchChange p sw level l = adopt (moved sw level l) := by
  obtain ⟨x, motor, motion, slot, pending, faults, levels⟩ := l
  cases h
  rfl

theorem switchChange_faulted (h : l.state = .faulted) : switchChange p sw level l = stay (moved sw level l) := by
  obtain ⟨x, motor, motion, slot, pending, faults, levels⟩ := l
  cases h
  rfl

/-- Both latch switches true is a contradiction (R54). -/
theorem switchChange_contradicted (hn : l.state ≠ .notAdopted) (hf : l.state ≠ .faulted)
    (h : contradiction sw (moved sw level l) = true) : switchChange p sw level l = jamFast (moved sw level l) := by
  unfold switchChange
  dsimp only
  split
  · next hs => exact absurd hs hn
  · next hs => exact absurd hs hf
  · exact if_pos h

/-- Without a contradiction the lock state answers the change (R54). -/
theorem switchChange_reacts (hn : l.state ≠ .notAdopted) (hf : l.state ≠ .faulted)
    (h : contradiction sw (moved sw level l) = false) :
    switchChange p sw level l = react p sw level (moved sw level l) := by
  unfold switchChange
  dsimp only
  split
  · next hs => exact absurd hs hn
  · next hs => exact absurd hs hf
  · exact if_neg (Bool.eq_false_iff.mp h)

theorem contradiction_iff : contradiction sw l = true
    ↔ sw ≠ .doorShut ∧ l.levels.latchHome = some true ∧ l.levels.latchSet = some true := by
  simp [contradiction, and_assoc]

/-- A switch that moves to false contradicts nothing, and neither does the door switch (R54). -/
theorem contradiction_eq_false
    (h : ¬ (sw ≠ .doorShut ∧ l.levels.latchHome = some true ∧ l.levels.latchSet = some true)) :
    contradiction sw l = false := by
  rw [← Bool.not_eq_true, contradiction_iff]
  exact h

end

/-! ## The answer of a lock state -/

section
variable {p : DoorPolicy} {l : LockCtl}

theorem react_engaging_set (h : l.state = .engaging) : react p .latchSet true l = endEngaged p l := by
  unfold react
  rw [h]

theorem react_engaging_opened (h : l.state = .engaging) : react p .doorShut false l = beginJamReturn l := by
  unfold react
  rw [h]

theorem react_engaged_opened (h : l.state = .engaged) : react p .doorShut false l = breach l := by
  unfold react
  rw [h]

theorem react_engaged_unset (h : l.state = .engaged) : react p .latchSet false l = slip l := by
  unfold react
  rw [h]

theorem react_releasing_home (h : l.state = .releasing) : react p .latchHome true l = endReleased p l := by
  unfold react
  rw [h]

theorem react_returning_home (h : l.state = .returning) : react p .latchHome true l = endReturning p l := by
  unfold react
  rw [h]

/-- The changes of a switch that a lock state records alone (R55 to R65). -/
theorem react_stays {sw : Switch} {level : Bool} (h : l.state = .released
    ∨ (l.state = .engaging ∧ (sw = .latchHome ∨ (sw = .latchSet ∧ level = false) ∨ (sw = .doorShut ∧ level = true)))
    ∨ (l.state = .engaged ∧ (sw = .latchHome ∨ level = true))
    ∨ ((l.state = .releasing ∨ l.state = .returning) ∧ (sw ≠ .latchHome ∨ level = false))) :
    react p sw level l = l.stay := by
  unfold react
  rcases h with h | ⟨h, rfl | ⟨rfl, rfl⟩ | ⟨rfl, rfl⟩⟩ | ⟨h, rfl | rfl⟩ | ⟨h | h, hs | rfl⟩ <;> rw [h]
  · cases sw <;> rfl
  · cases sw <;> first | rfl | exact absurd rfl hs
  · cases sw <;> rfl
  · cases sw <;> first | rfl | exact absurd rfl hs
  · cases sw <;> rfl

end

/-! ## Ends of motions -/

section
variable {p : DoorPolicy} {l : LockCtl} {by_ : Requester}

theorem endEngaged_none (h : l.slot = none) : endEngaged p l = rest .engaged l := by
  obtain ⟨x, motor, motion, slot, pending, faults, levels⟩ := l
  cases h
  rfl

/-- The release in the slot begins under FREE (R58, R62). -/
theorem endEngaged_releases (h : l.slot = some ⟨.release, by_⟩) (hp : p = .free) : endEngaged p l =
    ⟨{ l with state := .releasing, motor := .reverse, motion := some ⟨.release, 0⟩, slot := none,
              releasePending := none },
      [.changed l.state .engaged, .changed .engaged .releasing]⟩ := by
  obtain ⟨x, motor, motion, slot, pending, faults, levels⟩ := l
  cases h
  cases hp
  rfl

/-- The release in the slot waits under another policy (R58, R62). -/
theorem endEngaged_waits (h : l.slot = some ⟨.release, by_⟩) (hp : p ≠ .free) : endEngaged p l =
    ⟨{ atRest .engaged l with slot := none, releasePending := some by_ }, [.changed l.state .engaged]⟩ := by
  obtain ⟨x, motor, motion, slot, pending, faults, levels⟩ := l
  cases h
  simp [endEngaged, LockStep.andThen, rest, takeSlot, request, release, releaseEngaged, hp, stay, refusalNotice, atRest]

theorem endEngaged_engages (h : l.slot = some ⟨.engage, by_⟩) : endEngaged p l =
    ⟨{ atRest .engaged l with slot := none, releasePending := none }, [.changed l.state .engaged]⟩ := by
  obtain ⟨x, motor, motion, slot, pending, faults, levels⟩ := l
  cases h
  rfl

theorem endReleased_none (h : l.slot = none) : endReleased p l = rest .released l := by
  obtain ⟨x, motor, motion, slot, pending, faults, levels⟩ := l
  cases h
  rfl

theorem endReleased_releases (h : l.slot = some ⟨.release, by_⟩) :
    endReleased p l = ⟨{ atRest .released l with slot := none }, [.changed l.state .released]⟩ := by
  obtain ⟨x, motor, motion, slot, pending, faults, levels⟩ := l
  cases h
  rfl

/-- The engage in the slot begins with the door shut (R55, R62). -/
theorem endReleased_engages (h : l.slot = some ⟨.engage, by_⟩) (hd : l.levels.doorShut = some true)
    (hs : l.levels.latchSet ≠ some true) : endReleased p l =
    ⟨{ l with state := .engaging, motor := .forward, motion := some ⟨.engage, 0⟩, slot := none },
      [.changed l.state .released, .changed .released .engaging]⟩ := by
  obtain ⟨x, motor, motion, slot, pending, faults, levels⟩ := l
  cases h
  simp only at hd hs
  simp [endReleased, LockStep.andThen, rest, takeSlot, request, engage, engageReleased, hd, hs, run, refusalNotice]

/-- The engage in the slot is refused with the door open (R55, R62). -/
theorem endReleased_refuses (h : l.slot = some ⟨.engage, by_⟩) (hd : l.levels.doorShut ≠ some true) : endReleased p l =
    ⟨{ atRest .released l with slot := none }, [.changed l.state .released, .engageRefused by_]⟩ := by
  obtain ⟨x, motor, motion, slot, pending, faults, levels⟩ := l
  cases h
  simp only at hd
  simp [endReleased, LockStep.andThen, rest, takeSlot, request, engage, engageReleased, hd, refusalNotice, stay, atRest]

/-- The end of a motion in RELEASED with no engage in the slot (R57, R60). -/
theorem endReleased_free (h : ∀ by_, l.slot ≠ some ⟨.engage, by_⟩) :
    endReleased p l = ⟨{ atRest .released l with slot := none }, [.changed l.state .released]⟩ := by
  cases hs : l.slot with
  | none =>
    rw [endReleased_none hs]
    obtain ⟨x, motor, motion, slot, pending, faults, levels⟩ := l
    cases hs
    rfl
  | some q =>
    obtain ⟨k, by_⟩ := q
    cases k with
    | engage => exact absurd hs (h by_)
    | release => exact endReleased_releases hs

/-- A lock with LOCK_JAM where its motion is a jam return (R57). -/
def jammedBy (cause : MotionCause) (l : LockCtl) : LockCtl :=
  { l with faults := { l.faults with jam := l.faults.jam || decide (cause = .jamReturn) } }

/-- The end of a return, which latches LOCK_JAM after a jam (R57). -/
theorem endReturning_eq {cause : MotionCause} {n : Nat} (h : l.motion = some ⟨cause, n⟩) : endReturning p l =
    ⟨(endReleased p (jammedBy cause l)).lock,
      (if cause = .jamReturn then raisedBy .jam l else []) ++ (endReleased p (jammedBy cause l)).notices⟩ := by
  have plain : cause ≠ .jamReturn → jammedBy cause l = l := fun hc => by simp [jammedBy, hc]
  unfold endReturning
  rw [h]
  by_cases hc : cause = .jamReturn
  · subst hc
    dsimp only
    rw [latch_eq]
    simp [LockStep.andThen, jammedBy, LockFaults.put]
  · rw [plain hc, if_neg hc]
    cases cause <;> first | rfl | exact absurd rfl hc

end

end LockCtl

end Sys2Proof.Machine
end

section
/-!
PROOFS. A change of a switch level at the lock of an idle cavity, with the records that it queues (O18).
-/

namespace Sys2Proof.Machine

open Sys2Proof State LockCtl

namespace State

variable {s : State} {c : Cavity} {sw : Switch} {level : Bool} {x : LockStep}

theorem noticeBodies_append (c : Cavity) (l k : List LockNotice) :
    noticeBodies c (l ++ k) = noticeBodies c l ++ noticeBodies c k := List.filterMap_append

theorem noticeBodies_raisedBy (c : Cavity) (f : LockFault) (l : LockCtl) : noticeBodies c (raisedBy f l)
    = if l.faults.has f then [] else [.faultRaised (some c) (lockFaultCode f) none] := by
  unfold raisedBy
  split <;> rfl

/-- The records of a lock event of an idle cavity are those of its notices (R66, R169). -/
theorem lockEvent_queued {w : State} (hb : s.events.outbox = []) (events : w.events = s.events) (link : w.link = s.link)
    (clock : w.clock = s.clock) (hi : (w.engine c).state = .idle) (h : .adopted ∉ x.notices)
    (room : s.events.queue.length ≤ 16) : s.queued (noticeBodies c x.notices) (lockEvent c x w).close := by
  have settles := lockEvent_idle hi h
  refine queued_close (b := .lock c) ?_ ?_ ?_ room
  · rw [settles.events, (lockTaken_quiet c x w).queue, events]
  · rw [(Quiet.lockEvent c x w).link, link]
  · rw [settles.events, lockTaken_outbox, events, hb, outgoing, clock]
    rfl

/-- A switch that moves at the lock of an idle cavity, with what its controller answers (R51, R66). -/
theorem switchMoves_idle (hb : s.events.outbox = []) (new : (s.lock c).levels.get sw ≠ some level)
    (idle : (s.engine c).state = .idle) (hx : switchChange (s.policy c) sw level (s.lock c) = x)
    (h : .adopted ∉ x.notices) : ∃ t, exec (.switchLevelChange c sw level) s = .next t ∧ t.lock c = x.lock
      ∧ t.engine c = s.engine c ∧ t.tableLocks = s.tableLocks ∧ Elsewhere c (s.setSwitchPin c sw level) t
      ∧ t.sup = s.sup ∧ (s.events.queue.length ≤ 16 → s.queued (noticeBodies c x.notices) t) := by
  have idle' : ((s.setSwitchPin c sw level).engine c).state = .idle := idle
  have moves : s.switchMoves c sw level = lockEvent c x (s.setSwitchPin c sw level) := by
    unfold switchMoves
    rw [hx]
  refine ⟨(lockEvent c x (s.setSwitchPin c sw level)).close, ?_, ?_, ?_, ?_, (lockEvent_elsewhere c x _ h).close, ?_,
    lockEvent_queued hb rfl rfl rfl idle' h⟩
  · rw [← moves]
    exact congrArg Host.Outcome.next (if_neg new)
  · rw [lock_close, lockEvent_idle_lock idle' h]
  · rw [engine_close, lockEvent_idle_engine idle' h]
    rfl
  · rw [close_tableLocks, lockEvent_idle_tableLocks idle' h]
    rfl
  · rw [close_sup, lockEvent_sup c x _ h]
    rfl

end State

/-- Settles O18: the rows of the switch events, each with the notices of its controller. -/
theorem switchChangesByLockState : Obligations.SwitchChangesByLockState := by
  intro s c sw level hb l l1 becomes changed raised bothTrue
  refine ⟨fun same => congrArg Host.Outcome.next (if_pos same), fun new idle => ?_⟩
  have row : ∀ x l' records, switchChange (s.policy c) sw level l = x → .adopted ∉ x.notices → x.lock = l' →
      noticeBodies c x.notices = records → becomes l' records := by
    rintro x _ _ hx plain rfl rfl
    exact switchMoves_idle hb new idle hx plain
  have reacts : ∀ x l' records, l.state ≠ .notAdopted → l.state ≠ .faulted → ¬ (sw ≠ .doorShut ∧ bothTrue) →
      react (s.policy c) sw level l1 = x → .adopted ∉ x.notices → x.lock = l' → noticeBodies c x.notices = records →
      becomes l' records := fun x l' records hn hf hc hx =>
    row x l' records ((switchChange_reacts hn hf (contradiction_eq_false hc)).trans hx)
  refine ⟨fun hf hn hd both => ?_, fun hs hsw hl nb => ?_, fun hs hsw hl => ?_, fun hs hsw hl => ?_,
    fun hs hsw hl => ?_, fun hs hsw hl nb => ?_, fun hs hsw hl nb cause n hm => ?_, fun hc hs => ?_, fun hs => ?_,
    fun hs hm => ?_⟩
  · have jams := switchChange_contradicted (p := s.policy c) hn hf (contradiction_iff.mpr ⟨hd, both⟩)
    refine row _ _ _ (jams.trans (jamFast_eq _)) ?_ rfl ?_
    · simp [mem_raisedBy]
    · rw [noticeBodies_append, noticeBodies_raisedBy]
      rfl
  · have set : react (s.policy c) sw level l1 = endEngaged (s.policy c) l1 := by
      subst hsw hl
      exact react_engaging_set hs
    have ends : ∀ x l' records, endEngaged (s.policy c) l1 = x → .adopted ∉ x.notices → x.lock = l' →
        noticeBodies c x.notices = records → becomes l' records := fun x l' records hx =>
      reacts x l' records (by rw [hs]; nofun) (by rw [hs]; nofun) (fun both => nb both.2) (set.trans hx)
    refine ⟨fun empty => ?_, fun by_ waiting free => ?_, fun by_ waiting held => ?_, fun by_ waiting => ?_⟩
    · exact ends _ _ _ (endEngaged_none (l := l1) empty) (by simp [rest]) rfl rfl
    · exact ends _ _ _ (endEngaged_releases (l := l1) waiting free) (by simp) rfl rfl
    · exact ends _ _ _ (endEngaged_waits (l := l1) waiting held) (by simp) rfl rfl
    · exact ends _ _ _ (endEngaged_engages (l := l1) waiting) (by simp) rfl rfl
  · subst hsw hl
    exact reacts _ _ _ (by rw [hs]; nofun) (by rw [hs]; nofun) (fun both => both.1 rfl)
      (react_engaging_opened (l := l1) hs) (by simp [beginJamReturn, run]) rfl rfl
  · subst hsw hl
    refine reacts _ _ _ (by rw [hs]; nofun) (by rw [hs]; nofun) (fun both => both.1 rfl)
      ((react_engaged_opened (l := l1) hs).trans (breach_eq l1)) ?_ rfl ?_
    · simp [mem_raisedBy]
    · rw [noticeBodies_append, noticeBodies_raisedBy]
      exact List.append_nil _
  · subst hsw hl
    refine reacts _ _ _ (by rw [hs]; nofun) (by rw [hs]; nofun) (fun both => absurd both.2.2 nofun)
      ((react_engaged_unset (l := l1) hs).trans (slip_eq l1)) ?_ rfl ?_
    · simp [mem_raisedBy]
    · rw [noticeBodies_append, noticeBodies_append, noticeBodies_raisedBy]
      exact congrArg (· ++ _) (List.append_nil _)
  · have home : react (s.policy c) sw level l1 = endReleased (s.policy c) l1 := by
      subst hsw hl
      exact react_releasing_home hs
    have ends : ∀ x l' records, endReleased (s.policy c) l1 = x → .adopted ∉ x.notices → x.lock = l' →
        noticeBodies c x.notices = records → becomes l' records := fun x l' records hx =>
      reacts x l' records (by rw [hs]; nofun) (by rw [hs]; nofun) (fun both => nb both.2) (home.trans hx)
    have unset : l1.levels.latchSet ≠ some true := fun set => nb ⟨by subst hsw hl; rfl, set⟩
    have door : l1.levels.doorShut = l.levels.doorShut := by subst hsw hl; rfl
    refine ⟨fun empty => ?_, fun by_ waiting shut => ?_, fun by_ waiting open_ => ?_, fun by_ waiting => ?_⟩
    · exact ends _ _ _ (endReleased_none (l := l1) empty) (by simp [rest]) rfl rfl
    · exact ends _ _ _ (endReleased_engages (l := l1) waiting (door.trans shut) unset) (by simp) rfl rfl
    · exact ends _ _ _ (endReleased_refuses (l := l1) waiting (door ▸ open_)) (by simp) rfl rfl
    · exact ends _ _ _ (endReleased_releases (l := l1) waiting) (by simp) rfl rfl
  · intro faults jammed
    let l2 := jammedBy cause l1
    have unset : l2.levels.latchSet ≠ some true := fun set => nb ⟨by subst hsw hl; rfl, set⟩
    have door : l2.levels.doorShut = l.levels.doorShut := by subst hsw hl; rfl
    have told : noticeBodies c (if cause = .jamReturn then raisedBy .jam l1 else []) = jammed := by
      show _ = if cause = .jamReturn then _ else _
      split
      · exact noticeBodies_raisedBy c .jam l1
      · rfl
    have home : react (s.policy c) sw level l1 = endReturning (s.policy c) l1 := by
      subst hsw hl
      exact react_returning_home hs
    have ends : ∀ x l' records, endReleased (s.policy c) l2 = x → .adopted ∉ x.notices → x.lock = l' →
        noticeBodies c x.notices = records → becomes l' (jammed ++ records) := by
      rintro x _ _ rfl plain rfl rfl
      refine reacts _ _ _ (by rw [hs]; nofun) (by rw [hs]; nofun) (fun both => nb both.2)
        (home.trans (endReturning_eq (l := l1) hm)) ?_ rfl (by rw [noticeBodies_append, told])
      rw [List.mem_append]
      refine fun h => h.elim (fun h => ?_) plain
      split at h <;> simp [mem_raisedBy] at h
    refine ⟨fun free => ?_, fun by_ waiting shut => ?_, fun by_ waiting open_ => ?_⟩
    · exact ends _ _ _ (endReleased_free (l := l2) free) (by simp) rfl rfl
    · exact ends _ _ _ (endReleased_engages (l := l2) waiting (door.trans shut) unset) (by simp) rfl rfl
    · exact ends _ _ _ (endReleased_refuses (l := l2) waiting (door ▸ open_)) (by simp) rfl rfl
  · refine reacts _ _ _ (fun h => ?_) (fun h => ?_) hc (react_stays hs) List.not_mem_nil rfl rfl
    all_goals
      change l.state = _ at h
      simp [h] at hs
  · exact row _ _ _ (switchChange_faulted hs) List.not_mem_nil rfl rfl
  · have waits : adopt l1 = l1.stay := by
      unfold adopt
      rw [if_neg]
      rcases hm with hm | hm | hm <;> simp [allPresent, hm]
    exact row _ _ _ ((switchChange_notAdopted hs).trans waits) List.not_mem_nil rfl rfl

end Sys2Proof.Machine
end

section
/-!
PROOFS. The lock faults that an event records; and the adoption of a lock state, with the readiness that it may bring
(R66, R69, R161; O19).
-/

namespace Sys2Proof.Machine

open Sys2Proof State LockCtl

theorem lockFaultCode_injective {f g : LockFault} (h : lockFaultCode f = lockFaultCode g) : f = g := by
  cases f <;> cases g <;> first | rfl | exact absurd h nofun

theorem noticeRecord_faultRaised {c : Cavity} {n : LockNotice} {k : LockFault}
    (h : noticeRecord c n = some (.faultRaised (some c) (lockFaultCode k) none)) : n = .raised k := by
  cases n with
  | raised f =>
    have code : lockFaultCode f = lockFaultCode k := by
      injection h with h
      injection h
    rw [lockFaultCode_injective code]
  | cleared f => exact absurd h nofun
  | changed a b => exact absurd h nofun
  | breached => exact absurd h nofun
  | slipped => exact absurd h nofun
  | engageRefused by_ => exact absurd h nofun
  | adopted => exact absurd h nofun

namespace State

variable {s t w : State} {c : Cavity} {x : LockStep}

/-- The faults that an operation of a lock latches are recorded by its event, and no other (R66). -/
theorem lockFaults_recorded (notes : Notes (s.lock c) x) (empty : w.events.outbox = [])
    (queue : t.events.queue = s.events.queue) (faults : (t.lock c).faults = x.lock.faults)
    (outbox : (lockTaken c x w).events.outbox <+: t.events.outbox)
    (raises : ∀ o ∈ t.events.outbox, isFaultRaised o.record.body = true → o ∈ (lockTaken c x w).events.outbox) :
    s.LockFaultsRecorded c t.close := by
  intro k body latchedNow
  have latched : latchedNow ↔ .raised k ∈ x.notices := by
    rw [notes k, ← faults]
    show _ ∧ (t.close.lock c).faults.has k = true ↔ _
    rw [lock_close]
  refine ⟨fun now => ?_, fun not => ?_⟩
  · exact ((lockTaken_posted c x w (latched.mp now) rfl).mono outbox).close
  · rw [← queue]
    refine close_filter _ t fun o ho => decide_eq_false fun same => not (latched.mpr ?_)
    have mine := raises o ho (by rw [same]; rfl)
    rw [lockTaken_outbox, empty, List.nil_append, outgoing] at mine
    obtain ⟨y, hy, rfl⟩ := List.mem_map.mp mine
    obtain ⟨n, hn, record⟩ := List.mem_filterMap.mp hy
    rw [show y = body from same] at record
    rw [← noticeRecord_faultRaised record]
    exact hn

/-! ## Readiness judged -/

theorem judgeReady_adopted (s : State) : s.judgeReady.sup.adopted = s.sup.adopted := by
  unfold judgeReady
  split
  · rfl
  · split
    · rw [recompute_sup]
      rfl
    · rfl

theorem judgeReady_readiness (s : State) : s.judgeReady.sup.readiness = (s.sup.readiness || s.readyNow) := by
  unfold judgeReady
  split
  · next h => rw [h, Bool.true_or]
  · next h =>
    rw [Bool.not_eq_true] at h
    rw [h, Bool.false_or]
    split
    · next now =>
      rw [recompute_sup, now]
      rfl
    · next now =>
      rw [Bool.not_eq_true] at now
      rw [h, now]

/-- Readiness that is new is posted, and the outputs follow it (R161 to R163). -/
theorem judgeReady_ready (before : s.sup.readiness = false) (after : s.judgeReady.sup.readiness = true) :
    s.judgeReady.Posted .ready ∧ s.judgeReady.EnableFollows := by
  have now : s.readyNow = true := by rw [← after, judgeReady_readiness, before, Bool.false_or]
  have brings : s.judgeReady = recompute (post .supervisor .ready (s.setSup { s.sup with readiness := true })) := by
    unfold judgeReady
    rw [if_neg (by rw [before]; nofun), if_pos now]
  rw [brings]
  exact ⟨(posted_post ..).quiet (.recompute _), recompute_enableFollows _⟩

theorem judgeReady_outbox (s : State) : ∃ l, s.judgeReady.events.outbox = s.events.outbox ++ l ∧ l.length ≤ 1
    ∧ ∀ o ∈ l, isFaultRaised o.record.body = false := by
  unfold judgeReady
  split
  · exact ⟨[], (List.append_nil _).symm, Nat.zero_le 1, fun _ none => absurd none List.not_mem_nil⟩
  · split
    · refine ⟨[⟨.supervisor, .ready, s.clock.stamp⟩], ?_, le_rfl, fun o ho => ?_⟩
      · rw [recompute_events (post .supervisor .ready (s.setSup { s.sup with readiness := true }))]
        rfl
      · rw [List.mem_singleton.mp ho]
        rfl
    · exact ⟨[], (List.append_nil _).symm, Nat.zero_le 1, fun _ none => absurd none List.not_mem_nil⟩

/-! ## Adoption -/

/-- A lock with the state that its three switch levels give it (R69). -/
def adoptedAs (door home set : Bool) (l : LockCtl) : LockCtl :=
  { l with
    state := if set && home then .faulted else if set then .engaged else if home then .released
      else if door then .engaging else .returning
    motor := if set || home then .stopped else if door then .forward else .reverse
    motion := if set || home then none else some ⟨.adopted, 0⟩
    slot := if set && home then none else l.slot
    releasePending := if set && home then none else l.releasePending
    faults := { l.faults with stuck := l.faults.stuck || (set && home) } }

/-- The notices of an adoption before its own (R66, R69). -/
def adoptionNotices (door home set : Bool) (l : LockCtl) : List LockNotice :=
  (if set && home then raisedBy .stuck l else []) ++ [.changed l.state (adoptedAs door home set l).state]

theorem adopt_eq {l : LockCtl} {door home set : Bool} (h : l.levels = ⟨some door, some home, some set⟩) :
    adopt l = ⟨adoptedAs door home set l, adoptionNotices door home set l ++ [.adopted]⟩ := by
  have present : l.allPresent = true := by simp [allPresent, h]
  unfold adopt derive
  rw [if_pos present, jamFast_eq, h]
  obtain ⟨state, motor, motion, slot, pending, ⟨jam, stuck, breach, slip⟩, levels⟩ := l
  cases set <;> cases home <;> cases door <;>
    simp [adoptedAs, adoptionNotices, stuckAt, rest, run]

theorem adoptionNotices_quiet {door home set : Bool} {l : LockCtl} {n : LockNotice}
    (h : n ∈ adoptionNotices door home set l) : (∃ f, n = .raised f) ∨ ∃ a b, n = .changed a b := by
  rcases List.mem_append.mp h with h | h
  · split at h
    · exact .inl ⟨_, (mem_raisedBy.mp h).2⟩
    · exact absurd h List.not_mem_nil
  · exact .inr ⟨_, _, List.mem_singleton.mp h⟩

theorem adoptionNotices_length (door home set : Bool) (l : LockCtl) :
    (adoptionNotices door home set l).length ≤ 2 := by
  unfold adoptionNotices raisedBy
  split
  · split <;> simp
  · simp

theorem readyNow_adopted : (s.setSup { s.sup with adopted := s.sup.adopted.set c true }).readyNow = true
    ↔ (∀ ch, s.sup.measured.get ch = true) ∧ s.sup.startupDone = true ∧ s.sup.adopted.get c.other = true := by
  have all : allChannels.all (fun ch => s.sup.measured.get ch) = true ↔ ∀ ch, s.sup.measured.get ch = true :=
    List.all_eq_true.trans ⟨fun h ch => h ch (mem_allChannels ch), fun h ch _ => h ch⟩
  simp only [readyNow, Bool.and_eq_true, setSup_sup, and_assoc, all]
  refine and_congr_right fun _ => and_congr_right fun _ => ?_
  cases c
  · exact and_iff_right rfl
  · exact and_iff_left rfl

theorem markAdopted_lock (c d : Cavity) (s : State) : (markAdopted c s).lock d = s.lock d :=
  (Background.judgeReady _).lock d

theorem markAdopted_engine (c d : Cavity) (s : State) : (markAdopted c s).engine d = s.engine d :=
  (Background.judgeReady _).engine d

theorem markAdopted_elsewhere (c : Cavity) (s : State) : Elsewhere c s (markAdopted c s) :=
  .trans (t := s.setSup { s.sup with adopted := s.sup.adopted.set c true })
    ⟨rfl, rfl, rfl, rfl, rfl, rfl, rfl, rfl, rfl, rfl, rfl⟩ (.ofBackground (.judgeReady _) (.judgeReady _))

/-- The notices of an adoption leave the engine in IDLE, and the Supervisor takes the adoption itself (R69). -/
theorem lockEvent_adopts {l : List LockNotice} (hi : (w.engine c).state = .idle) (hx : x.notices = l ++ [.adopted])
    (hl : ∀ n ∈ l, (∃ f, n = .raised f) ∨ ∃ a b, n = .changed a b) :
    lockEvent c x w = markAdopted c (lockTaken c x w) := by
  have idle : ((lockTaken c x w).engine c).state = .idle := by simpa using hi
  have others : forEach l (carryNotice c) (lockTaken c x w) = lockTaken c x w :=
    forEach_id l _ _ fun n hn => by
      rcases hl n hn with ⟨f, rfl⟩ | ⟨a, b, rfl⟩
      · exact onLockNotice_idle idle _
      · exact onLockNotice_idle idle _
  rw [lockEvent_eq, hx]
  show (l ++ [LockNotice.adopted]).foldl (fun s n => carryNotice c n s) _ = _
  rw [List.foldl_append]
  change carryNotice c .adopted (forEach l (carryNotice c) (lockTaken c x w)) = _
  rw [others]
  rfl

theorem markAdopted_adopted (c : Cavity) (s : State) : (markAdopted c s).sup.adopted = s.sup.adopted.set c true :=
  judgeReady_adopted _

theorem markAdopted_readiness (before : s.sup.readiness = false) : (markAdopted c s).sup.readiness = true
    ↔ (∀ ch, s.sup.measured.get ch = true) ∧ s.sup.startupDone = true ∧ s.sup.adopted.get c.other = true := by
  rw [markAdopted, judgeReady_readiness, setSup_sup, before, Bool.false_or]
  exact readyNow_adopted

theorem markAdopted_outbox (c : Cavity) (s : State) : ∃ l, (markAdopted c s).events.outbox = s.events.outbox ++ l
    ∧ l.length ≤ 1 ∧ ∀ o ∈ l, isFaultRaised o.record.body = false := judgeReady_outbox _

/-- The outputs follow through the close (R162, R163). -/
theorem enableFollows_close (h : s.EnableFollows) : s.close.EnableFollows := by
  unfold State.EnableFollows State.isFailed State.channel
  simp only [close_sup, close_drive, close_fan, close_channels]
  exact h

end State

/-- Settles O19: the adoption by the table, with its notices, and the judgement of readiness after it. -/
theorem lastSwitchLevelAdoptsLock : Obligations.LastSwitchLevelAdoptsLock := by
  intro s c sw level door home set hb idle unadopted new levels
  have answer : switchChange (s.policy c) sw level (s.lock c) = ⟨adoptedAs door home set (moved sw level (s.lock c)),
      adoptionNotices door home set (moved sw level (s.lock c)) ++ [.adopted]⟩ :=
    (switchChange_notAdopted unadopted).trans (adopt_eq levels)
  have notes := Notes.switchChange (s.policy c) sw level (s.lock c)
  rw [answer] at notes
  generalize hx : LockStep.mk (adoptedAs door home set (moved sw level (s.lock c))) _ = x at answer notes
  have adopts : s.switchMoves c sw level = markAdopted c (lockTaken c x (s.setSwitchPin c sw level)) := by
    unfold switchMoves
    rw [answer]
    exact lockEvent_adopts (l := adoptionNotices door home set (moved sw level (s.lock c))) idle (by rw [← hx])
      fun n => adoptionNotices_quiet
  have xlock : x.lock = adoptedAs door home set (moved sw level (s.lock c)) := by rw [← hx]
  have taken := lockTaken_quiet c x (s.setSwitchPin c sw level)
  have elsewhere := lockTaken_elsewhere c x (s.setSwitchPin c sw level)
  have posted := lockTaken_posted (n := .changed (s.lock c).state x.lock.state) c x (s.setSwitchPin c sw level)
    (by rw [← hx]; simp [adoptionNotices, moved]) rfl
  have faults := lockFaults_recorded (t := s.switchMoves c sw level) notes (w := s.setSwitchPin c sw level) hb
  have outbox : (lockTaken c x (s.setSwitchPin c sw level)).events.outbox.length ≤ 2 := by
    rw [lockTaken_outbox, show (s.setSwitchPin c sw level).events.outbox = [] from hb, List.nil_append, outgoing,
      List.length_map, ← hx, noticeBodies_append, show noticeBodies c [.adopted] = [] from rfl, List.append_nil]
    exact (List.length_filterMap_le ..).trans (adoptionNotices_length ..)
  have sup := lockTaken_sup c x (s.setSwitchPin c sw level)
  have engine := lockTaken_engine c x (s.setSwitchPin c sw level) c
  have vlock := lockTaken_lock c x (s.setSwitchPin c sw level)
  generalize lockTaken c x (s.setSwitchPin c sw level) = v at *
  obtain ⟨more, ready, few, quiet⟩ := markAdopted_outbox c v
  have lock : (markAdopted c v).lock c = x.lock := by rw [markAdopted_lock, vlock]
  have told : (markAdopted c v).Posted (.lockChanged c x.lock.state) := posted.quiet (.markAdopted ..)
  have queue : (markAdopted c v).events.queue = s.events.queue := (Quiet.markAdopted c v).queue.trans taken.queue
  refine ⟨(s.switchMoves c sw level).close, congrArg Host.Outcome.next (if_neg (by rw [new]; nofun)), ?_⟩
  rw [adopts] at faults ⊢
  rw [lock_close, lock, close_sup, engine_close, markAdopted_engine, engine]
  refine ⟨?_, ?_, fun room => ?_, told.close, ?_, fun before after => ?_, fun before => ?_, rfl,
    (elsewhere.trans (markAdopted_elsewhere ..)).close⟩
  · rw [xlock, adoptedAs, moved, levels]
  · rw [markAdopted_adopted, sup]
    rfl
  · refine told.close_recorded ?_
    rw [queue, ready, List.length_append]
    omega
  · refine faults queue (by rw [lock]) (Quiet.markAdopted ..).outbox fun o ho raised => ?_
    rw [ready] at ho
    rcases List.mem_append.mp ho with ho | ho
    · exact ho
    · exact absurd (raised.symm.trans (quiet o ho)) nofun
  · obtain ⟨said, follows⟩ := judgeReady_ready (by rw [setSup_sup, sup]; exact before) after
    exact ⟨Posted.close said, enableFollows_close follows⟩
  · rw [markAdopted_readiness (by rw [sup]; exact before), sup]
    rfl

end Sys2Proof.Machine
end

section
/-!
PROOFS. What an engine answers to an event at its lock, in a cycle and in SAFE_COOL, and the records of the event
(R53 to R66, R93, R104, R110, R113).
-/

namespace Sys2Proof.Machine

open Sys2Proof State LockCtl

namespace State

variable {s u w : State} {c : Cavity} {x : LockStep} {f : Int} {k : Condition} {a b : LockState} {index : Nat}

/-! ## A change of the lock at its engine -/

theorem onLockChanged_safeCool (h : (s.engine c).state = .safeCool) : onLockChanged c a b s = judgeSafeCool c s := by
  unfold onLockChanged
  rw [h]

/-- A cycle judges its segment at a change of its lock but where an ENGAGE sees it RELEASED (R93, R104). -/
theorem onLockChanged_judges (h : s.inCycle c = true) (hb : b = .released → s.inEngage c = false) :
    onLockChanged c a b s = judge c {} s := by
  have other : (s.inEngage c && decide (b = .released)) = false := by
    by_cases hr : b = .released
    · rw [hb hr]
      rfl
    · rw [decide_eq_false hr, Bool.and_false]
  unfold onLockChanged
  rcases (inCycle_iff c s).mp h with h | h | h <;> simp [h, other]

theorem judgeSafeCool_stays (h : (s.lock c).state ≠ .released ∧ (s.lock c).state ≠ .faulted) : judgeSafeCool c s = s :=
  if_neg fun ⟨_, ends⟩ => ends.elim h.1 h.2

theorem judgeSafeCool_ends {k : Condition} (hs : (s.engine c).state = .safeCool) (hk : (s.engine c).recorded = some k)
    (hl : (s.lock c).state = .released ∨ (s.lock c).state = .faulted) : judgeSafeCool c s = toIdle c .aborted k s := by
  unfold judgeSafeCool
  rw [if_pos ⟨hs, hl⟩, hk]
  rfl

/-! ## The records of a lock event -/

/-- A notice of a fault reaches nobody but the host (R66). -/
theorem lockEvent_raised {l k : List LockNotice} (hx : x.notices = l ++ k) (hl : ∀ n ∈ l, ∃ y, n = .raised y) :
    lockEvent c x w = forEach k (carryNotice c) (lockTaken c x w) := by
  have told : forEach l (carryNotice c) (lockTaken c x w) = lockTaken c x w := forEach_id l _ _ fun n hn => by
    obtain ⟨y, rfl⟩ := hl n hn
    rfl
  rw [lockEvent_eq, hx]
  show (l ++ k).foldl (fun s n => carryNotice c n s) _ = _
  rw [List.foldl_append]
  exact congrArg (forEach k (carryNotice c)) told

theorem lockEvent_faultsRecorded (notes : Notes (s.lock c) x) (hb : s.events.outbox = []) (events : w.events = s.events)
    (h : .adopted ∉ x.notices) : s.LockFaultsRecorded c (lockEvent c x w).close := by
  obtain ⟨acts, tells⟩ := lockEvent_acts c x w h
  refine lockFaults_recorded notes (by rw [events]; exact hb) ?_ ?_ tells.outbox tells.raises
  · rw [(Quiet.lockEvent c x w).queue, events]
  · rw [acts.faults, lockTaken_lock]

theorem lockEvent_reported (h : .adopted ∉ x.notices) (hn : .changed a b ∈ x.notices) :
    (lockEvent c x w).close.reported (.lockChanged c b) :=
  ((lockTaken_posted c x w hn rfl).mono (lockEvent_acts c x w h).2.outbox).close

/-- No record of a lock is that of an end (R66). -/
theorem unended_applyLock (h : Unended c s) : Unended c (s.applyLock c x) := fun o ho => by
  rw [applyLock_outbox] at ho
  rcases List.mem_append.mp ho with ho | ho
  · exact h o ho
  · obtain ⟨y, hy, rfl⟩ := List.mem_map.mp ho
    obtain ⟨n, -, hn⟩ := List.mem_filterMap.mp hy
    cases n <;> cases hn <;> rfl

/-- A lock event that its engine does not answer records no end (R66). -/
theorem lockTaken_unended (hb : w.events.outbox = []) : Unended c (lockTaken c x w) :=
  (unended_applyLock (.of_empty hb)).congr (Settles.review _).events

/-! ## Judgements of the engine -/

theorem inCycle_ne {y : EngineState} (h : s.inCycle c = true) (hy : y = .idle ∨ y = .safeCool) :
    y ≠ (s.engine c).state := by
  rcases (inCycle_iff c s).mp h with h | h | h <;> rcases hy with rfl | rfl <;> rw [h] <;> nofun

theorem judge_breach (cycle : u.inCycle c = true) (known : u.currentRecord c ≠ none) (h : u.unforced c f) :
    judge c { breach := true } u = abortCycle c .breach u := by
  obtain ⟨valid, present, ceiling, -⟩ := h
  refine judge_forced cycle known nofun ?_
  simp [forcedEnding, overCeiling_of_unforced present ceiling, valid]

theorem judge_stuck (cycle : u.inCycle c = true) (known : u.currentRecord c ≠ none) (valid : u.isValid (.cav c) = true)
    (below : u.overCeiling c = false) (faulted : (u.lock c).state = .faulted) : judge c {} u = abortCycle c .stuck u :=
  judge_forced cycle known nofun (by simp [forcedEnding, below, valid, faulted])

/-- In RUNNING the endings that nothing forces are judged in their order (R91). -/
theorem judge_running {r : SegmentRecord} {e : Causes} (hrun : (u.engine c).state = .running)
    (record : u.currentRecord c = some r) (hk : k ≠ .done) (ends : ending c r e u = some k) :
    judge c e u = abortCycle c k u := by
  obtain ⟨i, hi⟩ : ∃ i, (u.engine c).segmentIndex = some i := by
    cases h : (u.engine c).segmentIndex with
    | none =>
      unfold currentRecord at record
      rw [h] at record
      exact absurd record nofun
    | some i => exact ⟨i, rfl⟩
  unfold judge
  rw [hrun]
  dsimp only
  rw [hi, record]
  dsimp only
  rw [ends]
  cases k <;> first | rfl | exact absurd rfl hk

theorem judge_jammed {r : SegmentRecord} (hrun : (u.engine c).state = .running) (record : u.currentRecord c = some r)
    (h : u.unforced c f) : judge c { jammed := true } u = abortCycle c .jammed u :=
  judge_running hrun record nofun (by simp [ending, forcedEnding_none h (k := { jammed := true }) nofun rfl])

theorem judge_doorOpen {r : SegmentRecord} (hrun : (u.engine c).state = .running) (record : u.currentRecord c = some r)
    (h : u.unforced c f) : judge c { doorOpen := true } u = abortCycle c .doorOpen u :=
  judge_running hrun record nofun (by simp [ending, forcedEnding_none h (k := { doorOpen := true }) nofun rfl])

/-- An abort with the lock at rest ends the cycle at once (R113). -/
theorem abortCycle_ends (k : Condition) (cycle : u.inCycle c = true)
    (hl : (u.lock c).state = .released ∨ (u.lock c).state = .faulted) :
    (abortCycle c k u).lock c = u.lock c
      ∧ (abortCycle c k u).engine c = endedBy .aborted k (u.lock c).state (u.engine c) := by
  constructor
  · rw [abortCycle_lock _ _ _ cycle, askedByAbort_atRest _ _ hl]
  · rw [abortCycle_engine, afterAbort, if_pos cycle, abortedUnder, if_pos hl]

/-- An abort with another lock state leaves SAFE_COOL (R110). -/
theorem abortCycle_holds (k : Condition) (cycle : u.inCycle c = true) (hl : u.lockHolds c) :
    (abortCycle c k u).engine c = abortedBy k (u.engine c) := by
  rw [abortCycle_engine, afterAbort, if_pos cycle, abortedUnder, if_neg fun h => h.elim hl.1 hl.2]

/-! ## The answer of the engine -/

/-- What the end of a cycle by its lock leaves: the lock, the engine and the records (R110, R113). -/
structure LockEnds (c : Cavity) (k : Condition) (l' : LockCtl) (e' : Engine) (w t : State) : Prop where
  lock : t.lock c = l'
  engine : t.engine c = e'
  posted : AbortPosted c k w t

/-- A state that is as the lock has left it, but for the blocks that follow it. -/
structure AsTaken (c : Cavity) (x : LockStep) (w u : State) : Prop where
  lock : u.lock c = x.lock
  engine : u.engine c = w.engine c
  channels : u.channels = w.channels
  tables : u.tables = w.tables
  policy : u.policy c = w.policy c

namespace AsTaken

theorem taken (c : Cavity) (x : LockStep) (w : State) : AsTaken c x w (lockTaken c x w) where
  lock := lockTaken_lock ..
  engine := lockTaken_engine ..
  channels := lockTaken_channels ..
  tables := lockTaken_tables ..
  policy := lockTaken_policy ..

theorem settles {v : State} (h : AsTaken c x w u) (k : Settles u v) : AsTaken c x w v where
  lock := by
    unfold State.lock
    rw [k.locks]
    exact h.lock
  engine := by
    unfold State.engine
    rw [k.engines]
    exact h.engine
  channels := k.channels.trans h.channels
  tables := k.tables.trans h.tables
  policy := (policy_congr k.tables k.bandIndex k.channels c).trans h.policy

variable (h : AsTaken c x w u)
include h

theorem inCycle (cycle : w.inCycle c = true) : u.inCycle c = true := (inCycle_congr h.engine).trans cycle

theorem currentRecord : u.currentRecord c = w.currentRecord c := currentRecord_congr h.engine h.tables

theorem unforced (hu : w.unforced c f) (hx : x.lock.state ≠ .faulted) : u.unforced c f := by
  obtain ⟨valid, present, ceiling, -⟩ := hu
  exact ⟨(isValid_congr h.channels _).trans valid, (f_congr h.channels _).trans present,
    by rw [h.engine]; exact ceiling, by rw [h.lock]; exact hx⟩

/-- An abort with the lock at rest (R113). -/
theorem ends (k : Condition) (cycle : w.inCycle c = true) (hx : x.lock.state = .released ∨ x.lock.state = .faulted) :
    LockEnds c k x.lock (endedBy .aborted k x.lock.state (w.engine c)) w (abortCycle c k u) := by
  obtain ⟨lock, engine⟩ := abortCycle_ends k (h.inCycle cycle) (by rw [h.lock]; exact hx)
  rw [h.lock] at lock engine
  rw [h.engine] at engine
  exact ⟨lock, engine, (abortCycle_posted (h.inCycle cycle)).congr h.engine⟩

/-- An abort with the lock not at rest (R110). -/
theorem holds {p : DoorPolicy} (k : Condition) (hp : w.policy c = p) (cycle : w.inCycle c = true)
    (hx : x.lock.state ≠ .released ∧ x.lock.state ≠ .faulted) :
    LockEnds c k (askedByAbort p x.lock) (abortedBy k (w.engine c)) w (abortCycle c k u) := by
  have lock := abortCycle_lock c k u (h.inCycle cycle)
  have engine := abortCycle_holds k (h.inCycle cycle) (by rw [lockHolds, h.lock]; exact hx)
  rw [h.lock, h.policy, hp] at lock
  rw [h.engine] at engine
  exact ⟨lock, engine, (abortCycle_posted (h.inCycle cycle)).congr h.engine⟩

end AsTaken

section
variable {l : List LockNotice} {p : DoorPolicy} (hl : ∀ n ∈ l, ∃ y, n = .raised y)
include hl

/-- A breach aborts the cycle, with every grant of the cavity withdrawn (R64, R130). -/
theorem lockEvent_breached (hp : w.policy c = p) (hx : x.notices = l ++ [.breached]) (cycle : w.inCycle c = true)
    (known : w.currentRecord c ≠ none) (hu : w.unforced c f) (engaged : x.lock.state = .engaged) :
    LockEnds c .breach (askedByAbort p x.lock) (abortedBy .breach (w.engine c)) w (lockEvent c x w) := by
  have taken := (AsTaken.taken c x w).settles (.withdrawCavity c _)
  have event : lockEvent c x w = judge c { breach := true } (withdrawCavity c (lockTaken c x w)) :=
    lockEvent_raised hx hl
  rw [event, judge_breach (taken.inCycle cycle) (by rw [taken.currentRecord]; exact known)
    (taken.unforced hu (by rw [engaged]; nofun))]
  exact taken.holds .breach hp cycle (by rw [engaged]; exact ⟨nofun, nofun⟩)

/-- A slip aborts the cycle, and the change of the lock that follows it finds the cycle aborted (R65). -/
theorem lockEvent_slipped (hp : w.policy c = p) (hx : x.notices = l ++ [.slipped] ++ [.changed a b])
    (cycle : w.inCycle c = true) (known : w.currentRecord c ≠ none) (hu : w.unforced c f)
    (moving : x.lock.state ≠ .released ∧ x.lock.state ≠ .faulted) :
    LockEnds c .breach (askedByAbort p x.lock) (abortedBy .breach (w.engine c)) w (lockEvent c x w) := by
  have taken := AsTaken.taken c x w
  have event : lockEvent c x w = onLockChanged c a b (judge c { breach := true } (lockTaken c x w)) :=
    lockEvent_raised (hx.trans (List.append_assoc ..)) hl
  rw [event, judge_breach (taken.inCycle cycle) (by rw [taken.currentRecord]; exact known) (taken.unforced hu moving.2),
    onLockChanged_aborted _ _ (taken.inCycle cycle)]
  exact taken.holds .breach hp cycle moving

/-- A lock that faults ends the cycle (R104). -/
theorem lockEvent_stuck (hx : x.notices = l ++ [.changed a .faulted]) (cycle : w.inCycle c = true)
    (known : w.currentRecord c ≠ none) (hu : w.unforced c f) (faulted : x.lock.state = .faulted) :
    LockEnds c .stuck x.lock (endedBy .aborted .stuck x.lock.state (w.engine c)) w (lockEvent c x w) := by
  have taken := AsTaken.taken c x w
  have event : lockEvent c x w = onLockChanged c a .faulted (lockTaken c x w) := lockEvent_raised hx hl
  obtain ⟨valid, present, ceiling, -⟩ := hu
  have below : (lockTaken c x w).overCeiling c = false :=
    overCeiling_of_unforced ((f_congr taken.channels _).trans present) (by rw [taken.engine]; exact ceiling)
  rw [event, onLockChanged_judges (b := .faulted) (taken.inCycle cycle) nofun,
    judge_stuck (taken.inCycle cycle) (by rw [taken.currentRecord]; exact known)
      ((isValid_congr taken.channels _).trans valid) below (by rw [taken.lock]; exact faulted)]
  exact taken.ends .stuck cycle (.inr faulted)

/-- SAFE_COOL ends when the lock comes to rest (R113). -/
theorem lockEvent_cooled (hx : x.notices = l ++ [.changed a b]) (cool : (w.engine c).state = .safeCool)
    (recorded : (w.engine c).recorded = some k) (rests : x.lock.state = .released ∨ x.lock.state = .faulted) :
    LockEnds c k x.lock (endedBy .aborted k x.lock.state (w.engine c)) w (lockEvent c x w) := by
  have taken := AsTaken.taken c x w
  have event : lockEvent c x w = onLockChanged c a b (lockTaken c x w) := lockEvent_raised hx hl
  rw [event, onLockChanged_safeCool (by rw [taken.engine]; exact cool),
    judgeSafeCool_ends (by rw [taken.engine]; exact cool) (by rw [taken.engine]; exact recorded)
      (by rw [taken.lock]; exact rests)]
  refine ⟨?_, ?_, fun hs => ?_, fun _ => toIdle_posted ..⟩
  · rw [toIdle_lock, taken.lock]
  · rw [toIdle_engine, taken.lock, taken.engine]
  · rw [cool] at hs
    rcases hs with hs | hs <;> exact absurd hs nofun

/-- A change of the lock that ends the segment DONE (R93, R100). -/
theorem lockEvent_done {r : SegmentRecord} (ht : w.tables = s.tables) (hc : w.channels = s.channels)
    (hp : w.policy c = s.policy c) (hx : x.notices = l ++ [.changed a b])
    (running : (w.engine c).state = .running) (record : w.currentRecord c = some r)
    (hi : (w.engine c).segmentIndex = some index) (hu : w.unforced c f) (sound : x.lock.state ≠ .faulted)
    (other : b = .released → r ≠ .engage) (done : ¬ w.GoesOn c f (w.engine c) x.lock.state r) :
    s.DoneLeadsTo c index f x.lock (w.engine c) ((lockEvent c x w).lock c) ((lockEvent c x w).engine c)
      ∧ w.DoneRecorded c index (lockEvent c x w).close := by
  have taken := AsTaken.taken c x w
  have running' : ((lockTaken c x w).engine c).state = .running := by rw [taken.engine]; exact running
  have cycle : (lockTaken c x w).inCycle c = true := (inCycle_iff ..).mpr (.inl running')
  have notEngage : b = .released → (lockTaken c x w).inEngage c = false := fun hb => by
    have : r ≠ .engage := other hb
    simp [inEngage, taken.currentRecord, record, this]
  have event : lockEvent c x w = onLockChanged c a b (lockTaken c x w) := lockEvent_raised hx hl
  rw [event, onLockChanged_judges cycle notEngage, judge_done (k := {}) (taken.unforced hu sound) nofun rfl rfl rfl
    running' (by rw [taken.engine]; exact hi) (by rw [taken.currentRecord]; exact record)
    (by rw [taken.engine, taken.lock, goesOn_congr taken.channels]; exact done)]
  have leads := endDone_leads (index := index) running' (taken.unforced hu sound)
  rw [taken.policy, taken.lock, taken.engine, hp] at leads
  exact ⟨doneUnder_congr (taken.tables.trans ht).symm (taken.channels.trans hc).symm leads,
    ((DoneActs.ofEndDone running').congr taken.tables.symm (lockTaken_tableLocks c x w).symm).close⟩

/-- A change of the lock under which the segment goes on (R93, R100). -/
theorem lockEvent_goesOn (hx : x.notices = l ++ [.changed a b]) (cycle : w.inCycle c = true) (hu : w.unforced c f)
    (sound : x.lock.state ≠ .faulted) (on : (w.engine c).state = .running →
      ∃ r, w.currentRecord c = some r ∧ (b = .released → r ≠ .engage) ∧ w.GoesOn c f (w.engine c) x.lock.state r) :
    lockEvent c x w = lockTaken c x w := by
  have taken := AsTaken.taken c x w
  have event : lockEvent c x w = onLockChanged c a b (lockTaken c x w) := lockEvent_raised hx hl
  have notEngage : b = .released → (lockTaken c x w).inEngage c = false := fun hb => by
    by_cases running : (w.engine c).state = .running
    · obtain ⟨r, hr, other, -⟩ := on running
      have : r ≠ .engage := other hb
      simp [inEngage, taken.currentRecord, hr, this]
    · simp [inEngage, taken.engine, running]
  rw [event, onLockChanged_judges (taken.inCycle cycle) notEngage]
  refine judge_goesOn (taken.unforced hu sound) nofun rfl rfl rfl rfl fun running r' record => ?_
  rw [taken.engine] at running
  rw [taken.currentRecord] at record
  obtain ⟨r, hr, -, on⟩ := on running
  cases hr.symm.trans record
  refine segmentDone_of_goesOn ((f_congr taken.channels _).trans hu.2.1) ?_
  rw [goesOn_congr taken.channels, taken.engine, taken.lock]
  exact on

end

/-! ## An ENGAGE that sees its lock RELEASED -/

/-- What an ENGAGE in RUNNING makes of a lock that has come to RELEASED (R93). -/
theorem onLockChanged_engage (running : (u.engine c).state = .running) (record : u.currentRecord c = some .engage) :
    onLockChanged c a .released u = if (u.engine c).engageWaiting then
      judge c (askEngage c u).2 (announce (askEngage c u).1) else judge c { jammed := decide (a = .returning) } u := by
  have inEngage : u.inEngage c = true := by simp [State.inEngage, running, record]
  unfold onLockChanged
  rw [running, inEngage]
  rfl

/-- An engine that waits for the answer to its engage no longer (R93). -/
def unwaiting (e : Engine) : Engine := { e with engageWaiting := false }

theorem unwaiting_currentRecord (w : State) : (w.modEngine c unwaiting).currentRecord c = w.currentRecord c := by
  unfold currentRecord
  rw [engine_modEngine_same]
  rfl

theorem unwaiting_unforced (hu : w.unforced c f) : (w.modEngine c unwaiting).unforced c f := by
  obtain ⟨valid, present, ceiling, sound⟩ := hu
  exact ⟨valid, present, by rw [engine_modEngine_same]; exact ceiling, sound⟩

/-- The state after the engage that an ENGAGE asks anew, with an answer other than BUSY (R93). -/
theorem askEngage_taken {y : LockStep × LockAnswer} (taken : AsTaken c x w u) (running : (w.engine c).state = .running)
    (answer : LockCtl.engage .engine x.lock = y) (free : y.2 ≠ .refused .busy) :
    AsTaken c y.1 (w.modEngine c unwaiting) (announce (askEngage c u).1) := by
  have running' : (u.engine c).state = .running := by rw [taken.engine]; exact running
  have acts := (EngineActs.askEngage c u running').toEngineFrame
  have quiet := Quiet.askEngage c u
  refine AsTaken.settles ⟨?_, ?_, acts.channels.trans taken.channels, quiet.tables.trans taken.tables,
    (policy_congr quiet.tables acts.bandIndex acts.channels c).trans taken.policy⟩ (.announce _)
  · rw [← answer, ← taken.lock]
    simp [askEngage, noteBusy, askLock]
    rfl
  · have busy : decide ((LockCtl.engage .engine (u.lock c)).2 = .refused .busy) = false := by
      rw [taken.lock, answer]
      exact decide_eq_false free
    rw [engine_modEngine_same, ← taken.engine, unwaiting, ← busy]
    simp [askEngage, noteBusy, askLock]
    rfl

theorem askEngage_causes {y : LockStep × LockAnswer} (taken : AsTaken c x w u)
    (answer : LockCtl.engage .engine x.lock = y) : (askEngage c u).2 = answerCauses y.2 := by
  rw [← answer, ← taken.lock]
  rfl

theorem engage_begins {l : LockCtl} (released : l.state = .released) (shut : l.levels.doorShut = some true)
    (unset : l.levels.latchSet ≠ some true) :
    LockCtl.engage .engine l = (run .engaging .forward .engage l, .done) := by
  simp [LockCtl.engage, engageReleased, released, shut, unset]

/-- Under an ENGAGE in RUNNING a lock short of ENGAGED ends nothing (R93). -/
theorem judge_engage (taken : AsTaken c x w u) (record : w.currentRecord c = some .engage) (hu : w.unforced c f)
    (short : x.lock.state ≠ .engaged) (sound : x.lock.state ≠ .faulted) : judge c {} u = u := by
  refine judge_goesOn (taken.unforced hu sound) nofun rfl rfl rfl rfl fun _ r' known => ?_
  rw [taken.currentRecord, record] at known
  cases known
  simp [segmentDone, taken.lock, short]

section
variable {l : List LockNotice} (hl : ∀ n ∈ l, ∃ y, n = .raised y) (running : (w.engine c).state = .running)
  (record : w.currentRecord c = some .engage) (hu : w.unforced c f)
include hl running record hu

/-- A return after a jam that comes home under an ENGAGE ends the cycle JAMMED (R93). -/
theorem lockEvent_jammed (hx : x.notices = l ++ [.changed .returning .released])
    (still : (w.engine c).engageWaiting = false) (released : x.lock.state = .released) :
    LockEnds c .jammed x.lock (endedBy .aborted .jammed x.lock.state (w.engine c)) w (lockEvent c x w) := by
  have taken := AsTaken.taken c x w
  have event : lockEvent c x w = onLockChanged c .returning .released (lockTaken c x w) := lockEvent_raised hx hl
  rw [event, onLockChanged_engage (by rw [taken.engine]; exact running) (by rw [taken.currentRecord]; exact record),
    if_neg (by rw [taken.engine, still]; nofun), decide_eq_true rfl, judge_jammed (by rw [taken.engine]; exact running)
      (by rw [taken.currentRecord]; exact record) (taken.unforced hu (by rw [released]; nofun))]
  exact taken.ends .jammed ((inCycle_iff ..).mpr (.inl running)) (.inl released)

omit hu in
/-- An ENGAGE that waits asks again when its lock comes to RELEASED (R93). -/
theorem lockEvent_asks (hx : x.notices = l ++ [.changed a .released]) (waiting : (w.engine c).engageWaiting = true) :
    lockEvent c x w = judge c (askEngage c (lockTaken c x w)).2 (announce (askEngage c (lockTaken c x w)).1) := by
  have taken := AsTaken.taken c x w
  have event : lockEvent c x w = onLockChanged c a .released (lockTaken c x w) := lockEvent_raised hx hl
  rw [event, onLockChanged_engage (by rw [taken.engine]; exact running) (by rw [taken.currentRecord]; exact record),
    if_pos (by rw [taken.engine]; exact waiting)]

/-- The engage begins with the door shut (R55, R93). -/
theorem lockEvent_again (hx : x.notices = l ++ [.changed a .released]) (waiting : (w.engine c).engageWaiting = true)
    (released : x.lock.state = .released) (hb : w.events.outbox = []) (shut : x.lock.levels.doorShut = some true)
    (unset : x.lock.levels.latchSet ≠ some true) :
    (lockEvent c x w).lock c = { x.lock with state := .engaging, motor := .forward, motion := some ⟨.engage, 0⟩ }
      ∧ (lockEvent c x w).engine c = unwaiting (w.engine c) ∧ Unended c (lockEvent c x w) := by
  have taken := AsTaken.taken c x w
  have answer := engage_begins released shut unset
  have asked := askEngage_taken taken running answer nofun
  have goesOn : lockEvent c x w = announce (askEngage c (lockTaken c x w)).1 := by
    rw [lockEvent_asks hl running record hx waiting, askEngage_causes taken answer]
    exact judge_engage asked (by rw [unwaiting_currentRecord, record]) (unwaiting_unforced hu) nofun nofun
  rw [goesOn]
  refine ⟨asked.lock, asked.engine.trans (engine_modEngine_same ..), Unended.congr ?_ (Settles.announce _).events⟩
  exact (unended_applyLock (lockTaken_unended hb)).congr rfl

/-- The engage is refused with the door open, and the cycle ends (R55, R93). -/
theorem lockEvent_refused (hx : x.notices = l ++ [.changed a .released]) (waiting : (w.engine c).engageWaiting = true)
    (released : x.lock.state = .released) (opened : x.lock.levels.doorShut ≠ some true) :
    LockEnds c .doorOpen x.lock (endedBy .aborted .doorOpen x.lock.state (w.engine c)) w (lockEvent c x w) := by
  have taken := AsTaken.taken c x w
  have answer := engage_doorOpen released opened
  have asked := askEngage_taken taken running answer nofun
  have running' : ((w.modEngine c unwaiting).engine c).state = .running := by
    rw [engine_modEngine_same]
    exact running
  have ends := asked.ends .doorOpen ((inCycle_iff ..).mpr (.inl running')) (.inl released)
  have sound : (LockCtl.stay x.lock).lock.state ≠ .faulted := by rw [stay, released]; nofun
  rw [lockEvent_asks hl running record hx waiting, askEngage_causes taken answer]
  show LockEnds _ _ _ _ _ (judge c { doorOpen := true } (announce (askEngage c (lockTaken c x w)).1))
  rw [judge_doorOpen (by rw [asked.engine]; exact running')
    (by rw [asked.currentRecord, unwaiting_currentRecord, record]) (asked.unforced (unwaiting_unforced hu) sound)]
  obtain ⟨lock, engine, segment, cycle⟩ := ends
  rw [engine_modEngine_same] at engine segment
  exact ⟨lock, engine, segment, cycle⟩

/-- The engage in the slot begins as the release comes home (R62). -/
theorem lockEvent_slotBegins (hx : x.notices = l ++ [.changed .releasing .released, .changed .released .engaging])
    (still : (w.engine c).engageWaiting = false) (engaging : x.lock.state = .engaging) :
    lockEvent c x w = lockTaken c x w := by
  have taken := AsTaken.taken c x w
  have event : lockEvent c x w
      = onLockChanged c .released .engaging (onLockChanged c .releasing .released (lockTaken c x w)) :=
    lockEvent_raised hx hl
  have stays : judge c {} (lockTaken c x w) = lockTaken c x w :=
    judge_engage taken record hu (by rw [engaging]; nofun) (by rw [engaging]; nofun)
  have home : onLockChanged c .releasing .released (lockTaken c x w) = lockTaken c x w := by
    rw [onLockChanged_engage (by rw [taken.engine]; exact running) (by rw [taken.currentRecord]; exact record),
      if_neg (by rw [taken.engine, still]; nofun)]
    exact stays
  rw [event, home, onLockChanged_judges (b := .engaging) (taken.inCycle ((inCycle_iff ..).mpr (.inl running))) nofun]
  exact stays

/-- The engage in the slot finds the door open, and the cycle ends (R62, R93). -/
theorem lockEvent_slotRefused (hx : x.notices = l ++ [.changed .releasing .released, .engageRefused .engine])
    (still : (w.engine c).engageWaiting = false) (released : x.lock.state = .released) :
    LockEnds c .doorOpen x.lock (endedBy .aborted .doorOpen x.lock.state (w.engine c)) w (lockEvent c x w) := by
  have taken := AsTaken.taken c x w
  have running' : ((lockTaken c x w).engine c).state = .running := by rw [taken.engine]; exact running
  have record' : (lockTaken c x w).currentRecord c = some .engage := by rw [taken.currentRecord]; exact record
  have event : lockEvent c x w
      = onLockNotice c (.engageRefused .engine) (onLockChanged c .releasing .released (lockTaken c x w)) :=
    lockEvent_raised hx hl
  have home : onLockChanged c .releasing .released (lockTaken c x w) = lockTaken c x w := by
    rw [onLockChanged_engage running' record', if_neg (by rw [taken.engine, still]; nofun)]
    exact judge_engage taken record hu (by rw [released]; nofun) (by rw [released]; nofun)
  have inEngage : (lockTaken c x w).inEngage c = true := by
    rw [State.inEngage, running', record']
    rfl
  have refused : onLockNotice c (.engageRefused .engine) (lockTaken c x w)
      = judge c { doorOpen := true } (lockTaken c x w) := if_pos inEngage
  rw [event, home, refused, judge_doorOpen running' record' (taken.unforced hu (by rw [released]; nofun))]
  exact taken.ends .doorOpen ((inCycle_iff ..).mpr (.inl running)) (.inl released)

end

end State

end Sys2Proof.Machine
end

section
/-!
PROOFS. The expiry of the motion timer (R53, R56, R57, R60; O20).
-/

namespace Sys2Proof.Machine

open Sys2Proof State LockCtl

namespace State

variable {s : State} {c : Cavity} {x : LockStep} {a : LockState}

section
variable {l : LockCtl} {m : Motion}

theorem motionExpiry_jams (hm : l.motion = some m) (hs : l.state = .engaging) (hc : m.cause ≠ .slipRedrive) :
    motionExpiry l = beginJamReturn l := by
  unfold motionExpiry
  rw [hm, hs]
  exact if_neg hc

theorem motionExpiry_faults (hm : l.motion = some m)
    (hs : (l.state = .engaging ∧ ∃ n, l.motion = some ⟨.slipRedrive, n⟩)
      ∨ l.state = .returning ∨ l.state = .releasing) : motionExpiry l = jamFast l := by
  unfold motionExpiry
  rcases hs with ⟨hs, n, hm⟩ | hs | hs
  · rw [hm, hs]
    rfl
  · rw [hm, hs]
  · rw [hm, hs]

end

/-- The record of a LOCK_STUCK that is new, and of the state that an expiry brings (R66). -/
def expiryRecords (c : Cavity) (l l' : LockCtl) : List EventBody :=
  (if l.faults.stuck = false ∧ l'.faults.stuck = true then [.faultRaised (some c) .lockStuck none] else [])
    ++ [.lockChanged c l'.state]

theorem beginJamReturn_records (c : Cavity) (l : LockCtl) :
    noticeBodies c (beginJamReturn l).notices = expiryRecords c l (beginJamReturn l).lock := by
  cases h : l.faults.stuck <;> simp [beginJamReturn, run, expiryRecords, h, noticeBodies, noticeRecord]

theorem jamFast_records (c : Cavity) (l : LockCtl) :
    noticeBodies c (jamFast l).notices = expiryRecords c l (jamFast l).lock := by
  rw [jamFast_eq, noticeBodies_append, noticeBodies_raisedBy]
  cases h : l.faults.stuck <;>
    simp [expiryRecords, stuckAt, h, noticeBodies, noticeRecord, LockFaults.has, lockFaultCode]

/-- What an expiry of the motion timer leaves, whatever its engine answers (R53, R66). -/
structure Expired (c : Cavity) (l' : LockCtl) (s t : State) : Prop where
  exec : exec (.motionTimerExpiry c) s = .next t
  elsewhere : Elsewhere c s t
  sup : t.sup = s.sup
  reported : t.reported (.lockChanged c l'.state)
  faults : s.LockFaultsRecorded c t

theorem motionExpires_expired (hb : s.events.outbox = []) (due : s.motionDue c = true)
    (hx : motionExpiry (s.lock c) = x) (plain : .adopted ∉ x.notices) (changed : .changed a x.lock.state ∈ x.notices) :
    Expired c x.lock s (lockEvent c x s).close where
  exec := by
    rw [← hx]
    exact congrArg Host.Outcome.next (if_pos due)
  elsewhere := (lockEvent_elsewhere c x s plain).close
  sup := by rw [close_sup, lockEvent_sup c x s plain]
  reported := lockEvent_reported plain changed
  faults := lockEvent_faultsRecorded (hx ▸ Notes.motionExpiry (s.lock c)) hb rfl plain

/-- What an end of the cycle by its lock leaves (R110, R113). -/
theorem lockEvent_ends {k : Condition} (plain : .adopted ∉ x.notices) (live : (s.engine c).state ≠ .idle)
    (ended : ((lockEvent c x s).engine c).state = .idle) (posted : AbortPosted c k s (lockEvent c x s)) :
    (lockEvent c x s).close.tableLocks = s.tableLocks.set c false ∧ coldNow (lockEvent c x s).close c
      ∧ s.AbortRecorded c k (lockEvent c x s).close := by
  have acts := (lockEvent_acts c x s plain).1
  have live' : ((lockTaken c x s).engine c).state ≠ .idle := by rw [lockTaken_engine]; exact live
  refine ⟨?_, coldNow_close (acts.coldNow_of_stopped (by rw [ended]; nofun) (by rw [ended]; exact live'.symm)),
    posted.close⟩
  rw [close_tableLocks, acts.tableLocks_eq live', if_pos ended, lockTaken_tableLocks]

end State

/-- Settles O20: the expiry is a jam return or an entry into FAULTED, and the engine answers the change of its lock. -/
theorem motionTimerEndsMotion : Obligations.MotionTimerEndsMotion := by
  intro s c hb l e becomes stuckEnds jamReturn
  refine ⟨fun early => congrArg Host.Outcome.next (if_neg fun due => ?_), fun m hm ran => ?_⟩
  · obtain ⟨m, hm, ran⟩ := motionDue_iff.mp due
    exact absurd (early m hm) (Nat.not_lt.mpr ran)
  have due : s.motionDue c = true := motionDue_iff.mpr ⟨m, hm, ran⟩
  have unanswered : ∀ x b, motionExpiry l = x → .adopted ∉ x.notices → .changed b x.lock.state ∈ x.notices →
      lockEvent c x s = lockTaken c x s → noticeBodies c x.notices = expiryRecords c l x.lock →
      becomes x.lock e none := by
    intro x b hx plain changed silent records
    have expired := motionExpires_expired hb due hx plain changed
    refine ⟨_, expired.exec, ?_, ?_, ?_, expired.elsewhere, expired.sup, expired.reported, expired.faults,
      fun idle room => ?_, fun _ => ?_, nofun⟩
    · rw [silent, lock_close, lockTaken_lock]
    · rw [silent, engine_close, lockTaken_engine]
    · rw [silent, close_tableLocks, lockTaken_tableLocks]
      rfl
    · rw [← expiryRecords, ← records]
      exact lockEvent_queued hb rfl rfl rfl idle plain room
    · rw [silent]
      exact (lockTaken_unended hb).close (lockTaken_quiet c x s).queue
  refine ⟨fun hs hc => ?_, fun hs => ?_⟩
  · have jams : lockEvent c (beginJamReturn l) s
        = onLockChanged c l.state .returning (lockTaken c (beginJamReturn l) s) :=
      lockEvent_raised (l := []) rfl nofun
    have answer := fun silent : onLockChanged c l.state .returning (lockTaken c (beginJamReturn l) s) = _ =>
      unanswered _ l.state (motionExpiry_jams hm hs hc) (by simp [beginJamReturn, run]) (List.mem_singleton_self _)
        (jams.trans silent) (beginJamReturn_records c l)
    refine ⟨fun still => answer ?_, fun f cycle unforced goesOn => answer ?_⟩
    · rcases still with idle | cool
      · exact onLockChanged_idle (by rw [lockTaken_engine]; exact idle)
      · rw [onLockChanged_safeCool (by rw [lockTaken_engine]; exact cool)]
        refine judgeSafeCool_stays ?_
        rw [lockTaken_lock]
        exact ⟨nofun, nofun⟩
    · exact jams.symm.trans (lockEvent_goesOn (l := []) nofun rfl cycle unforced nofun fun running => by
        obtain ⟨r, hr, on⟩ := goesOn running
        exact ⟨r, hr, nofun, on⟩)
  · have hx := motionExpiry_faults hm hs
    have plain : .adopted ∉ (jamFast l).notices := by simp [jamFast_eq, mem_raisedBy]
    have changed : .changed l.state .faulted ∈ (jamFast l).notices := by simp [jamFast_eq]
    have stuck : (jamFast l).lock = stuckAt l := by rw [jamFast_eq]
    have notices : (jamFast l).notices = raisedBy .stuck l ++ [.changed l.state .faulted] := by rw [jamFast_eq]
    have faults : lockEvent c (jamFast l) s = onLockChanged c l.state .faulted (lockTaken c (jamFast l) s) :=
      lockEvent_raised notices raisedBy_raised
    have ends : ∀ k e', e.state ≠ .idle → e'.state = .idle →
        LockEnds c k (stuckAt l) e' s (lockEvent c (jamFast l) s) → becomes (stuckAt l) e' (some k) := by
      rintro k e' live idle ⟨lock, engine, posted⟩
      have expired := motionExpires_expired hb due hx plain changed
      rw [stuck] at expired
      obtain ⟨tableLocks, cold, recorded⟩ := lockEvent_ends plain live (by rw [engine]; exact idle) posted
      refine ⟨_, expired.exec, by rw [lock_close, lock], by rw [engine_close, engine], tableLocks, expired.elsewhere,
        expired.sup, expired.reported, expired.faults, fun still => absurd still live, nofun, ?_⟩
      rintro _ ⟨⟩
      exact ⟨cold, recorded⟩
    refine ⟨fun idle => ?_, fun k cool recorded => ?_, fun f cycle known unforced => ?_⟩
    · rw [← stuck]
      exact unanswered _ l.state hx plain (by rw [stuck]; exact changed)
        (faults.trans (onLockChanged_idle (by rw [lockTaken_engine]; exact idle))) (jamFast_records c l)
    · have cooled := lockEvent_cooled raisedBy_raised notices cool recorded (.inr (by rw [stuck]; rfl))
      rw [stuck] at cooled
      exact ends k _ (by rw [cool]; nofun) rfl cooled
    · have faulted := lockEvent_stuck raisedBy_raised notices cycle known unforced (by rw [stuck]; rfl)
      rw [stuck] at faulted
      exact ends .stuck _ (inCycle_ne cycle (.inl rfl)).symm rfl faulted

end Sys2Proof.Machine
end

section
/-!
PROOFS. What a switch that moves leads to in a cycle and in SAFE_COOL (R54 to R66, R93, R110, R113; O21).
-/

namespace Sys2Proof.Machine

open Sys2Proof State LockCtl

/-! ## A motion that comes home -/

namespace LockCtl

/-- The notice of LOCK_JAM at the end of a return after a jam (R57). -/
def homeRaised (l : LockCtl) : List LockNotice :=
  if l.state = .returning ∧ (l.motion.any fun m => decide (m.cause = .jamReturn)) = true then raisedBy .jam l else []

theorem homeRaised_raised {l : LockCtl} {n : LockNotice} (h : n ∈ homeRaised l) : ∃ y, n = .raised y := by
  unfold homeRaised at h
  split at h
  · exact ⟨_, (mem_raisedBy.mp h).2⟩
  · exact absurd h List.not_mem_nil

variable {p : DoorPolicy} {l : LockCtl}

/-- A lock that comes home with no engage in its slot (R57, R60, R62). -/
theorem react_home (hs : l.state = .releasing ∨ l.state = .returning) (free : ∀ by_, l.slot ≠ some ⟨.engage, by_⟩) :
    react p .latchHome true l = ⟨comeHome l, homeRaised l ++ [.changed l.state .released]⟩ := by
  rcases hs with hs | hs
  · rw [react_releasing_home hs, endReleased_free free]
    simp [comeHome, homeRaised, hs, atRest]
  · rw [react_returning_home hs]
    cases hm : l.motion with
    | none =>
      have plain : endReturning p l = endReleased p l := by
        unfold endReturning
        rw [hm]
      rw [plain, endReleased_free free]
      simp [comeHome, homeRaised, hs, hm, atRest]
    | some m =>
      obtain ⟨cause, n⟩ := m
      rw [endReturning_eq hm, endReleased_free (l := jammedBy cause l) free]
      simp [comeHome, homeRaised, hs, hm, atRest, jammedBy]

end LockCtl

namespace State

variable {s w : State} {c : Cavity} {sw : Switch} {level : Bool} {x : LockStep} {k : Condition}

/-! ## A switch that moves -/

/-- The answer of a lock to a switch that moves (R51, R54). -/
structure Moves (c : Cavity) (sw : Switch) (level : Bool) (s : State) (x : LockStep) : Prop where
  new : (s.lock c).levels.get sw ≠ some level
  answer : switchChange (s.policy c) sw level (s.lock c) = x
  plain : .adopted ∉ x.notices

/-- What a switch that moves leads to: the lock and the engine after it, with the records of every lock state that it
brings, of the faults that it latches, and of the ends (R49, R66, R131). -/
def SwitchLeads (c : Cavity) (sw : Switch) (level : Bool) (s : State) (through : LockState) (recorded : State → Prop)
    (P : LockCtl → Engine → Prop) : Prop :=
  ∃ t, exec (.switchLevelChange c sw level) s = .next t ∧ P (t.lock c) (t.engine c)
    ∧ (t.tableLocks.get c = (s.tableLocks.get c && decide ((t.engine c).state ≠ .idle)))
    ∧ ((t.engine c).state = .idle ∨ (t.engine c).state = .safeCool → coldNow t c)
    ∧ Elsewhere c (s.setSwitchPin c sw level) t ∧ t.sup = s.sup
    ∧ (through ≠ (s.lock c).state → t.reported (.lockChanged c through))
    ∧ ((t.lock c).state ≠ through → t.reported (.lockChanged c (t.lock c).state))
    ∧ s.LockFaultsRecorded c t ∧ recorded t

/-- The event of a switch that moves at the lock of a cavity in a cycle or in SAFE_COOL (R66). -/
theorem switchMoves_leads {through : LockState} {P : LockCtl → Engine → Prop} {told : State → Prop}
    (hb : s.events.outbox = []) (moves : Moves c sw level s x) (hw : s.setSwitchPin c sw level = w)
    (live : (s.engine c).state ≠ .idle)
    (stops : ((lockEvent c x w).engine c).state = .idle ∨ ((lockEvent c x w).engine c).state = .safeCool →
      ((lockEvent c x w).engine c).state ≠ (s.engine c).state)
    (changed : through ≠ (s.lock c).state → ∃ a, .changed a through ∈ x.notices)
    (last : x.lock.state ≠ through → ∃ a, .changed a x.lock.state ∈ x.notices)
    (leads : P ((lockEvent c x w).lock c) ((lockEvent c x w).engine c)) (recorded : told (lockEvent c x w).close) :
    SwitchLeads c sw level s through told P := by
  obtain ⟨new, answer, plain⟩ := moves
  obtain ⟨acts, tells⟩ := lockEvent_acts c x w plain
  have engine : (lockTaken c x w).engine c = s.engine c := by rw [lockTaken_engine, ← hw]; rfl
  refine ⟨(lockEvent c x w).close, ?_, by rw [lock_close, engine_close]; exact leads, ?_, fun stopped => ?_, ?_, ?_,
    fun h => ?_, fun h => ?_, ?_, recorded⟩
  · rw [← answer, ← hw]
    exact congrArg Host.Outcome.next (if_neg new)
  · rw [close_tableLocks, engine_close, acts.tableLock (by rw [engine]; exact live), lockTaken_tableLocks, ← hw]
    rfl
  · rw [engine_close] at stopped
    refine coldNow_close (acts.coldNow_of_stopped ?_ (by rw [engine]; exact stops stopped))
    rcases stopped with h | h <;> rw [h] <;> nofun
  · rw [hw]
    exact (lockEvent_elsewhere c x w plain).close
  · rw [close_sup, lockEvent_sup c x w plain, ← hw]
    rfl
  · obtain ⟨a, ha⟩ := changed h
    exact lockEvent_reported plain ha
  · rw [lock_close] at h ⊢
    rcases tells.told with same | posted
    · rw [same, lockTaken_lock] at h ⊢
      obtain ⟨a, ha⟩ := last h
      exact lockEvent_reported plain ha
    · exact Posted.close posted
  · exact lockEvent_faultsRecorded (answer ▸ Notes.switchChange (s.policy c) sw level (s.lock c)) hb
      (by rw [← hw]; rfl) plain

theorem policy_setSwitchPin (c d : Cavity) (sw : Switch) (level : Bool) (s : State) :
    (s.setSwitchPin c sw level).policy d = s.policy d := rfl

section
variable {through : LockState} (hb : s.events.outbox = []) (moves : Moves c sw level s x)
  (changed : through ≠ (s.lock c).state → ∃ a, .changed a through ∈ x.notices)
  (last : x.lock.state ≠ through → ∃ a, .changed a x.lock.state ∈ x.notices)
include hb moves changed last

/-- A switch that moves in a cycle (R66). -/
theorem switchMoves_cycle {P : LockCtl → Engine → Prop} {told : State → Prop} (cycle : s.inCycle c = true)
    (leads : P ((lockEvent c x (s.setSwitchPin c sw level)).lock c)
      ((lockEvent c x (s.setSwitchPin c sw level)).engine c))
    (recorded : told (lockEvent c x (s.setSwitchPin c sw level)).close) : SwitchLeads c sw level s through told P :=
  switchMoves_leads hb moves rfl (inCycle_ne cycle (.inl rfl)).symm (fun h => inCycle_ne cycle h) changed last leads
    recorded

/-- A switch that ends a cycle (R110, R113). -/
theorem switchMoves_ends {l' : LockCtl} {e' : Engine} (cycle : s.inCycle c = true) (h : LockEnds c k l' e'
      (s.setSwitchPin c sw level) (lockEvent c x (s.setSwitchPin c sw level))) :
    SwitchLeads c sw level s through (s.AbortRecorded c k) fun l e => l = l' ∧ e = e' :=
  switchMoves_cycle hb moves changed last cycle ⟨h.lock, h.engine⟩ h.posted.close

/-- A switch that the engine does not answer, with the lock as its controller leaves it. -/
theorem switchMoves_unanswered (cycle : s.inCycle c = true) (h : lockEvent c x (s.setSwitchPin c sw level)
      = lockTaken c x (s.setSwitchPin c sw level)) :
    SwitchLeads c sw level s through (s.CycleUnrecorded c) fun l e => l = x.lock ∧ e = s.engine c := by
  refine switchMoves_cycle hb moves changed last cycle ?_ ?_
  · rw [h]
    exact ⟨lockTaken_lock .., lockTaken_engine ..⟩
  · rw [h]
    exact Unended.close (lockTaken_unended (w := s.setSwitchPin c sw level) hb)
      (lockTaken_quiet c x (s.setSwitchPin c sw level)).queue

/-- A switch that ends SAFE_COOL (R113). -/
theorem switchMoves_cooled (cool : (s.engine c).state = .safeCool) {l' : LockCtl} {e' : Engine} (he : e'.state = .idle)
    (h : LockEnds c k l' e' (s.setSwitchPin c sw level) (lockEvent c x (s.setSwitchPin c sw level))) :
    SwitchLeads c sw level s through (s.AbortRecorded c k) fun l e => l = l' ∧ e = e' :=
  switchMoves_leads hb moves rfl (by rw [cool]; nofun) (fun _ => by rw [h.engine, he, cool]; nofun) changed last
    ⟨h.lock, h.engine⟩ h.posted.close

end

end State

/-! ## Answers of the lock in a cycle -/

section
variable {s : State} {c : Cavity}

/-- A change of a switch that contradicts nothing (R54). -/
theorem moves_reacts {sw : Switch} {level : Bool} {x : LockStep} (new : (s.lock c).levels.get sw ≠ some level)
    (hn : (s.lock c).state ≠ .notAdopted) (hf : (s.lock c).state ≠ .faulted)
    (hc : ¬ (sw ≠ .doorShut ∧ (moved sw level (s.lock c)).levels.latchHome = some true
      ∧ (moved sw level (s.lock c)).levels.latchSet = some true))
    (hx : react (s.policy c) sw level (moved sw level (s.lock c)) = x) (plain : .adopted ∉ x.notices) :
    Moves c sw level s x :=
  ⟨new, (switchChange_reacts hn hf (contradiction_eq_false hc)).trans hx, plain⟩

theorem moves_breach (new : (s.lock c).levels.doorShut ≠ some false) (hs : (s.lock c).state = .engaged) :
    Moves c .doorShut false s
      ⟨{ moved .doorShut false (s.lock c) with faults := { (s.lock c).faults with breach := true } },
        raisedBy .breach (s.lock c) ++ [.breached]⟩ :=
  moves_reacts new (by rw [hs]; nofun) (by rw [hs]; nofun) (fun h => h.1 rfl)
    ((react_engaged_opened (l := moved .doorShut false (s.lock c)) hs).trans (breach_eq _)) (by simp [mem_raisedBy])

theorem moves_slip {x : LockStep} (new : (s.lock c).levels.latchSet ≠ some false) (hs : (s.lock c).state = .engaged)
    (hx : slip (moved .latchSet false (s.lock c)) = x) : Moves c .latchSet false s x :=
  moves_reacts new (by rw [hs]; nofun) (by rw [hs]; nofun) (fun h => absurd h.2.2 nofun)
    ((react_engaged_unset (l := moved .latchSet false (s.lock c)) hs).trans hx)
    (by rw [← hx]; simp [slip_eq, mem_raisedBy])

/-- The slot of a lock that slips: a release that waits moves into it (R65). -/
def slipSlot (l : LockCtl) : Option LockRequest :=
  match l.releasePending with
  | some by_ => some ⟨.release, by_⟩
  | none => l.slot

theorem slip_redrives {l : LockCtl} (h : l.levels.doorShut = some true) : slip l =
    ⟨{ l with state := .engaging, motor := .forward, motion := some ⟨.slipRedrive, 0⟩,
              faults := { l.faults with slip := true }, releasePending := none, slot := slipSlot l },
      raisedBy .slip l ++ [.slipped] ++ [.changed l.state .engaging]⟩ := by
  rw [slip_eq]
  simp only [if_pos h]
  rfl

theorem slip_returns {l : LockCtl} (h : l.levels.doorShut ≠ some true) : slip l =
    ⟨{ l with state := .returning, motor := .reverse, motion := some ⟨.slipReturn, 0⟩,
              faults := { l.faults with slip := true }, releasePending := none, slot := slipSlot l },
      raisedBy .slip l ++ [.slipped] ++ [.changed l.state .returning]⟩ := by
  rw [slip_eq]
  simp only [if_neg h]
  rfl

theorem moves_contradiction {sw : Switch} {level : Bool} (new : (s.lock c).levels.get sw ≠ some level)
    (hn : (s.lock c).state ≠ .notAdopted) (hf : (s.lock c).state ≠ .faulted)
    (h : contradiction sw (moved sw level (s.lock c)) = true) :
    Moves c sw level s ⟨stuckAt (moved sw level (s.lock c)),
      raisedBy .stuck (s.lock c) ++ [.changed (s.lock c).state .faulted]⟩ where
  new := new
  answer := (switchChange_contradicted hn hf h).trans (jamFast_eq _)
  plain := by simp [mem_raisedBy]

theorem moves_setContradicts (new : (s.lock c).levels.latchSet ≠ some true)
    (home : (s.lock c).levels.latchHome = some true) (hn : (s.lock c).state ≠ .notAdopted)
    (hf : (s.lock c).state ≠ .faulted) : Moves c .latchSet true s ⟨stuckAt (moved .latchSet true (s.lock c)),
      raisedBy .stuck (s.lock c) ++ [.changed (s.lock c).state .faulted]⟩ :=
  moves_contradiction new hn hf (contradiction_iff.mpr ⟨nofun, home, rfl⟩)

theorem moves_homeContradicts (new : (s.lock c).levels.latchHome ≠ some true)
    (set : (s.lock c).levels.latchSet = some true) (hn : (s.lock c).state ≠ .notAdopted)
    (hf : (s.lock c).state ≠ .faulted) : Moves c .latchHome true s ⟨stuckAt (moved .latchHome true (s.lock c)),
      raisedBy .stuck (s.lock c) ++ [.changed (s.lock c).state .faulted]⟩ :=
  moves_contradiction new hn hf (contradiction_iff.mpr ⟨nofun, rfl, set⟩)

theorem moves_engaged (new : (s.lock c).levels.latchSet ≠ some true) (away : (s.lock c).levels.latchHome ≠ some true)
    (hs : (s.lock c).state = .engaging) (empty : (s.lock c).slot = none) :
    Moves c .latchSet true s (rest .engaged (moved .latchSet true (s.lock c))) :=
  moves_reacts new (by rw [hs]; nofun) (by rw [hs]; nofun) (fun h => away h.2.1)
    ((react_engaging_set (l := moved .latchSet true (s.lock c)) hs).trans (endEngaged_none empty)) (by simp [rest])

section
variable (new : (s.lock c).levels.latchHome ≠ some true) (unset : (s.lock c).levels.latchSet ≠ some true)
include new unset

theorem moves_home (hs : (s.lock c).state = .releasing ∨ (s.lock c).state = .returning)
    (free : ∀ by_, (s.lock c).slot ≠ some ⟨.engage, by_⟩) :
    Moves c .latchHome true s ⟨comeHome (moved .latchHome true (s.lock c)),
      homeRaised (moved .latchHome true (s.lock c)) ++ [.changed (s.lock c).state .released]⟩ := by
  refine moves_reacts new ?_ ?_ (fun h => unset h.2.2) (react_home (l := moved .latchHome true (s.lock c)) hs free) ?_
  · rcases hs with hs | hs <;> rw [hs] <;> nofun
  · rcases hs with hs | hs <;> rw [hs] <;> nofun
  · intro h
    rcases List.mem_append.mp h with h | h
    · obtain ⟨y, hy⟩ := homeRaised_raised h
      exact absurd hy nofun
    · exact absurd (List.mem_singleton.mp h) nofun

section
variable (hs : (s.lock c).state = .releasing) (waiting : (s.lock c).slot = some ⟨.engage, .engine⟩)
include hs waiting

/-- The engage in the slot begins with the door shut (R62). -/
theorem moves_slotBegins (shut : (s.lock c).levels.doorShut = some true) : Moves c .latchHome true s
    ⟨{ comeHome (moved .latchHome true (s.lock c)) with
        state := .engaging, motor := .forward, motion := some ⟨.engage, 0⟩ },
      [.changed .releasing .released, .changed .released .engaging]⟩ := by
  refine moves_reacts new (by rw [hs]; nofun) (by rw [hs]; nofun) (fun h => unset h.2.2)
    ((react_releasing_home (l := moved .latchHome true (s.lock c)) hs).trans
      ((endReleased_engages (l := moved .latchHome true (s.lock c)) waiting shut unset).trans ?_)) (by simp)
  simp [comeHome, LockCtl.moved, hs]

/-- The engage in the slot is refused with the door open (R62). -/
theorem moves_slotRefused (opened : (s.lock c).levels.doorShut ≠ some true) : Moves c .latchHome true s
    ⟨comeHome (moved .latchHome true (s.lock c)), [.changed .releasing .released, .engageRefused .engine]⟩ := by
  refine moves_reacts new (by rw [hs]; nofun) (by rw [hs]; nofun) (fun h => unset h.2.2)
    ((react_releasing_home (l := moved .latchHome true (s.lock c)) hs).trans
      ((endReleased_refuses (l := moved .latchHome true (s.lock c)) waiting opened).trans ?_)) (by simp)
  simp [comeHome, LockCtl.moved, atRest, hs]

end

end

end

/-- Settles O21: the answer of the lock to each switch, and what the engine makes of it. -/
theorem lockSwitchesMoveCycle : Obligations.LockSwitchesMoveCycle := by
  intro s c hb l e moved leads nothing become ends slotFree
  refine ⟨fun f cycle known unforced => ⟨fun hs new => ?_, fun hs new shut => ?_, fun hs new opened => ?_,
    fun adopted => ⟨fun home new => ?_, fun set new => ?_⟩, fun hs new away empty => ⟨fun index running record hi => ?_,
      fun on => ?_⟩, fun new unset => ?_⟩, fun k cool recorded => ⟨fun hs free new unset => ?_,
      fun adopted sound home new => ?_⟩⟩
  · have lead := switchMoves_ends (through := .engaged) hb (moves_breach new hs) (absurd hs.symm) (absurd hs) cycle
      (lockEvent_breached raisedBy_raised (policy_setSwitchPin ..) rfl cycle known unforced hs)
    exact lead
  · have lead := switchMoves_ends (through := .engaging) hb (moves_slip new hs (slip_redrives shut))
      (fun _ => ⟨l.state, by simp [LockCtl.moved, l]⟩) (absurd rfl) cycle
      (lockEvent_slipped raisedBy_raised (policy_setSwitchPin ..) rfl cycle known unforced ⟨nofun, nofun⟩)
    exact lead
  · have lead := switchMoves_ends (through := .returning) hb (moves_slip new hs (slip_returns opened))
      (fun _ => ⟨l.state, by simp [LockCtl.moved, l]⟩) (absurd rfl) cycle
      (lockEvent_slipped raisedBy_raised (policy_setSwitchPin ..) rfl cycle known unforced ⟨nofun, nofun⟩)
    exact lead
  · obtain ⟨-, -, -, sound⟩ := id unforced
    have lead := switchMoves_ends (through := .faulted) hb (moves_setContradicts new home adopted sound)
      (fun _ => ⟨l.state, by simp [l]⟩) (absurd rfl) cycle
      (lockEvent_stuck raisedBy_raised rfl cycle known unforced rfl)
    exact lead
  · obtain ⟨-, -, -, sound⟩ := id unforced
    have lead := switchMoves_ends (through := .faulted) hb (moves_homeContradicts new set adopted sound)
      (fun _ => ⟨l.state, by simp [l]⟩) (absurd rfl) cycle
      (lockEvent_stuck raisedBy_raised rfl cycle known unforced rfl)
    exact lead
  · obtain ⟨done, told⟩ := lockEvent_done (s := s) (w := s.setSwitchPin c .latchSet true)
      (x := rest .engaged (LockCtl.moved .latchSet true (s.lock c))) (l := []) nofun rfl rfl
      (policy_setSwitchPin ..) rfl running record hi unforced nofun nofun (fun g => g rfl)
    exact switchMoves_cycle (through := .engaged)
      (P := s.DoneLeadsTo c index f (rest .engaged (LockCtl.moved .latchSet true (s.lock c))).lock (s.engine c)) hb
      (moves_engaged new away hs empty) (fun _ => ⟨l.state, List.mem_singleton_self _⟩) (absurd rfl) cycle done told
  · have lead := switchMoves_unanswered (through := .engaged) hb (moves_engaged new away hs empty)
      (fun _ => ⟨l.state, List.mem_singleton_self _⟩) (absurd rfl) cycle
      (lockEvent_goesOn (l := []) nofun rfl cycle unforced nofun fun running => by
        obtain ⟨r, hr, goesOn⟩ := on running
        exact ⟨r, hr, nofun, goesOn⟩)
    exact lead
  · intro home again
    refine ⟨fun hs free => ⟨fun index running record hi => ?_, fun running record waiting => ⟨fun shut => ?_,
      fun opened => ?_⟩, fun hr running record still => ?_, fun on => ?_⟩,
      fun hs waiting running record still => ⟨fun shut => ?_, fun opened => ?_⟩⟩
    · obtain ⟨done, told⟩ := lockEvent_done (s := s) (w := s.setSwitchPin c .latchHome true)
        (x := ⟨home, homeRaised (LockCtl.moved .latchHome true (s.lock c)) ++ [.changed (s.lock c).state .released]⟩)
        (fun _ => homeRaised_raised) rfl rfl (policy_setSwitchPin ..) rfl running record hi unforced nofun
        (fun _ => nofun) (fun g => g rfl)
      exact switchMoves_cycle (through := .released) (P := s.DoneLeadsTo c index f home (s.engine c)) hb
        (moves_home new unset hs free) (fun _ => ⟨l.state, by simp [l]⟩) (absurd rfl) cycle done told
    · obtain ⟨lock, engine, unended⟩ := lockEvent_again (w := s.setSwitchPin c .latchHome true)
        (x := ⟨home, homeRaised (LockCtl.moved .latchHome true (s.lock c)) ++ [.changed (s.lock c).state .released]⟩)
        (fun _ => homeRaised_raised) running record unforced rfl waiting rfl hb shut unset
      exact switchMoves_cycle (through := .released)
        (P := fun l e => l = again ∧ e = unwaiting (s.engine c)) hb (moves_home new unset hs free)
        (fun _ => ⟨l.state, by simp [l]⟩) (absurd rfl) cycle ⟨lock, engine⟩
        (unended.close (Quiet.lockEvent c _ _).queue)
    · have lead := switchMoves_ends (through := .released) hb (moves_home new unset hs free)
        (fun _ => ⟨l.state, by simp [l]⟩) (absurd rfl) cycle
        (lockEvent_refused (fun _ => homeRaised_raised) running record unforced rfl waiting rfl opened)
      exact lead
    · have moves := moves_home new unset hs free
      rw [show (s.lock c).state = .returning from hr] at moves
      have lead := switchMoves_ends (through := .released) hb moves (fun _ => ⟨.returning, by simp⟩) (absurd rfl) cycle
        (lockEvent_jammed (fun _ => homeRaised_raised) running record unforced rfl still rfl)
      exact lead
    · have lead := switchMoves_unanswered (through := .released) hb (moves_home new unset hs free)
        (fun _ => ⟨l.state, by simp [l]⟩) (absurd rfl) cycle
        (lockEvent_goesOn (fun _ => homeRaised_raised) rfl cycle unforced nofun fun running => by
          obtain ⟨r, hr, other, goesOn⟩ := on running
          exact ⟨r, hr, fun _ => other, goesOn⟩)
      exact lead
    · have lead := switchMoves_unanswered (through := .released) hb (moves_slotBegins new unset hs waiting shut)
        (fun _ => ⟨.releasing, by simp⟩) (fun _ => ⟨.released, by simp⟩) cycle
        (lockEvent_slotBegins (l := []) nofun running record unforced rfl still rfl)
      exact lead
    · have lead := switchMoves_ends (through := .released) hb (moves_slotRefused new unset hs waiting opened)
        (fun _ => ⟨.releasing, by simp⟩) (absurd rfl) cycle
        (lockEvent_slotRefused (l := []) nofun running record unforced rfl still rfl)
      exact lead
  · have lead := switchMoves_cooled (through := .released) hb (moves_home new unset hs free)
      (fun _ => ⟨l.state, by simp [l]⟩) (absurd rfl) cool rfl
      (lockEvent_cooled (fun _ => homeRaised_raised) rfl cool recorded (.inl rfl))
    exact lead
  · have lead := switchMoves_cooled (through := .faulted) hb (moves_setContradicts new home adopted sound)
      (fun _ => ⟨l.state, by simp [l]⟩) (absurd rfl) cool rfl
      (lockEvent_cooled raisedBy_raised rfl cool recorded (.inr rfl))
    exact lead

end Sys2Proof.Machine
end
